-- ==== Sys2Proof/Word.lean ====
section
/-! DEFINITION. Words, bytes, and the two fixed collections the manual counts by channel: four voltage channels,
eight channels. -/

namespace Sys2Proof

/-- A port word, a sample link word (R42, R195). -/
abbrev Word := BitVec 16

/-- One byte of a record, of text or of the printer line. -/
abbrev Byte := BitVec 8

/-- One value for each of channels 0 to 3, the channels with residuals. -/
structure Four (α : Type) where
  c0 : α
  c1 : α
  c2 : α
  c3 : α
deriving DecidableEq, Repr

/-- One value for each of channels 0 to 7. -/
structure Eight (α : Type) where
  c0 : α
  c1 : α
  c2 : α
  c3 : α
  c4 : α
  c5 : α
  c6 : α
  c7 : α
deriving DecidableEq, Repr

variable {α β γ : Type}

/-- The value of channel i (channels 0 to 3). -/
def Four.get (f : Four α) : Nat → α
  | 0 => f.c0
  | 1 => f.c1
  | 2 => f.c2
  | _ => f.c3

/-- The collection whose channel i holds g i. -/
def Four.ofFn (g : Nat → α) : Four α := ⟨g 0, g 1, g 2, g 3⟩

/-- The same value on every channel. -/
def Four.all (a : α) : Four α := ⟨a, a, a, a⟩

def Four.map (g : α → β) (f : Four α) : Four β := ⟨g f.c0, g f.c1, g f.c2, g f.c3⟩

def Four.zip (g : α → β → γ) (f : Four α) (h : Four β) : Four γ :=
  ⟨g f.c0 h.c0, g f.c1 h.c1, g f.c2 h.c2, g f.c3 h.c3⟩

/-- Channel 0 first. -/
def Four.toList (f : Four α) : List α := [f.c0, f.c1, f.c2, f.c3]

def Four.set (f : Four α) (i : Nat) (a : α) : Four α :=
  match i with
  | 0 => { f with c0 := a }
  | 1 => { f with c1 := a }
  | 2 => { f with c2 := a }
  | _ => { f with c3 := a }

/-- The value of channel i (channels 0 to 7). -/
def Eight.get (f : Eight α) : Nat → α
  | 0 => f.c0
  | 1 => f.c1
  | 2 => f.c2
  | 3 => f.c3
  | 4 => f.c4
  | 5 => f.c5
  | 6 => f.c6
  | _ => f.c7

def Eight.ofFn (g : Nat → α) : Eight α := ⟨g 0, g 1, g 2, g 3, g 4, g 5, g 6, g 7⟩

def Eight.all (a : α) : Eight α := ⟨a, a, a, a, a, a, a, a⟩

def Eight.toList (f : Eight α) : List α := [f.c0, f.c1, f.c2, f.c3, f.c4, f.c5, f.c6, f.c7]

def Eight.set (f : Eight α) (i : Nat) (a : α) : Eight α :=
  match i with
  | 0 => { f with c0 := a }
  | 1 => { f with c1 := a }
  | 2 => { f with c2 := a }
  | 3 => { f with c3 := a }
  | 4 => { f with c4 := a }
  | 5 => { f with c5 := a }
  | 6 => { f with c6 := a }
  | _ => { f with c7 := a }

end Sys2Proof
end

