-- ==== Sys2Proof/Syntax.lean ====
section
/-! DEFINITION. The commands of the KC8: one constructor of `Instr` per row of spec/opcode_table.json, and the names their
operands use (ports, contexts, record bodies). -/

namespace Sys2Proof

/-- The two master ports (R194). -/
inductive Port where
  | a
  | b
deriving DecidableEq, Repr

/-- The two detector contexts (R84). -/
inductive DetCtx where
  | low
  | high
deriving DecidableEq, Repr

/-- Record kinds, in the order of their codes (R209). -/
inductive RecordKind where
  | event
  | wave
  | interval
  | note
  | setting
  | mark
deriving DecidableEq, Repr

/-- Record origins, in the order of their codes (R18, R209). -/
inductive Origin where
  | detector
  | capture
  | aggregator
  | kit
  | survey
  | portA
  | portB
deriving DecidableEq, Repr

/-- Event classes (R90). -/
inductive EventClass where
  | dip
  | intr
  | swell
deriving DecidableEq, Repr

/-- The flags of an event, in the order of R93. -/
structure EventFlags where
  clipped : Bool
  capped : Bool
  test : Bool
  cut : Bool
  linkLost : Bool
  probeChange : Bool
  calOverdue : Bool
  noWave : Bool
  waveShared : Bool
  wavePartial : Bool
deriving DecidableEq, Repr

/-- Thresholds frozen at an opening: Td, Ti, H in LOW; Ts, none, H in HIGH (R84, R86, R89). -/
structure Frozen where
  limit : Nat
  intr : Nat
  hyst : Nat
deriving DecidableEq, Repr

/-- Body of an EVENT record (R92, R209). -/
structure EventBody where
  cls : EventClass
  startHc : Nat
  endHc : Nat
  duration : Nat
  startMs : Nat
  endMs : Nat
  frozen : Frozen
  extreme : Nat
  worst : Nat
  involved : Four Bool
  /-- One residual for each involved channel; none on the others. -/
  extremes : Four (Option Nat)
  merges : Nat
  flags : EventFlags
  capture : Option Nat
  /-- First WAVE sequence and the number of WAVE records stored. -/
  wave : Option (Nat × Nat)
deriving DecidableEq, Repr

/-- Body of a WAVE record (R103, R209). -/
structure WaveBody where
  capture : Nat
  index : Int
  clipped : Bool
  held : Bool
  p : Nat
  q : Nat
  doneMs : Nat
  samples : Four (List Int)
deriving DecidableEq, Repr

/-- Occupancy counts (R76). -/
structure Occupancy where
  one : Nat
  two : Nat
  threePlus : Nat
deriving DecidableEq, Repr

/-- One entry of an exceedance list (R125). -/
structure Exceedance where
  channel : Nat
  order : Nat
  count : Nat
deriving DecidableEq, Repr

/-- The flags of an INTERVAL record (R126). -/
structure IntervalFlags where
  flagged : Bool
  partialClose : Bool
  split : Bool
  calOverdue : Bool
  test : Bool
  more : Bool
deriving DecidableEq, Repr

/-- Body of an INTERVAL record (R126, R209). -/
structure IntervalBody where
  number : Nat
  length : Nat
  first : Nat
  last : Nat
  aggregated : Nat
  excluded : Nat
  missing : Nat
  unpowered : BitVec 8
  occupancy : Occupancy
  closeMs : Nat
  kept : Nat
  mask : BitVec 8
  /-- Per channel: the aggregated magnitudes of orders 1 to Hk, or none where the channel is absent. -/
  magnitudes : Eight (Option (List Nat))
  thd : Four (Option Nat)
  exceedTotal : Nat
  exceed : List Exceedance
  flags : IntervalFlags
deriving DecidableEq, Repr

/-- Note categories, in the order of R141. -/
inductive Category where
  | site
  | load
  | weather
  | probe
  | other
deriving DecidableEq, Repr

/-- One citation entry of a NOTE body (R209, R210). -/
structure CiteEntry where
  seq : Nat
  surveyMs : Nat
  kind : RecordKind
  origin : Origin
  test : Bool
  superseded : Bool
  reference : Nat
deriving DecidableEq, Repr

/-- Body of a NOTE record (R148, R209). -/
structure NoteBody where
  author : Nat
  category : Category
  observed : Nat
  observedGiven : Bool
  observedClamped : Bool
  truncated : Bool
  /-- The supersedes target and its survey ms (R210). -/
  supersedes : Option (Nat × Nat)
  cites : List CiteEntry
  received : Nat
  parts : Nat
  text : List Byte
deriving DecidableEq, Repr

/-- Setting items, in the order of their codes 1 to 22 (R210). -/
inductive Item where
  | journalPolicy
  | syncA
  | syncB
  | syncF
  | bandEdges
  | dipThreshold
  | intrThreshold
  | swellThreshold
  | hysteresis
  | holdOff
  | preCycles
  | postCycles
  | intervalLength
  | keptOrders
  | recordMask
  | flagPolicy
  | limit
  | probe
  | supply
  | baud
  | parity
  | stallTimeout
deriving DecidableEq, Repr

/-- Body of a SETTING record (R13, R210). -/
structure SettingBody where
  item : Item
  qualifier : Nat
  clamped : Bool
  old : List Word
  new : List Word
deriving DecidableEq, Repr

/-- Probe kinds, in the order of their codes (R129, R210). -/
inductive ProbeKind where
  | none
  | voltageLead
  | clamp
  | flex
deriving DecidableEq, Repr

/-- Link states of the Sample Link Receiver (R46). -/
inductive LinkState where
  | hunt
  | confirm
  | locked
  | brk
  | loopback
deriving DecidableEq, Repr

/-- Why a survey stopped (R5): at a port's request, or at the sequence limit. -/
inductive StopReason where
  | request (p : Port)
  | seqLimit
deriving DecidableEq, Repr

/-- Why lock was lost (R57). -/
inductive DownReason where
  | badFrames
  | syncChange
  | brk
deriving DecidableEq, Repr

/-- Why the generator stopped (R62). -/
inductive OffReason where
  | complete
  | request
  | surveyStop
deriving DecidableEq, Repr

/-- Body of a MARK record, by subkind in the order of the codes (R209, MARK body). -/
inductive MarkBody where
  | surveyStart (site : List Byte) (date ms freq : Nat) (present : BitVec 8) (faulted enable : Bool)
  | surveyStop (reason : StopReason)
  | timeStep (oldDate oldMs newDate newMs : Nat)
  | loss (event wave interval mark : Nat)
  | linkUp (filler : Bool) (badTotal : Nat)
  | linkDown (reason : DownReason) (badTotal instants : Nat)
  | frontendOff (fromLocked : Bool)
  | selftestOn (levelA levelB ka kb repeats : Nat) (replaced : LinkState)
  | selftestOff (reason : OffReason) (repeatsDone frames : Nat)
  | probeIn (channel : Nat) (kind : ProbeKind) (byEntry : Bool) (present : BitVec 8)
  | probeOut (channel : Nat) (kind : ProbeKind) (byEntry : Bool) (present : BitVec 8)
  | probeFault (supplyOn already : Bool) (unpowered : BitVec 8)
  | supplyRestored (port : Port) (supplyOn enable : Bool)
deriving DecidableEq, Repr

/-- A record body, by kind (R18). -/
inductive Body where
  | event (e : EventBody)
  | wave (w : WaveBody)
  | interval (i : IntervalBody)
  | note (n : NoteBody)
  | setting (s : SettingBody)
  | mark (m : MarkBody)
deriving DecidableEq, Repr

/-- Select in a period: still asserted, or released after some bits of a word not yet whole (R195, R196). -/
inductive Select where
  | asserted
  | released (extraBits : Fin 16)
deriving DecidableEq, Repr

/-- A select period whose words after the first are disregarded: how many the master has clocked in after the first, and whether
select is then released (R195). -/
structure Clocked where
  more : Nat
  released : Bool
deriving DecidableEq, Repr

/-- A select period that is a port reset, and its port (R195, R198). -/
structure ResetPeriod where
  port : Port
  clocked : Clocked
deriving DecidableEq, Repr

/-- The reception of a byte: its stop bit (R184), and whether its start bit was received under the PARITY that a change since has
replaced (R179). -/
structure Reception where
  stopBit : Bool
  begunBefore : Bool
deriving DecidableEq, Repr

/-- The commands of the block: the rows of spec/opcode_table.json, in the table's order. -/
inductive Instr where
  | powerOn
  | resetPin
  | surveyClockTick
  /-- A select period: the whole words clocked in so far, and select after them (R195, R196). -/
  | requestFrame (p : Port) (words : List Word) (select : Select)
  /-- A port reset: the words after the reset word (R195, R198). -/
  | portReset (period : ResetPeriod)
  /-- A fetch frame: the words the master has clocked after the FETCH word (R195, R199). -/
  | fetchFrame (p : Port) (clocked : Clocked)
  | fetchComplete (p : Port)
  | surveyStart (p : Port)
  | surveyStop (p : Port)
  | seqLimitStop
  | surveyClear (p : Port)
  | setTime (p : Port)
  | setJournalPolicy (p : Port)
  | setSyncA (p : Port)
  | setSyncB (p : Port)
  | setSyncF (p : Port)
  | setBandEdges (p : Port)
  | setDipThreshold (p : Port)
  | setIntrThreshold (p : Port)
  | setSwellThreshold (p : Port)
  | setHysteresis (p : Port)
  | setHoldOff (p : Port)
  | setPreCycles (p : Port)
  | setPostCycles (p : Port)
  | setIntervalLength (p : Port)
  | setKeptOrders (p : Port)
  | setRecordMask (p : Port)
  | setFlagPolicy (p : Port)
  | setLimit (p : Port)
  | setSupply (p : Port)
  | setBaud (p : Port)
  | setParity (p : Port)
  | setStallTimeout (p : Port)
  | probeSet (p : Port)
  | get (p : Port)
  /-- The release of a well-formed STATUS frame with this body (R197, R207). -/
  | status (p : Port) (body : List Word)
  | live (p : Port)
  | counters (p : Port)
  | readNext (p : Port)
  | seek (p : Port)
  | postFrame (p : Port)
  | noteBegin (p : Port)
  | notePart (p : Port)
  | printSubmit (p : Port)
  | printCancel (p : Port)
  | printResume (p : Port)
  | printList (p : Port)
  | supplyRestore (p : Port)
  | selftestStart (p : Port)
  | selftestStop (p : Port)
  /-- The release of a well-formed PORT_CONFIG frame with this body (R197, R206). -/
  | portConfig (p : Port) (body : List Word)
  /-- A hardware append at the Journal Manager: the body and the TEST flag its block gives (R20, R21). -/
  | append (body : Body) (test : Bool)
  | appendRefusalTaken
  | newRecordDivider (p : Port)
  | syncAMatch (bit : Bool)
  | confirmWord (bit : Bool)
  | goodDataFrame (bit : Bool)
  | fillerFrame (bit : Bool)
  | badFrame (bit : Bool)
  | lossOfLock (bit : Bool)
  | breakEntry
  | breakEnd
  | testFrame
  | phaseChange
  | sampleSet
  | halfCycleBoundary
  | hcuSourceLossNotice
  | halfCycleValue
  | holdOffExpiry
  | probeNotice
  | detectorSourceLossNotice
  | stopNoticeDetector
  | trigger (x : DetCtx)
  | triggerAnswer (x : DetCtx)
  | ringSampleSet
  | ringCycleComplete
  | captureSourceLossNotice
  | stopNoticeCapture
  | endNotice (x : DetCtx)
  | eventOpeningNotice
  | stopNoticeAggregator
  | stopNoticeGenerator
  | senseLineChange (c : Fin 8) (high : Bool)
  | debounceExpiry (c : Fin 8)
  | faultInputActive
  | faultInputInactive
  | startRequest
  | room
  | clearToSendChange (asserted : Bool)
  | shiftRegisterByteEnd
  /-- A byte whose reception ends: its data bits, its parity bit (read with PARITY EVEN only), and the rest of its reception (R179,
  R184). -/
  | byteReceived (data : Byte) (parityBit : Bool) (reception : Reception)
  | statusByte
  | printerReadyChange (active : Bool)
  | inquiryTimerExpiry
  | pollTimerExpiry
  | stallTimerExpiry
  | breakTimerExpiry
  | bitArrival (bit : Bool)
deriving DecidableEq, Repr

end Sys2Proof
end

