-- ==== Sys2Proof/WellFormed.lean ====
section
/-! DEFINITION. Well-formed commands: the operands that a command can carry (R18, R92, R103, R126, R195 to R197, R209). -/

namespace Sys2Proof

/-- A field of two bytes. -/
def fits16 (n : Nat) : Bool := decide (n < 65536)

/-- A field of four bytes. -/
def fits32 (n : Nat) : Bool := decide (n < 4294967296)

/-- A residual (R68). -/
def isResidual (n : Nat) : Bool := decide (n ≤ 1999)

/-- A sample as the front end and the generator send it (R43). -/
def isSample (i : Int) : Bool := decide (-32767 ≤ i) && decide (i ≤ 32767)

/-- An involved channel has an extreme, any other has none (R92). -/
def extremesMatch (involved : Four Bool) (extremes : Four (Option Nat)) : Bool :=
  (Four.zip (fun i (x : Option Nat) => i == x.isSome && isResidual (x.getD 0)) involved extremes) == .all true

/-- The wave field names at least one stored record, and only where a capture is named (R92). -/
def waveFieldWf (capture : Option Nat) (wave : Option (Nat × Nat)) : Bool :=
  match wave with
  | none => true
  | some (first, stored) => capture.isSome && fits32 first && decide (1 ≤ stored) && decide (stored ≤ 32)

def EventBody.wf (e : EventBody) : Bool :=
  fits32 e.startHc && fits32 e.endHc && fits32 e.duration && fits32 e.startMs && fits32 e.endMs
    && fits16 e.frozen.limit && fits16 e.frozen.intr && fits16 e.frozen.hyst
    && isResidual e.extreme && decide (e.worst < 4) && decide (e.merges < 256)
    && extremesMatch e.involved e.extremes
    && fits16 (e.capture.getD 0) && (e.capture.isSome == !e.flags.noWave) && waveFieldWf e.capture e.wave

def WaveBody.wf (w : WaveBody) : Bool :=
  fits16 w.capture && decide (-8 ≤ w.index) && decide (w.index ≤ 23)
    && decide (1 ≤ w.p) && decide (w.p ≤ 8) && decide (1 ≤ w.q) && decide (w.q ≤ 24) && fits32 w.doneMs
    && w.samples.toList.all fun l => l.length == 64 && l.all isSample

/-- The magnitudes of a present channel: Hk of them, each of two bytes (R123). -/
def magnitudesWf (kept : Nat) (m : Option (List Nat)) : Bool :=
  match m with
  | none => true
  | some l => l.length == kept && l.all fits16

def IntervalBody.wf (b : IntervalBody) : Bool :=
  fits32 b.number && fits32 b.first && fits32 b.last && decide (15 ≤ b.length) && decide (b.length ≤ 3000)
    && decide (b.aggregated ≤ 3000) && decide (b.excluded ≤ 3000) && decide (b.missing ≤ 3000)
    && decide (2 ≤ b.kept) && decide (b.kept ≤ 50)
    && fits32 b.occupancy.one && fits32 b.occupancy.two && fits32 b.occupancy.threePlus
    && fits32 b.closeMs && fits32 b.exceedTotal
    && (b.magnitudes.toList.all (magnitudesWf b.kept))
    && decide ((b.magnitudes.toList.map fun m => (m.getD []).length).sum ≤ 400)
    && (b.thd.toList.all fun t => decide (t.getD 0 ≤ 9999))
    && decide (b.exceed.length ≤ 32)
    && b.exceed.all fun e => decide (e.channel < 4) && decide (2 ≤ e.order) && decide (e.order ≤ 50) && fits16 e.count

/-- The marks a block appends of its own accord; MARK SURVEY_START, LOSS and TIME_STEP are made otherwise (R20). -/
def MarkBody.wf : MarkBody → Bool
  | .surveyStart _ _ _ _ _ _ _ => false
  | .timeStep _ _ _ _ => false
  | .loss _ _ _ _ => false
  | .surveyStop _ => true
  | .linkUp _ total => fits32 total
  | .linkDown _ total instants => fits32 total && fits32 instants
  | .frontendOff _ => true
  | .selftestOn a b ka kb n _ =>
    decide (a ≤ 32767) && decide (b ≤ 32767) && decide (1 ≤ ka) && decide (ka ≤ 255) && decide (1 ≤ kb)
      && decide (kb ≤ 255) && decide (1 ≤ n) && decide (n ≤ 255)
  | .selftestOff _ n frames => decide (n ≤ 255) && decide (frames ≤ 16646400)
  | .probeIn c _ _ _ => decide (c < 8)
  | .probeOut c _ _ _ => decide (c < 8)
  | .probeFault _ _ _ => true
  | .supplyRestored _ _ _ => true

/-- The body of a hardware record (R20): NOTE and SETTING are port appends. -/
def Body.wf : Body → Bool
  | .event e => e.wf
  | .wave w => w.wf
  | .interval b => b.wf
  | .mark m => m.wf
  | .note _ => false
  | .setting _ => false

/-- A select period that is a request frame (R195): neither nothing, nor a fetch, nor a port reset. -/
def frameWf (words : List Word) (extraBits : Nat) : Bool :=
  match words with
  | [] => extraBits != 0
  | w :: _ => w != 0xFEFE && w != 0xFFFF

/-- The operands of a command are ones it can carry. -/
def Instr.wf : Instr → Bool
  | .requestFrame _ words _ => words.isEmpty || frameWf words 0
  | .status _ body => decide (body.length ≤ 255)
  | .portConfig _ body => decide (body.length ≤ 255)
  | .append body _ => body.wf
  | _ => true

end Sys2Proof
end

