-- ==== Sys2Proof/Config.lean ====
section
/-! DEFINITION. The sizes and limits the manual fixes for every part, and the model's free values. -/

namespace Sys2Proof.Config

/-- Slots of the journal store (R17). -/
def journalSlots : Nat := 8192

/-- Bytes in a slot (R17). -/
def slotBytes : Nat := 64

/-- Bytes of a record header (R18). -/
def headerBytes : Nat := 16

/-- Free slots below which the low-space warning is raised (R32). -/
def lowSpace : Nat := 1024

/-- First sequence number of the stop reserve (R6). -/
def reserveStart : Nat := 0xFFFFFF00

/-- Largest value of a 32-bit saturating counter. -/
def max32 : Nat := 0xFFFFFFFF

/-- Largest value of a 16-bit saturating counter. -/
def max16 : Nat := 65535

/-- Milliseconds of a day (R11). -/
def dayMs : Nat := 86400000

/-- Samples of the Half-Cycle Unit's window (R65). -/
def windowSize : Nat := 256

/-- Sample sets of a half cycle (R67). -/
def halfCycle : Nat := 128

/-- Zero bits in a row that mean BREAK (R42, R55). -/
def breakRun : Nat := 352

/-- Jobs of the print queue and entries of the end list (R154, R159). -/
def queueSize : Nat := 8

/-- Bytes of the transmit FIFO (R180). -/
def fifoSize : Nat := 64

/-- Bytes of a response buffer (R35, R199). -/
def responseBytes : Nat := 2048

/-- Debounce time in ms (R132). -/
def debounceMs : Nat := 50

/-- The printer line's timers in ms (R180, R188, R190, R191). -/
def inquiryMs : Nat := 500
def pollMs : Nat := 1000
def breakMs : Nat := 250

/-- FREE VALUE: the n-th value the manual leaves open (notes/assumptions/13 and 14). No body: nothing can be proved of it. -/
opaque freeMs : Nat → BitVec 32

/-- FREE VALUE: the n-th day number the manual leaves open (notes/assumptions/14). No body: nothing can be proved of it. -/
opaque freeDay : Nat → BitVec 16

end Sys2Proof.Config
end

