-- ==== Sys2Proof/Machine/State.lean ====
section
/-! DEFINITION. The state of the KC8 as plain data: one structure per block of the manual, the messages between blocks, the
queue of waiting commands, and the state after reset. -/

namespace Sys2Proof.Machine

open Sys2Proof

/-- The manual names no fault of the part (INVENTORY.md, Faults): no meaning raises one. -/
inductive Fault
deriving DecidableEq, Repr

/-- Refusals of the model itself. A refused request of the manual is not one: it answers a result code. -/
inductive Refusal where
  /-- Raised by no arm of exec: every row has its meaning. The host's name for a row without one; safe. -/
  | notModelled (mnemonic : String)
deriving DecidableEq, Repr

/-! ### Survey Control Unit (R1 to R11) -/

inductive SurveyState where
  | idle
  | running
  | stopped
deriving DecidableEq, Repr

/-- Stop pending (R1), with the port that asked (R5). -/
inductive StopPending where
  | none
  | request (p : Port)
  | seqLimit
deriving DecidableEq, Repr

/-- A set of the four capture blocks (R1, R5). -/
structure Blocks where
  detector : Bool
  capture : Bool
  aggregator : Bool
  generator : Bool
deriving DecidableEq, Repr

/-- An entry of the time-step table (R9). -/
structure TimeStep where
  effect : Nat
  date : Nat
  ms : Nat
deriving DecidableEq, Repr

structure SurveyUnit where
  state : SurveyState
  stopPending : StopPending
  number : Nat
  siteId : List Byte
  startDate : Nat
  startTime : Nat
  freq : Nat
  yetToFinish : Blocks
  clock : Nat
  steps : List TimeStep
deriving DecidableEq, Repr

/-! ### Journal Manager (R17 to R41) -/

/-- A stored record: its header fields (R18) and body. Kind, slots and body length follow from the body. -/
structure Record where
  seq : Nat
  test : Bool
  superseded : Bool
  origin : Origin
  surveyMs : Nat
  surveyNumber : Nat
  body : Body
deriving DecidableEq, Repr

inductive Policy where
  | captureFirst
  | printFirst
deriving DecidableEq, Repr

structure JournalUnit where
  /-- The records in the journal, oldest first (R19). -/
  records : List Record
  tailSeq : Nat
  tailSlot : Nat
  headSeq : Nat
  headSlot : Nat
  free : Nat
  lossEvent : Nat
  lossWave : Nat
  lossInterval : Nat
  lossMark : Nat
  armed : Bool
  policy : Policy
deriving DecidableEq, Repr

/-! ### Sample Link Receiver and Test Frame Generator (R42 to R64) -/

structure LinkUnit where
  state : LinkState
  wordPos : Option Nat
  frame : List Word
  badRun : Nat
  badTotal : Nat
  lastGood : Eight Int
  instants : Nat
  window : Word
  lowRun : Nat
  syncA : Word
  syncB : Word
  syncF : Word
  /-- The model's own: source loss notices sent since reset. -/
  losses : Nat
deriving DecidableEq, Repr

/-- A sample set (R47), with the number of source loss notices sent before it (the model's own). -/
structure SampleSet where
  samples : Eight Int
  held : Bool
  test : Bool
  era : Nat
deriving DecidableEq, Repr

/-- What the receiver sends to the Half-Cycle Unit and to the capture, in order (R47). -/
inductive SourceMsg where
  | set (x : SampleSet)
  | loss
deriving DecidableEq, Repr

structure Generator where
  running : Bool
  levelA : Nat
  levelB : Nat
  ka : Nat
  kb : Nat
  repeats : Nat
  phaseB : Bool
  halfLeft : Nat
  repeatsDone : Nat
  k : Nat
  frames : Nat
deriving DecidableEq, Repr

/-! ### Half-Cycle Unit (R65 to R80) -/

/-- One sample of the window: channels 0 to 3 and the TEST mark (R65). -/
structure WinSample where
  c : Four Int
  test : Bool
deriving DecidableEq, Repr

/-- What a half-cycle value carries for an admitted channel (R71). -/
structure ChanValue where
  residual : Nat
  clipped : Bool
  capped : Bool
  inDetector : Bool
deriving DecidableEq, Repr

/-- A half-cycle value (R71). -/
structure HalfValue where
  number : Nat
  test : Bool
  chans : Four (Option ChanValue)
  dip : Nat
deriving DecidableEq, Repr

structure HalfCycleUnit where
  window : List WinSample
  since : Nat
  sums : Four Nat
  ages : Four (Option Nat)
  testCount : Nat
  latest : Option HalfValue
  halfNo : Nat
  prevBand : Four (Option Nat)
  bandCounts : Four (List Nat)
  entryCounts : Four (List Nat)
  surveyOcc : Occupancy
  intervalOcc : Occupancy
  edgesChanged : Bool
  edges : List Nat
deriving DecidableEq, Repr

/-! ### Event Detector and Waveform Capture (R81 to R108) -/

inductive CtxState where
  | idle
  | opened
  | closing
deriving DecidableEq, Repr

/-- A context's or a record's link to a capture (R84, R102). -/
inductive CaptureLink where
  | awaiting
  | none
  | number (n : Nat)
deriving DecidableEq, Repr

/-- What an end notice reports (R107). -/
structure CaptureResult where
  first : Option Nat
  stored : Nat
  cut : Bool
deriving DecidableEq, Repr

/-- A finished EVENT record that waits for its capture (R91). -/
structure PendingRec where
  cls : EventClass
  startHc : Nat
  endHc : Nat
  duration : Nat
  startMs : Nat
  endMs : Nat
  frozen : Frozen
  extreme : Nat
  worst : Nat
  involved : Four Bool
  extremes : Four (Option Nat)
  merges : Nat
  flags : EventFlags
  link : CaptureLink
  result : Option CaptureResult
deriving DecidableEq, Repr

/-- One detector context (R84). -/
structure DetContext where
  state : CtxState
  startHc : Nat
  startMs : Nat
  frozen : Frozen
  lastValue : Nat
  lastChannels : Four Bool
  extremes : Four (Option Nat)
  involved : Four Bool
  merges : Nat
  flags : EventFlags
  link : CaptureLink
  result : Option CaptureResult
  endHc : Nat
  endMs : Nat
  holdLeft : Nat
  /-- A source loss notice has set the end while a stop is pending (R96). -/
  ended : Bool
  pendingRecs : List PendingRec
deriving DecidableEq, Repr

structure DetectorUnit where
  dip : Nat
  intr : Nat
  swell : Nat
  hyst : Nat
  holdOff : Nat
  low : DetContext
  high : DetContext
  stopTaken : Bool
  /-- The model's own: source loss notices taken since reset. -/
  losses : Nat
deriving DecidableEq, Repr

/-- A complete cycle of the pre-trigger ring (R98). -/
structure RingCycle where
  samples : Four (List Int)
  clipped : Bool
  held : Bool
  test : Bool
  doneMs : Nat
deriving DecidableEq, Repr

/-- The cycle in progress (R98): the sample sets taken, the samples kept, the marks so far. -/
structure CurCycle where
  count : Nat
  samples : Four (List Int)
  clipped : Bool
  held : Bool
  test : Bool
deriving DecidableEq, Repr

structure CaptureUnit where
  pre : Nat
  post : Nat
  ring : List RingCycle
  cur : CurCycle
  done : Nat
  capturing : Bool
  number : Nat
  linkedLow : Bool
  linkedHigh : Bool
  p : Nat
  q : Nat
  cycle0 : Option Nat
  postDone : Nat
  firstWave : Option Nat
  stored : Nat
  /-- The stop notice has been taken since the last SURVEY_START (R102, R106). -/
  stopTaken : Bool
  /-- A WAVE append was refused and the refusal is not yet taken (R104). -/
  refused : Bool
  /-- The model's own: source loss notices taken since reset. -/
  losses : Nat
deriving DecidableEq, Repr

/-! ### Harmonic Interval Aggregator (R109 to R128) -/

structure AggregatorUnit where
  length : Nat
  kept : Nat
  mask : BitVec 8
  /-- FLAG_POLICY is EXCLUDE. -/
  exclude : Bool
  /-- Limits of orders 2 to 50. -/
  limits : List Nat
  current : Option Nat
  curN : Option Nat
  first : Option Nat
  highest : Option Nat
  aggregated : Nat
  excluded : Nat
  missing : Nat
  unpowered : BitVec 8
  eventSeen : Bool
  testSeen : Bool
  /-- Per channel, the sums of squares of orders 1 to 50. -/
  sums : Eight (List Nat)
  nc : Eight Nat
  /-- Per voltage channel, the exceedance counts of orders 2 to 50. -/
  exceed : Four (List Nat)
deriving DecidableEq, Repr

/-! ### Kit Line Unit (R129 to R140) -/

structure ProbeEntry where
  kind : ProbeKind
  level : Option Nat
  inDetector : Bool
  activeHigh : Bool
  calDue : Nat
deriving DecidableEq, Repr

structure KitUnit where
  entries : Eight ProbeEntry
  present : Eight Bool
  /-- Settled level FITTED. -/
  settled : Eight Bool
  /-- Debounce timers: stopped, or ms left. -/
  timers : Eight (Option Nat)
  /-- Levels of the sense lines: high or low. -/
  sense : Eight Bool
  supplyOn : Bool
  faulted : Bool
  faultActive : Bool
  enable : Bool
deriving DecidableEq, Repr

/-! ### Note Assembler (R141 to R153) -/

structure NoteData where
  author : Nat
  category : Category
  observed : Option Nat
  supersedes : Option Nat
  cites : List Nat
  parts : Nat
  lastPart : Nat
  text : List Byte
  received : Nat
  truncated : Bool
  surveyNumber : Nat
deriving DecidableEq, Repr

/-- An assembly context (R141). DONE keeps the observed time as stored, which R151 reports again. -/
inductive NoteCtx where
  | empty
  | assembling (d : NoteData)
  | done (d : NoteData) (seq : Nat) (clamped : Bool) (observed : Nat)
deriving DecidableEq, Repr

/-! ### Report Composer (R154 to R178) -/

inductive JobState where
  | queued
  | printing
  | stalled
  | suspended
deriving DecidableEq, Repr

inductive Position where
  | header
  | record (seq : Nat)
  | footer
  | closing
deriving DecidableEq, Repr

inductive Closing where
  | none
  | cancel
  | yield
deriving DecidableEq, Repr

inductive JobEnd where
  | done
  | cancelled
  | yielded
deriving DecidableEq, Repr

/-- The sections of a report, in the order of R154. -/
structure Sections where
  events : Bool
  intervals : Bool
  notes : Bool
  settings : Bool
  marks : Bool
deriving DecidableEq, Repr

structure Job where
  number : Nat
  port : Port
  surveyNumber : Nat
  first : Nat
  last : Nat
  missing : Nat
  sections : Sections
  full : Bool
  copies : Nat
  current : Nat
  latestOnly : Bool
  state : JobState
  position : Position
  hold : Option Nat
  closing : Closing
  printed : Nat
  /-- Copies whose footer was composed (R159). -/
  completed : Nat
  /-- The job has begun composing (R159). -/
  began : Bool
  /-- The position when the closing was set; none for a job that never began composing (R159). -/
  decided : Option Position
deriving DecidableEq, Repr

structure EndEntry where
  number : Nat
  surveyNumber : Nat
  port : Port
  ending : JobEnd
  first : Nat
  last : Nat
  missing : Nat
  copies : Nat
  completed : Nat
  position : Option Position
deriving DecidableEq, Repr

/-- A line of the current part that is not yet composed (R160): a line of text, a record's first line and the header's FROM
line (whose wall time is derived when the line is composed, R162), the footer's last line, a closing line, or printer commands. -/
inductive LineSpec where
  | text (b : List Byte)
  | dated (seq : Nat) (ms : Nat) (rest : List Byte)
  | fromLine (ms : Nat)
  | lastLine (b : List Byte)
  | closingLine (b : List Byte)
  | command (b : List Byte)
deriving DecidableEq, Repr

structure ComposerUnit where
  queue : List Job
  endList : List EndEntry
  lastPrinted : Nat
  lastJob : Nat
  working : Option Record
  buffer : List Byte
  todo : List LineSpec
  lastDate : Option Nat
  /-- A start request sent to the controller and not yet taken (R158, R188). -/
  asked : Bool
deriving DecidableEq, Repr

/-! ### Printer Line Controller (R179 to R193) -/

inductive LineState where
  | idle
  | inquiring
  | sending
  | stalled
  | suspended
  | brk
deriving DecidableEq, Repr

inductive StallReason where
  | noPrinter
  | paperOut
  | coverOpen
deriving DecidableEq, Repr

/-- The five flags of a status byte (R184). -/
structure HeldStatus where
  paperLow : Bool
  paperOut : Bool
  coverOpen : Bool
  headHot : Bool
  bufferFull : Bool
deriving DecidableEq, Repr

/-- A byte in the shift register, with the rate and parity it began with (R179). -/
structure ShiftByte where
  data : Byte
  baud : Nat
  evenParity : Bool
deriving DecidableEq, Repr

structure LineUnit where
  baud : Nat
  evenParity : Bool
  /-- STALL_TIMEOUT in seconds. -/
  stallTimeout : Nat
  state : LineState
  fifo : List Byte
  shift : Option ShiftByte
  outstanding : Bool
  held : HeldStatus
  ready : Bool
  cts : Bool
  holding : Option Byte
  /-- PARITY has changed since the last reception ended, so that a byte being received may have begun under the other value
  (R179). -/
  parityChanged : Bool
  /-- Timers: stopped, or ms left. -/
  inquiry : Option Nat
  poll : Option Nat
  stall : Option Nat
  brk : Option Nat
  reason : Option StallReason
  /-- The head job has left; the line becomes IDLE at the end of the byte or break under way (R193). -/
  leaving : Bool
deriving DecidableEq, Repr

/-! ### Master Port Units (R194 to R208) -/

/-- Request kinds, numbered from 1 in the order of the request table (R211). -/
inductive RequestKind where
  | surveyStart
  | surveyStop
  | surveyClear
  | set
  | get
  | setTime
  | status
  | live
  | counters
  | readNext
  | seek
  | postFrame
  | noteBegin
  | notePart
  | printSubmit
  | printCancel
  | printResume
  | printList
  | probeSet
  | supplyRestore
  | selftestStart
  | selftestStop
  | portConfig
deriving DecidableEq, Repr

/-- Result codes, numbered from 0 in the order of the result code table (R211). -/
inductive ResultCode where
  | ok
  | okClamped
  | duplicate
  | badRequest
  | badValue
  | badSequence
  | wrongState
  | noSurvey
  | printActive
  | journalHeld
  | staleWindow
  | queueFull
  | noSuchJob
  | emptySpan
  | citeGone
  | supplyFault
  | tableFull
deriving DecidableEq, Repr

/-- Attention flags, in the order of R202. -/
inductive Flag where
  | newRecord
  | eventOpen
  | link
  | print
  | printer
  | loss
  | probe
  | journalLow
deriving DecidableEq, Repr

structure Request where
  kind : RequestKind
  body : List Word
deriving DecidableEq, Repr

/-- What the first complete fetch of a response changes (R200): nothing, R37, or R208. -/
inductive Delivery where
  | nothing
  /-- The cursor at the snapshot, the first delivered sequence and the number of records delivered. -/
  | readNext (cursor first count : Nat)
  /-- The printer error counts the response reported. -/
  | status (framing parity overrun : Nat)
deriving DecidableEq, Repr

structure Response where
  code : ResultCode
  body : List Word
  /-- None for a kind that names no request (R196). -/
  kind : Option RequestKind
  delivery : Delivery
  delivered : Bool
deriving DecidableEq, Repr

structure PortUnit where
  /-- None is IDLE; else the words so far of a select period in progress. -/
  intake : Option (List Word)
  waiting : Option Request
  response : Option Response
  cursor : Nat
  missed : Nat
  /-- Bit i is the i-th flag of R202. -/
  flags : BitVec 8
  clearSet : BitVec 8
  missedToClear : Nat
  enable : BitVec 8
  /-- Bit i is the i-th record kind of R209. -/
  kinds : BitVec 6
  divider : Nat
  recordCount : Nat
  framing : Nat
  parity : Nat
  overrun : Nat
  /-- The words last clocked out on the data-to-master line. -/
  out : List Word
  /-- The answer that a fetch frame in progress clocks out, as read at its start (R199); empty when none is in progress. -/
  answer : List Word
  /-- The last word of a READY answer has been clocked out; its completion is not yet taken (R200). -/
  fetchDue : Bool
  /-- Kinds of the appended records not yet taken at this port (R205). -/
  arrivals : List RecordKind
deriving DecidableEq, Repr

/-! ### Messages between blocks -/

/-- A trigger on its way to the capture (R86), with the source loss notices sent before it (the model's own). -/
structure Trigger where
  ctx : DetCtx
  era : Nat
deriving DecidableEq, Repr

/-- The capture's answer to a trigger (R100, R102). -/
inductive AnswerKind where
  | started (n : Nat)
  | shared (n : Nat)
  | none
deriving DecidableEq, Repr

structure TriggerAnswer where
  ctx : DetCtx
  answer : AnswerKind
deriving DecidableEq, Repr

structure EndNotice where
  ctx : DetCtx
  number : Nat
  result : CaptureResult
deriving DecidableEq, Repr

structure ProbeNotice where
  channel : Nat
  before : Bool
  after : Bool
deriving DecidableEq, Repr

/-- A half-cycle value on its way to the detector, with the source loss notices sent before it (the model's own). -/
structure ValueMsg where
  value : HalfValue
  era : Nat
deriving DecidableEq, Repr

structure Flight where
  hcuIn : List SourceMsg
  capIn : List SourceMsg
  values : List ValueMsg
  probeNotices : List ProbeNotice
  openings : List DetCtx
  triggers : List Trigger
  answers : List TriggerAnswer
  ends : List EndNotice
  stopNotices : Blocks
deriving DecidableEq, Repr

/-- The state of the machine. -/
structure State where
  survey : SurveyUnit
  journal : JournalUnit
  link : LinkUnit
  gen : Generator
  hcu : HalfCycleUnit
  det : DetectorUnit
  cap : CaptureUnit
  agg : AggregatorUnit
  kit : KitUnit
  noteA : NoteCtx
  noteB : NoteCtx
  comp : ComposerUnit
  line : LineUnit
  portA : PortUnit
  portB : PortUnit
  flight : Flight
  /-- The model's own: how many free values have been used (Config.freeMs, Config.freeDay). -/
  free : Nat
  /-- The commands that wait, first in, first out. -/
  pending : List Instr
deriving DecidableEq, Repr

/-! ### The values after power-on and the reset pin -/

def Blocks.empty : Blocks := ⟨false, false, false, false⟩

/-- R1, R9. -/
def SurveyUnit.reset : SurveyUnit where
  state := .idle
  stopPending := .none
  number := 0
  siteId := []
  startDate := 0
  startTime := 0
  freq := 50
  yetToFinish := .empty
  clock := 0
  steps := []

/-- R19, R25. -/
def JournalUnit.reset : JournalUnit where
  records := []
  tailSeq := 1
  tailSlot := 0
  headSeq := 1
  headSlot := 0
  free := Config.journalSlots
  lossEvent := 0
  lossWave := 0
  lossInterval := 0
  lossMark := 0
  armed := true
  policy := .captureFirst

/-- R42, R44, R46. -/
def LinkUnit.reset : LinkUnit where
  state := .hunt
  wordPos := none
  frame := []
  badRun := 0
  badTotal := 0
  lastGood := .all 0
  instants := 0
  window := 0
  lowRun := 0
  syncA := 0xC5A3
  syncB := 0x3A5C
  syncF := 0x3A99
  losses := 0

/-- R58. -/
def Generator.reset : Generator where
  running := false
  levelA := 0
  levelB := 0
  ka := 1
  kb := 1
  repeats := 1
  phaseB := false
  halfLeft := 0
  repeatsDone := 0
  k := 0
  frames := 0

def zeroOccupancy : Occupancy := ⟨0, 0, 0⟩

/-- The state table of the Half-Cycle Unit; R72. -/
def HalfCycleUnit.reset : HalfCycleUnit where
  window := []
  since := 0
  sums := .all 0
  ages := .all none
  testCount := 0
  latest := none
  halfNo := 0
  prevBand := .all none
  bandCounts := .all (List.replicate 8 0)
  entryCounts := .all (List.replicate 8 0)
  surveyOcc := zeroOccupancy
  intervalOcc := zeroOccupancy
  edgesChanged := false
  edges := [100, 400, 700, 900, 1000, 1100, 1200]

def clearFlags : EventFlags :=
  ⟨false, false, false, false, false, false, false, false, false, false⟩

/-- R84. -/
def DetContext.reset (frozen : Frozen) : DetContext where
  state := .idle
  startHc := 0
  startMs := 0
  frozen := frozen
  lastValue := 0
  lastChannels := .all false
  extremes := .all none
  involved := .all false
  merges := 0
  flags := clearFlags
  link := .none
  result := none
  endHc := 0
  endMs := 0
  holdLeft := 0
  ended := false
  pendingRecs := []

/-- R81, R84. -/
def DetectorUnit.reset : DetectorUnit where
  dip := 900
  intr := 100
  swell := 1100
  hyst := 20
  holdOff := 4
  low := .reset ⟨900, 100, 20⟩
  high := .reset ⟨1100, 0, 20⟩
  stopTaken := false
  losses := 0

def CurCycle.empty : CurCycle := ⟨0, .all [], false, false, false⟩

/-- R82, R98, R99. -/
def CaptureUnit.reset : CaptureUnit where
  pre := 2
  post := 6
  ring := []
  cur := .empty
  done := 0
  capturing := false
  number := 0
  linkedLow := false
  linkedHigh := false
  p := 2
  q := 6
  cycle0 := none
  postDone := 0
  firstWave := none
  stored := 0
  stopTaken := false
  refused := false
  losses := 0

/-- The default limit table (R115), orders 2 to 50. -/
def defaultLimits : List Nat :=
  [20, 50, 10, 60, 5, 50, 5, 15, 5, 35, 5, 30, 5, 5, 5, 20, 5, 15, 5, 5, 5, 15, 5, 15]
    ++ List.replicate 25 0

/-- The aggregator's state table, R114, R115; the mask is channels 0, 1, 2, 4, 5, 6. -/
def AggregatorUnit.reset : AggregatorUnit where
  length := 3000
  kept := 40
  mask := 0x77
  exclude := false
  limits := defaultLimits
  current := none
  curN := none
  first := none
  highest := none
  aggregated := 0
  excluded := 0
  missing := 0
  unpowered := 0
  eventSeen := false
  testSeen := false
  sums := .all (List.replicate 50 0)
  nc := .all 0
  exceed := .all (List.replicate 49 0)

def defaultVoltage (inDetector : Bool) : ProbeEntry := ⟨.voltageLead, some 20000, inDetector, false, 0⟩
def defaultCurrent (kind : ProbeKind) : ProbeEntry := ⟨kind, none, false, false, 0⟩

/-- The default probe table (R129). -/
def defaultProbes : Eight ProbeEntry :=
  ⟨defaultVoltage true, defaultVoltage true, defaultVoltage true, defaultVoltage false,
   defaultCurrent .clamp, defaultCurrent .clamp, defaultCurrent .clamp, defaultCurrent .none⟩

/-- R129, R132, R136; the levels of the sense lines and of the fault input are DESIGN CHOICE (notes/assumptions/1): high and
INACTIVE. -/
def KitUnit.reset : KitUnit where
  entries := defaultProbes
  present := .all false
  settled := .all false
  timers := .all none
  sense := .all true
  supplyOn := false
  faulted := false
  faultActive := false
  enable := false

/-- R178. -/
def ComposerUnit.reset : ComposerUnit where
  queue := []
  endList := []
  lastPrinted := 0
  lastJob := 0
  working := none
  buffer := []
  todo := []
  lastDate := none
  asked := false

/-- R179, R180; printer-ready and clear-to-send are DESIGN CHOICE (notes/assumptions/1): INACTIVE and DEASSERTED. -/
def LineUnit.reset : LineUnit where
  baud := 19200
  evenParity := false
  stallTimeout := 120
  state := .idle
  fifo := []
  shift := none
  outstanding := false
  held := ⟨false, false, false, false, false⟩
  ready := false
  cts := false
  holding := none
  parityChanged := false
  inquiry := none
  poll := none
  stall := none
  brk := none
  reason := none
  leaving := false

/-- R194; the kind mask is EVENT. -/
def PortUnit.reset : PortUnit where
  intake := none
  waiting := none
  response := none
  cursor := 1
  missed := 0
  flags := 0
  clearSet := 0
  missedToClear := 0
  enable := 0
  kinds := 1
  divider := 1
  recordCount := 0
  framing := 0
  parity := 0
  overrun := 0
  out := []
  answer := []
  fetchDue := false
  arrivals := []

def Flight.empty : Flight where
  hcuIn := []
  capIn := []
  values := []
  probeNotices := []
  openings := []
  triggers := []
  answers := []
  ends := []
  stopNotices := .empty

/-- The machine right after reset (R1 and each block's reset column), with no command waiting. -/
def State.reset : State where
  survey := .reset
  journal := .reset
  link := .reset
  gen := .reset
  hcu := .reset
  det := .reset
  cap := .reset
  agg := .reset
  kit := .reset
  noteA := .empty
  noteB := .empty
  comp := .reset
  line := .reset
  portA := .reset
  portB := .reset
  flight := .empty
  free := 0
  pending := []

end Sys2Proof.Machine
end

