-- ==== Sys2Proof/Machine/Arith.lean ====
section
/-! DEFINITION. Integer arithmetic shared by the blocks: integer square root, saturation, clamping, masks, and the byte and
word images of numbers and text (Conventions of 00_scope; R209, R211). -/

namespace Sys2Proof.Machine

open Sys2Proof

/-- Settles the bits b-1 … 0 of the integer square root of n, above the bits already in r. -/
def isqrtFrom : Nat → Nat → Nat → Nat
  | 0, _, r => r
  | b + 1, n, r => isqrtFrom b n (if (r + 2 ^ b) * (r + 2 ^ b) ≤ n then r + 2 ^ b else r)

/-- Integer square root rounded down, for every n below 2^64 (Conventions). -/
def isqrt (n : Nat) : Nat := isqrtFrom 32 n 0

/-- A counter that saturates at m rises by one. -/
def satInc (m n : Nat) : Nat := min m (n + 1)

/-- A counter that saturates at m rises by d. -/
def satAdd (m n d : Nat) : Nat := min m (n + d)

/-- v forced to the nearest end of lo to hi. -/
def clampTo (lo hi v : Nat) : Nat := max lo (min hi v)

/-- The channel mask whose bit c is f c. -/
def maskOf (f : Nat → Bool) : BitVec 8 :=
  BitVec.ofNat 8 (((List.range 8).map fun c => if f c then 2 ^ c else 0).sum)

/-- The channels of a mask, in channel order. -/
def maskChannels (m : BitVec 8) : List Nat := (List.range 8).filter fun c => m.getLsbD c

/-- The number of channels of a mask. -/
def maskCount (m : BitVec 8) : Nat := (maskChannels m).length

/-- Pointwise update of a list of counters. -/
def modNth (f : Nat → Nat) (i : Nat) (l : List Nat) : List Nat := l.modify i f

/-- 0 or 1 (R211). -/
def bit (b : Bool) : Nat := if b then 1 else 0

/-! ### Bytes, most significant first (R209) -/

def byte (n : Nat) : Byte := BitVec.ofNat 8 n
def be16 (n : Nat) : List Byte := [byte (n / 256), byte n]
def be32 (n : Nat) : List Byte := [byte (n / 16777216), byte (n / 65536), byte (n / 256), byte n]

/-- A signed field of two bytes, in two's complement (R209). -/
def beInt16 (i : Int) : List Byte :=
  let w := BitVec.ofInt 16 i
  [w.extractLsb' 8 8, w.extractLsb' 0 8]

/-! ### Words (R211) -/

def word (n : Nat) : Word := BitVec.ofNat 16 n

/-- A 32-bit value as two words, high first. -/
def words32 (n : Nat) : List Word := [word (n / 65536), word n]

/-- The 32-bit value of two words, high first. -/
def join32 (hi lo : Word) : Nat := hi.toNat * 65536 + lo.toNat

/-- Byte pairs as words, the earlier byte in the high half; an odd last byte is followed by a zero byte (R35, R211). -/
def pairWords : List Byte → List Word
  | [] => []
  | [h] => [h ++ (0 : Byte)]
  | h :: l :: rest => (h ++ l) :: pairWords rest

/-- The bytes of words, the high half first. -/
def wordBytes (ws : List Word) : List Byte :=
  ws.flatMap fun w => [w.extractLsb' 8 8, w.extractLsb' 0 8]

/-- Text on a port: a word with the byte count, then byte pairs (R211). -/
def textWords (b : List Byte) : List Word := word b.length :: pairWords b

/-- The number of words that hold n bytes. -/
def wordsFor (n : Nat) : Nat := (n + 1) / 2

/-- The bytes of an ASCII text. -/
def ascii (s : String) : List Byte := s.toList.map fun c => byte c.toNat

/-- Decimal digits of n, at most fuel of them, without leading zeros. -/
def digitsFrom : Nat → Nat → List Byte
  | 0, _ => []
  | fuel + 1, n => (if n < 10 then [] else digitsFrom fuel (n / 10)) ++ [byte (48 + n % 10)]

/-- n in decimal, without leading zeros or separators (R162). -/
def decimal (n : Nat) : List Byte := digitsFrom 20 n

/-- b right-aligned in w columns. -/
def padLeft (w : Nat) (fill : Byte) (b : List Byte) : List Byte :=
  List.replicate (w - b.length) fill ++ b

/-- n in decimal, zero-padded to w digits. -/
def decimalPad (w n : Nat) : List Byte := padLeft w 48 (decimal n)

end Sys2Proof.Machine
end

