-- ==== Sys2Proof/Machine/Layout.lean ====
section
/-! DEFINITION. The byte layouts of records (R17, R209, R210) and the numbers of items, kinds and result codes (R210, R211). -/

namespace Sys2Proof.Machine

open Sys2Proof

def bodyKind : Body → RecordKind
  | .event _ => .event
  | .wave _ => .wave
  | .interval _ => .interval
  | .note _ => .note
  | .setting _ => .setting
  | .mark _ => .mark

def Record.kind (r : Record) : RecordKind := bodyKind r.body

def kindCode : RecordKind → Nat
  | .event => 1
  | .wave => 2
  | .interval => 3
  | .note => 4
  | .setting => 5
  | .mark => 6

def originCode : Origin → Nat
  | .detector => 1
  | .capture => 2
  | .aggregator => 3
  | .kit => 4
  | .survey => 5
  | .portA => 6
  | .portB => 7

def classCode : EventClass → Nat
  | .dip => 1
  | .intr => 2
  | .swell => 3

/-- Bits 0 to 9 in the order of R93. -/
def eventFlagsCode (f : EventFlags) : Nat :=
  bit f.clipped + 2 * bit f.capped + 4 * bit f.test + 8 * bit f.cut + 16 * bit f.linkLost
    + 32 * bit f.probeChange + 64 * bit f.calOverdue + 128 * bit f.noWave + 256 * bit f.waveShared
    + 512 * bit f.wavePartial

def mask4Code (m : Four Bool) : Nat := bit m.c0 + 2 * bit m.c1 + 4 * bit m.c2 + 8 * bit m.c3

/-- The EVENT body (R209). -/
def eventBytes (e : EventBody) : List Byte :=
  [byte (classCode e.cls), byte e.worst, byte (mask4Code e.involved), byte e.merges]
    ++ be16 (eventFlagsCode e.flags)
    ++ [byte (bit e.capture.isSome + 2 * bit e.wave.isSome), 0]
    ++ be32 e.startHc ++ be32 e.endHc ++ be32 e.duration ++ be32 e.startMs ++ be32 e.endMs
    ++ be16 e.frozen.limit ++ be16 e.frozen.intr ++ be16 e.frozen.hyst ++ be16 e.extreme
    ++ (e.extremes.toList.flatMap fun x => be16 (x.getD 0xFFFF))
    ++ be16 (e.capture.getD 0)
    ++ match e.wave with
      | some (first, stored) => be32 first ++ be16 stored
      | none => []

/-- The WAVE body (R209). -/
def waveBytes (w : WaveBody) : List Byte :=
  be16 w.capture ++ beInt16 w.index ++ be16 (bit w.clipped + 2 * bit w.held) ++ [byte w.p, byte w.q]
    ++ be32 w.doneMs ++ w.samples.toList.flatMap fun l => l.flatMap beInt16

def intervalFlagsCode (f : IntervalFlags) : Nat :=
  bit f.flagged + 2 * bit f.partialClose + 4 * bit f.split + 8 * bit f.calOverdue + 16 * bit f.test
    + 32 * bit f.more

/-- The channels with magnitudes in an INTERVAL record (R123, R126). -/
def presenceMask (i : IntervalBody) : BitVec 8 := maskOf fun c => (i.magnitudes.get c).isSome

/-- The INTERVAL body (R209). -/
def intervalBytes (i : IntervalBody) : List Byte :=
  be32 i.number ++ be16 i.length ++ be16 (intervalFlagsCode i.flags) ++ be32 i.first ++ be32 i.last
    ++ be16 i.aggregated ++ be16 i.excluded ++ be16 i.missing
    ++ [byte i.unpowered.toNat, byte i.kept, byte i.mask.toNat, byte (presenceMask i).toNat,
        byte (mask4Code (i.thd.map Option.isSome)), byte i.exceed.length]
    ++ be32 i.occupancy.one ++ be32 i.occupancy.two ++ be32 i.occupancy.threePlus
    ++ be32 i.closeMs ++ be32 i.exceedTotal
    ++ (i.thd.toList.flatMap fun t => be16 (t.getD 0))
    ++ (i.magnitudes.toList.flatMap fun m => (m.getD []).flatMap be16)
    ++ i.exceed.flatMap fun e => [byte e.channel, byte e.order] ++ be16 e.count

def categoryCode : Category → Nat
  | .site => 1
  | .load => 2
  | .weather => 3
  | .probe => 4
  | .other => 5

/-- One citation entry (R209). -/
def citeBytes (c : CiteEntry) : List Byte :=
  be32 c.seq ++ be32 c.surveyMs
    ++ [byte (kindCode c.kind), byte (originCode c.origin), byte (bit c.test + 2 * bit c.superseded), 0]
    ++ be32 c.reference

/-- The NOTE body (R209). -/
def noteBytes (n : NoteBody) : List Byte :=
  [byte n.author, byte (categoryCode n.category),
   byte (bit n.observedGiven + 2 * bit n.truncated + 4 * bit n.supersedes.isSome + 8 * bit n.observedClamped),
   byte n.cites.length]
    ++ be32 n.observed
    ++ be32 ((n.supersedes.map Prod.fst).getD 0) ++ be32 ((n.supersedes.map Prod.snd).getD 0)
    ++ be16 n.text.length ++ be16 n.received ++ [byte n.parts, 0, 0, 0]
    ++ n.cites.flatMap citeBytes ++ n.text

/-- Every item, in the order of its code (R210). -/
def allItems : List Item :=
  [.journalPolicy, .syncA, .syncB, .syncF, .bandEdges, .dipThreshold, .intrThreshold, .swellThreshold,
   .hysteresis, .holdOff, .preCycles, .postCycles, .intervalLength, .keptOrders, .recordMask, .flagPolicy,
   .limit, .probe, .supply, .baud, .parity, .stallTimeout]

/-- Item codes run from 1 (R210). -/
def itemCode (i : Item) : Nat := allItems.idxOf i + 1

def itemOfCode (n : Nat) : Option Item := if n = 0 then none else allItems[n - 1]?

/-- The SETTING body (R209, R210). -/
def settingBytes (b : SettingBody) : List Byte :=
  [byte (itemCode b.item), byte b.qualifier, byte (bit b.clamped), byte b.new.length]
    ++ wordBytes b.old ++ wordBytes b.new

def probeKindCode : ProbeKind → Nat
  | .none => 0
  | .voltageLead => 1
  | .clamp => 2
  | .flex => 3

def probeKindOfCode : Nat → Option ProbeKind
  | 0 => some .none
  | 1 => some .voltageLead
  | 2 => some .clamp
  | 3 => some .flex
  | _ => none

/-- The link states numbered in the order of R46 (notes/assumptions/15). -/
def linkCode : LinkState → Nat
  | .hunt => 0
  | .confirm => 1
  | .locked => 2
  | .brk => 3
  | .loopback => 4

/-- 1 A, 2 B (R209, SURVEY_STOP). -/
def portCode : Port → Nat
  | .a => 1
  | .b => 2

/-- ON 0, OFF 1: named values are numbered in the order their item lists them (R136, R210). -/
def supplyCode (on : Bool) : Nat := if on then 0 else 1

/-- The MARK body (R209). -/
def markBytes : MarkBody → List Byte
  | .surveyStart site date ms freq present faulted enable =>
      [byte 1, byte site.length] ++ site ++ List.replicate (16 - site.length) 0 ++ be16 date ++ be32 ms
        ++ [byte freq, byte present.toNat, byte (bit faulted), byte (bit enable)]
  | .surveyStop (.request p) => [byte 2, byte 0, byte (portCode p)]
  | .surveyStop .seqLimit => [byte 2, byte 1, byte 0]
  | .timeStep d m d' m' => [byte 3] ++ be16 d ++ be32 m ++ be16 d' ++ be32 m'
  | .loss e w i m => [byte 4] ++ be32 e ++ be32 w ++ be32 i ++ be32 m
  | .linkUp filler total => [byte 5, byte (bit filler)] ++ be32 total
  | .linkDown reason total instants =>
      [byte 6, byte (match reason with | .badFrames => 0 | .syncChange => 1 | .brk => 2)] ++ be32 total ++ be32 instants
  | .frontendOff fromLocked => [byte 7, byte (bit fromLocked)]
  | .selftestOn a b ka kb n l => [byte 8] ++ be16 a ++ be16 b ++ [byte ka, byte kb, byte n, byte (linkCode l)]
  | .selftestOff reason n frames =>
      [byte 9, byte (match reason with | .complete => 0 | .request => 1 | .surveyStop => 2), byte n] ++ be32 frames
  | .probeIn c k e m => [byte 10, byte c, byte (probeKindCode k), byte (bit e), byte m.toNat]
  | .probeOut c k e m => [byte 11, byte c, byte (probeKindCode k), byte (bit e), byte m.toNat]
  | .probeFault on already m => [byte 12, byte (supplyCode on), byte (bit already), byte m.toNat]
  | .supplyRestored p on e => [byte 13, byte (portCode p), byte (supplyCode on), byte (bit e)]

def bodyBytes : Body → List Byte
  | .event e => eventBytes e
  | .wave w => waveBytes w
  | .interval i => intervalBytes i
  | .note n => noteBytes n
  | .setting b => settingBytes b
  | .mark m => markBytes m

/-- 16 plus the body length, divided by 64 and rounded up (R17). -/
def slotsFor (bodyLen : Nat) : Nat := (Config.headerBytes + bodyLen + (Config.slotBytes - 1)) / Config.slotBytes

/-- The body length of each kind (R209, R210): the length of its bytes. -/
def markLen : MarkBody → Nat
  | .surveyStart site _ _ _ _ _ _ => 12 + max site.length 16
  | .surveyStop _ => 3
  | .timeStep _ _ _ _ => 13
  | .loss _ _ _ _ => 17
  | .linkUp _ _ => 6
  | .linkDown _ _ _ => 10
  | .frontendOff _ => 2
  | .selftestOn _ _ _ _ _ _ => 9
  | .selftestOff _ _ _ => 7
  | .probeIn _ _ _ _ => 5
  | .probeOut _ _ _ _ => 5
  | .probeFault _ _ _ => 4
  | .supplyRestored _ _ _ => 4

def bodyLen : Body → Nat
  | .event e => if e.wave.isSome then 52 else 46
  | .wave w => 12 + 2 * (w.samples.toList.map List.length).sum
  | .interval i => 56 + 2 * (i.magnitudes.toList.map fun m => (m.getD []).length).sum + 4 * i.exceed.length
  | .note n => 24 + 16 * n.cites.length + n.text.length
  | .setting b => 4 + 2 * (b.old.length + b.new.length)
  | .mark m => markLen m

def bodySlots (b : Body) : Nat := slotsFor (bodyLen b)

def Record.slots (r : Record) : Nat := bodySlots r.body

/-- The 16-byte header (R209). -/
def headerBytes (r : Record) : List Byte :=
  be32 r.seq ++ [byte (kindCode r.kind), byte r.slots, byte (bit r.test + 2 * bit r.superseded), byte (originCode r.origin)]
    ++ be32 r.surveyMs ++ be16 r.surveyNumber ++ be16 (bodyLen r.body)

/-- A record as a snapshot copies it: header, body, and one zero byte after a body of odd length (R35). -/
def recordWords (r : Record) : List Word := pairWords (headerBytes r ++ bodyBytes r.body)

/-- Every request kind, in the order of its number (R211). -/
def allRequests : List RequestKind :=
  [.surveyStart, .surveyStop, .surveyClear, .set, .get, .setTime, .status, .live, .counters, .readNext, .seek,
   .postFrame, .noteBegin, .notePart, .printSubmit, .printCancel, .printResume, .printList, .probeSet,
   .supplyRestore, .selftestStart, .selftestStop, .portConfig]

def requestOfCode (n : Nat) : Option RequestKind := if n = 0 then none else allRequests[n - 1]?

def requestCode (k : RequestKind) : Nat := allRequests.idxOf k + 1

/-- Every result code, in the order of its number (R211). -/
def allResults : List ResultCode :=
  [.ok, .okClamped, .duplicate, .badRequest, .badValue, .badSequence, .wrongState, .noSurvey, .printActive,
   .journalHeld, .staleWindow, .queueFull, .noSuchJob, .emptySpan, .citeGone, .supplyFault, .tableFull]

def resultCode (c : ResultCode) : Nat := allResults.idxOf c

/-! ### Response bodies (R211, notes/assumptions/11) -/

def jobStateCode : JobState → Nat
  | .queued => 0
  | .printing => 1
  | .stalled => 2
  | .suspended => 3

/-- The words of an optional 32-bit value (R211: an absent value takes no words). -/
def optional32 (x : Option Nat) : List Word := (x.map words32).getD []

end Sys2Proof.Machine
end

