-- ==== Sys2Proof/Machine/Flags.lean ====
section
/-! DEFINITION. The eight attention flags of a port (R202 to R205): raising, the attention line, the NEW_RECORD divider. -/

namespace Sys2Proof.Machine

open Sys2Proof

/-- The place of a flag in a mask (R202, R211). -/
def flagIndex : Flag → Nat
  | .newRecord => 0
  | .eventOpen => 1
  | .link => 2
  | .print => 3
  | .printer => 4
  | .loss => 5
  | .probe => 6
  | .journalLow => 7

/-- The mask that holds one flag. -/
def flagBit (f : Flag) : BitVec 8 := BitVec.ofNat 8 (2 ^ flagIndex f)

/-- Whether a flag is set on a port. -/
def flagSet (u : PortUnit) (f : Flag) : Bool := u.flags.getLsbD (flagIndex f)

/-- A raise sets the flag and takes it out of the clear-on-fetch set (R202, R204). -/
def raiseOn (f : Flag) (u : PortUnit) : PortUnit :=
  { u with flags := u.flags ||| flagBit f, clearSet := u.clearSet &&& ~~~ flagBit f }

/-- The attention line of a port (R203). -/
def attentionLine (u : PortUnit) : Bool := decide (u.flags &&& u.enable ≠ 0)

/-- Whether the kind mask holds a record kind (R205, R211). -/
def kindWanted (u : PortUnit) (k : RecordKind) : Bool := u.kinds.getLsbD (kindCode k - 1)

/-- A port takes the append of a record of kind k (R205). -/
def countRecord (k : RecordKind) (u : PortUnit) : PortUnit :=
  if kindWanted u k then
    if u.divider ≤ u.recordCount + 1 then raiseOn .newRecord { u with recordCount := 0 }
    else { u with recordCount := u.recordCount + 1 }
  else u

end Sys2Proof.Machine
end

