-- ==== Sys2Proof/Machine/Ops.lean ====
section
/-! DEFINITION. The shared operations of the blocks: access to ports and note contexts, raises, the survey state's tests, wall
time, calibration and supply status, responses, and taking a waiting request. -/

namespace Sys2Proof.Machine

open Sys2Proof

/-! ### Ports -/

def State.port (s : State) : Port → PortUnit
  | .a => s.portA
  | .b => s.portB

def State.setPort (s : State) (p : Port) (u : PortUnit) : State :=
  match p with
  | .a => { s with portA := u }
  | .b => { s with portB := u }

def State.modPort (s : State) (p : Port) (f : PortUnit → PortUnit) : State := s.setPort p (f (s.port p))

/-- The same change on both ports. -/
def State.bothPorts (s : State) (f : PortUnit → PortUnit) : State :=
  { s with portA := f s.portA, portB := f s.portB }

/-- A raise on both ports (R202). -/
def raiseBoth (f : Flag) (s : State) : State := s.bothPorts (raiseOn f)

/-- A raise on one port (R202). -/
def raisePort (p : Port) (f : Flag) (s : State) : State := s.modPort p (raiseOn f)

def originOf : Port → Origin
  | .a => .portA
  | .b => .portB

/-! ### Survey state -/

/-- RUNNING with no stop pending: what every rule that acts "in RUNNING" asks (R1). -/
def State.running (s : State) : Bool := s.survey.state == .running && s.survey.stopPending == .none

/-- RUNNING or STOPPED, a stop pending included (R1). -/
def State.inSurvey (s : State) : Bool := s.survey.state != .idle

/-- A stop is pending (R1). -/
def State.stopping (s : State) : Bool := s.survey.stopPending != .none

/-! ### Wall time (R11) -/

/-- The governing entry at survey ms t: the last-appended entry whose effect time is not above t. -/
def governing (steps : List TimeStep) (t : Nat) : Option TimeStep :=
  (steps.filter fun e => e.effect ≤ t).getLast?

/-- Wall date and ms of day at survey ms t. -/
def wallTime (steps : List TimeStep) (t : Nat) : Option (Nat × Nat) :=
  (governing steps t).map fun e =>
    let sum := e.ms + (t - e.effect)
    (e.date + sum / Config.dayMs, sum % Config.dayMs)

/-- The current survey day, absent in IDLE where the table is empty (R11, R135). -/
def surveyDay (s : State) : Option Nat := (wallTime s.survey.steps s.survey.clock).map Prod.fst

/-! ### Kit status worked out when asked (R131, R135, R136, R139) -/

/-- Channel c is overdue for calibration (R135). -/
def overdue (s : State) (c : Nat) : Bool :=
  let e := s.kit.entries.get c
  match surveyDay s with
  | some day => e.kind != .none && e.calDue != 0 && e.calDue < day
  | none => false

def overdueMask (s : State) : BitVec 8 := maskOf (overdue s)

def presentMask (k : KitUnit) : BitVec 8 := maskOf k.present.get

/-- The enable output's condition (R136). -/
def supplyShouldBeOn (k : KitUnit) : Bool := k.supplyOn && !k.faulted && !k.faultActive

/-- The output is worked out again (R136). -/
def settleSupply (k : KitUnit) : KitUnit := { k with enable := supplyShouldBeOn k }

/-- Needs-supply follows from the kind (R129). -/
def needsSupply (e : ProbeEntry) : Bool := e.kind == .flex

/-- Channel c is unpowered (R139). -/
def unpoweredChannel (k : KitUnit) (c : Nat) : Bool := needsSupply (k.entries.get c) && !k.enable

def unpoweredMask (k : KitUnit) : BitVec 8 := maskOf (unpoweredChannel k)

/-- A detector channel of the kit: present, VOLTAGE_LEAD, in-detector, channels 0 to 3 (R131). -/
def kitDetectorChannel (k : KitUnit) (c : Nat) : Bool :=
  decide (c < 4) && k.present.get c && (k.entries.get c).kind == .voltageLead && (k.entries.get c).inDetector

/-! ### The hold point (R24) -/

/-- The lowest of two holds. -/
def lowerHold (x y : Option Nat) : Option Nat :=
  match x, y with
  | some m, some n => some (min m n)
  | some m, none => some m
  | none, y => y

/-- The lowest hold of all jobs in the queue that hold; absent when none does. -/
def holdPoint (s : State) : Option Nat := (s.comp.queue.map Job.hold).foldr lowerHold none

/-! ### Responses (R197, R199, R201) -/

/-- Takes a port's response away; a STATUS response takes its clear-on-fetch set and missed count to clear with it. -/
def discardResponse (u : PortUnit) : PortUnit :=
  let u' := { u with response := none, fetchDue := false }
  match u.response with
  | some r => if r.kind = some .status then { u' with clearSet := 0, missedToClear := 0 } else u'
  | none => u'

/-- A READ_NEXT response is discarded, any other stays (R3, R7, R201). DESIGN CHOICE: the response of a refused READ_NEXT, which
holds no snapshot, is discarded with the others of its kind (notes/assumptions/46). -/
def discardReadNext (u : PortUnit) : PortUnit :=
  match u.response with
  | some r => if r.kind = some .readNext then { u with response := none, fetchDue := false } else u
  | none => u

/-- The owner writes its result code and body into the port's response buffer (R197). -/
def respondWith (p : Port) (kind : Option RequestKind) (code : ResultCode) (body : List Word) (d : Delivery)
    (s : State) : State :=
  s.modPort p fun u => { u with response := some ⟨code, body, kind, d, false⟩ }

def respond (p : Port) (kind : RequestKind) (code : ResultCode) (body : List Word) (s : State) : State :=
  respondWith p (some kind) code body .nothing s

/-- OK, or OK_CLAMPED when a value was forced into range. -/
def okOr (clamped : Bool) : ResultCode := if clamped then .okClamped else .ok

/-- An owner takes the request of its kind that waits at a port, as one event; without such a request the event does not
come about and nothing changes (R197, notes/assumptions/2). -/
def takeRequest (p : Port) (kind : RequestKind) (f : List Word → State → State) (s : State) : State :=
  match (s.port p).waiting with
  | some r => if r.kind = kind then f r.body (s.modPort p fun u => { u with waiting := none }) else s
  | none => s

/-! ### Free values -/

/-- A milliseconds value the manual leaves open, and the state in which it is used up. -/
def takeFreeMs (s : State) : Nat × State := ((Config.freeMs s.free).toNat, { s with free := s.free + 1 })

/-- A day number the manual leaves open, and the state in which it is used up. -/
def takeFreeDay (s : State) : Nat × State := ((Config.freeDay s.free).toNat, { s with free := s.free + 1 })

end Sys2Proof.Machine
end

