-- ==== Sys2Proof/Machine/Operands.lean ====
section
/-! DEFINITION. Request bodies: how each request's values are read from its words (R211, in the order the owner's rule lists
them). A body that does not suit its request reads as none, which its owner answers with BAD_REQUEST. -/

namespace Sys2Proof.Machine

open Sys2Proof

/-- A text field: a byte count, then that many bytes in pairs; the words after it remain (R211). DESIGN CHOICE: the low byte of the
last word of an odd count is disregarded, whatever it holds (notes/assumptions/37). -/
def readText : List Word → Option (List Byte × List Word)
  | [] => none
  | n :: rest =>
    let w := wordsFor n.toNat
    if w ≤ rest.length then some ((wordBytes (rest.take w)).take n.toNat, rest.drop w) else none

/-- Pairs of words as 32-bit values. -/
def readAll32 : List Word → List Nat
  | h :: l :: rest => join32 h l :: readAll32 rest
  | _ => []

/-- SURVEY_START (R2): site id, start date, start time, nominal frequency. -/
structure StartValues where
  site : List Byte
  date : Nat
  time : Nat
  freq : Nat
deriving DecidableEq, Repr

def readStart (body : List Word) : Option StartValues :=
  match readText body with
  | some (site, [date, h, l, freq]) => some ⟨site, date.toNat, join32 h l, freq.toNat⟩
  | _ => none

/-- SET_TIME (R10): wall date, wall ms of day. -/
def readSetTime : List Word → Option (Nat × Nat)
  | [date, h, l] => some (date.toNat, join32 h l)
  | _ => none

/-- GET (R15): an item, with a channel for PROBE and an order for LIMIT. DESIGN CHOICE: the item word is the SETTING record's item
code, from 1 (R210, R211; notes/assumptions/45). -/
def readGet : List Word → Option (Item × Nat)
  | [code] =>
    match itemOfCode code.toNat with
    | some i => if i = .probe ∨ i = .limit then none else some (i, 0)
    | none => none
  | [code, q] =>
    match itemOfCode code.toNat with
    | some i => if i = .probe ∨ i = .limit then some (i, q.toNat) else none
    | none => none
  | _ => none

/-- SEEK (R38): by number (form 0), OLDEST (1), NEWEST (2). -/
inductive SeekForm where
  | number (n : Nat)
  | oldest
  | newest
deriving DecidableEq, Repr

def readSeek : List Word → Option SeekForm
  | [f, h, l] => if f = 0 then some (.number (join32 h l)) else none
  | [f] => if f = 1 then some .oldest else if f = 2 then some .newest else none
  | _ => none

/-- POST_FRAME (R109): window index, channel mask, order count, magnitudes. -/
structure FrameValues where
  index : Nat
  mask : BitVec 8
  orders : Nat
  magnitudes : List Nat
deriving DecidableEq, Repr

def readFrame : List Word → Option FrameValues
  | h :: l :: m :: n :: mags =>
    let mask : BitVec 8 := m.setWidth 8
    if mags.length = maskCount mask * n.toNat then
      some ⟨join32 h l, mask, n.toNat, mags.map BitVec.toNat⟩
    else none
  | _ => none

/-- NOTE_BEGIN (R142): the values as given. -/
structure BeginValues where
  author : Nat
  category : Nat
  observed : Option Nat
  supersedes : Option Nat
  citeCount : Nat
  cites : List Nat
  parts : Nat
deriving DecidableEq, Repr

/-- An optional 32-bit value: two words when its presence bit is set, no words otherwise (R211). -/
def readOptional32 (there : Bool) (ws : List Word) : Option (Option Nat × List Word) :=
  if there then
    match ws with
    | h :: l :: rest => some (some (join32 h l), rest)
    | _ => none
  else some (none, ws)

/-- A citation count, that many numbers, and the part count. -/
def readCites : List Word → Option (Nat × List Nat × Nat)
  | n :: rest =>
    if rest.length = 2 * n.toNat + 1 then
      some (n.toNat, readAll32 (rest.take (2 * n.toNat)), ((rest.drop (2 * n.toNat)).headD 0).toNat)
    else none
  | [] => none

def readBegin : List Word → Option BeginValues
  | presence :: author :: category :: rest =>
    match readOptional32 (presence.getLsbD 0) rest with
    | some (observed, rest1) =>
      match readOptional32 (presence.getLsbD 1) rest1 with
      | some (supersedes, rest2) =>
        (readCites rest2).map fun (n, cites, parts) =>
          ⟨author.toNat, category.toNat, observed, supersedes, n, cites, parts⟩
      | none => none
    | none => none
  | _ => none

def categoryOf : Nat → Option Category
  | 0 => some .site
  | 1 => some .load
  | 2 => some .weather
  | 3 => some .probe
  | 4 => some .other
  | _ => none

/-- NOTE_PART (R144): part index, then 0 to 64 bytes of text. -/
def readPart : List Word → Option (Nat × List Byte)
  | index :: rest =>
    match readText rest with
    | some (text, []) => if text.length ≤ 64 then some (index.toNat, text) else none
    | _ => none
  | [] => none

/-- PRINT_SUBMIT (R155). An unknown span form carries no values (notes/assumptions/12). -/
inductive SpanForm where
  | range (first last : Nat)
  | all
  | sinceLast
  | unknown
deriving DecidableEq, Repr

structure SubmitValues where
  form : SpanForm
  sections : Nat
  format : Nat
  copies : Nat
  latestOnly : Nat
deriving DecidableEq, Repr

def readSubmit : List Word → Option SubmitValues
  | [form, sec, fmt, copies, latest] =>
    if form = 0 then none
    else
      some ⟨if form = 1 then .all else if form = 2 then .sinceLast else .unknown, sec.toNat, fmt.toNat,
        copies.toNat, latest.toNat⟩
  | [form, fh, fl, lh, ll, sec, fmt, copies, latest] =>
    if form = 0 then
      some ⟨.range (join32 fh fl) (join32 lh ll), sec.toNat, fmt.toNat, copies.toNat, latest.toNat⟩
    else none
  | _ => none

/-- The sections of a mask, in the order of R154. -/
def sectionsOf (n : Nat) : Sections := ⟨n.testBit 0, n.testBit 1, n.testBit 2, n.testBit 3, n.testBit 4⟩

def noSections (c : Sections) : Bool := !(c.events || c.intervals || c.notes || c.settings || c.marks)

/-- SELFTEST_START (R59): level A, level B, KA, KB, repeat count. -/
structure TestValues where
  levelA : Nat
  levelB : Nat
  ka : Nat
  kb : Nat
  repeats : Nat
deriving DecidableEq, Repr

def readSelftest : List Word → Option TestValues
  | [a, b, ka, kb, n] => some ⟨a.toNat, b.toNat, ka.toNat, kb.toNat, n.toNat⟩
  | _ => none

/-- PORT_CONFIG (R206): enable mask, kind mask, divider. -/
def readConfig : List Word → Option (BitVec 8 × BitVec 6 × Nat)
  | [e, k, d] => some (e.setWidth 8, k.setWidth 6, d.toNat)
  | _ => none

/-- PROBE_SET (R130): a channel and a whole entry. The entry is read in the item's three words (R210), or with one word a
value (R211): notes/assumptions/12. -/
structure ProbeValues where
  channel : Nat
  kind : Nat
  level : Nat
  inDetector : Bool
  activeHigh : Bool
  calDue : Nat
deriving DecidableEq, Repr

/-- PROBE_SET (R130). DESIGN CHOICE (notes/assumptions/12): the body holds the channel and the three words of R210, bits 2 to 7 of
the first disregarded; or six words of one value each, an in-detector word above 1 read as set and a polarity word other than 0 as
ACTIVE_LOW. -/
def readProbeSet : List Word → Option ProbeValues
  | [c, k, d, due] =>
    some ⟨c.toNat, k.toNat / 256, d.toNat, k.getLsbD 0, k.getLsbD 1, due.toNat⟩
  | [c, k, d, det, pol, due] =>
    some ⟨c.toNat, k.toNat, d.toNat, det != 0, pol == 0, due.toNat⟩
  | _ => none

/-- The entry's three words in a SETTING record (R210). -/
def probeWords (e : ProbeEntry) : List Word :=
  [word (256 * probeKindCode e.kind + bit e.inDetector + 2 * bit e.activeHigh), word (e.level.getD 0), word e.calDue]

end Sys2Proof.Machine
end

