-- ==== Sys2Proof/Machine/Jobs.lean ====
section
/-! DEFINITION. The print queue: how a job leaves it (R159), what setting a closing does (R173 to R176), a yield request
(R175), and the printer line's part in both: the move into the shift register (R181) and the end of service (R193). -/

namespace Sys2Proof.Machine

open Sys2Proof

def State.setLine (s : State) (l : LineUnit) : State := { s with line := l }
def State.setComp (s : State) (c : ComposerUnit) : State := { s with comp := c }

/-- The same change on the head job. -/
def modHead (f : Job → Job) (s : State) : State :=
  match s.comp.queue with
  | j :: rest => s.setComp { s.comp with queue := f j :: rest }
  | [] => s

def headJob (s : State) : Option Job := s.comp.queue.head?

/-! ### Printer commands (R183) -/

def inquireByte : Byte := 0x01

/-- FEED 4 and CUT, the bytes asked for after a footer and after a closing line (R170, R174, R183). -/
def feedAndCut : List Byte := [0x02, 4, 0x03]

def lineFeed : Byte := 0x0A

/-! ### The move from the FIFO to the shift register (R181) -/

/-- All that R181 asks before a byte may leave the FIFO. DESIGN CHOICE: it holds for every byte, so that an INQUIRE still in the FIFO
when a HEAD_HOT byte taken in INQUIRING ends the start waits for the flag to clear, the line being SENDING (R181 against R187;
notes/assumptions/44). -/
def mayMove (l : LineUnit) : Bool :=
  l.shift.isNone && l.cts && l.state != .brk && !(l.state == .sending && l.held.headHot)

/-- A waiting byte moves into an empty shift register, under the rate and parity in force (R179, R181). -/
def pump (l : LineUnit) : LineUnit :=
  if mayMove l then
    match l.fifo with
    | b :: rest => { l with fifo := rest, shift := some ⟨b, l.baud, l.evenParity⟩ }
    | [] => l
  else l

/-- PARITY is set; a byte being received finishes under the value it began with (R179). -/
def changeParity (even : Bool) (l : LineUnit) : LineUnit :=
  { l with evenParity := even, parityChanged := l.parityChanged || even != l.evenParity }

/-! ### Leaving the queue (R159, R193) -/

/-- The controller stops serving a head job that has left (R193). A break runs to its end; a line in SENDING waits there for the
next head job's start request when there is one; otherwise the line is IDLE once no byte is under way. -/
def stopServing (hasNext : Bool) (l : LineUnit) : LineUnit :=
  let l1 := { l with inquiry := none, poll := none, stall := none, reason := none }
  match l.state with
  | .brk => { l1 with leaving := true }
  | .idle => l1
  | .sending =>
    if hasNext then l1
    else if l.shift.isSome then { l1 with leaving := true } else { l1 with state := .idle }
  | _ =>
    if l.shift.isSome then { l1 with fifo := [], leaving := true }
    else { l1 with fifo := [], state := .idle }

/-- The position an end-list entry shows (R159): the footer for DONE, the position at the decision for a job whose closing was
set, absent for a job that never began composing. -/
def endPosition (j : Job) (e : JobEnd) : Option Position :=
  match e with
  | .done => some .footer
  | _ => if j.closing = .none then (if j.began then some j.position else none) else j.decided

def endEntry (j : Job) (e : JobEnd) : EndEntry :=
  ⟨j.number, j.surveyNumber, j.port, e, j.first, j.last, j.missing, j.copies, j.completed, endPosition j e⟩

/-- An entry joins the back of the end list, the oldest of eight leaving first (R159). -/
def pushEnd (e : EndEntry) (l : List EndEntry) : List EndEntry :=
  (if Config.queueSize ≤ l.length then l.drop (l.length + 1 - Config.queueSize) else l) ++ [e]

/-- A waiting job becomes the head job: PRINTING, and the controller is asked for a start (R158). -/
def becomeHead (j : Job) : Job := { j with state := .printing }

/-- The head job leaves (R159): its hold goes with it, its end-list entry is added, PRINT is raised on both ports, the next job
becomes the head job, and the controller stops serving (R193). -/
def headLeaves (e : JobEnd) (s : State) : State :=
  match s.comp.queue with
  | [] => s
  | j :: rest =>
    let queue := match rest with
      | [] => []
      | k :: more => becomeHead k :: more
    let comp := { s.comp with
      queue := queue, endList := pushEnd (endEntry j e) s.comp.endList, buffer := [], todo := [],
      lastDate := none, asked := !rest.isEmpty }
    raiseBoth .print { s with comp := comp, line := stopServing (!rest.isEmpty) s.line }

/-- A QUEUED job behind the head leaves (R159, R173, R175). -/
def queuedLeaves (n : Nat) (e : JobEnd) (s : State) : State :=
  match s.comp.queue.find? fun j => j.number == n with
  | some j =>
    raiseBoth .print (s.setComp { s.comp with
      queue := s.comp.queue.filter fun k => k.number != n,
      endList := pushEnd (endEntry j e) s.comp.endList })
  | none => s

/-! ### Closings (R173 to R176) -/

def closingEnd : Closing → JobEnd
  | .yield => .yielded
  | _ => .cancelled

def closingText : Closing → List Byte
  | .yield => ascii "REPORT CUT: JOURNAL SPACE NEEDED"
  | _ => ascii "REPORT CANCELLED"

/-- The closing line, then the feed and the cut (R174). -/
def closingLines (c : Closing) : List LineSpec := [.closingLine (closingText c), .command feedAndCut]

def isCommand : LineSpec → Bool
  | .command _ => true
  | _ => false

/-- What is left to compose when a closing is set in PRINTING (R174): under CANCEL nothing beyond the line in the buffer, under
YIELD the lines of the current position (not the cut that would follow a footer: notes/assumptions/17). -/
def closingTodo (c : Closing) (todo : List LineSpec) : List LineSpec :=
  match c with
  | .yield => todo.filter (fun l => !isCommand l) ++ closingLines c
  | _ => closingLines c

/-- The head job's closing is set and its hold dropped (R173, R175). A SUSPENDED job leaves at once, a STALLED one keeps its
closing pending (R176), a PRINTING one closes by R174. -/
def closeHead (c : Closing) (s : State) : State :=
  match s.comp.queue with
  | [] => s
  | j :: rest =>
    let j1 := { j with hold := none, closing := c, decided := if j.began then some j.position else none }
    let s1 := s.setComp { s.comp with queue := j1 :: rest }
    match j.state with
    | .suspended => headLeaves (closingEnd c) s1
    | .stalled => raiseBoth .print s1
    | _ =>
      if s.line.state = .sending ∧ s.comp.asked = false then
        raiseBoth .print (s1.setComp { s1.comp with todo := closingTodo c s1.comp.todo })
      else raiseBoth .print s1

/-- A job takes a yield request of the Journal Manager (R26, R175). -/
def yieldJob (n : Nat) (s : State) : State :=
  match s.comp.queue with
  | [] => s
  | j :: _ =>
    if j.number = n then
      if j.closing = .none then closeHead .yield s else s
    else queuedLeaves n .yielded s

/-- The holding jobs in the order in which they are asked to yield: by hold, the front of the queue first among equals (R26). -/
def insertByHold (h n : Nat) : List (Nat × Nat) → List (Nat × Nat)
  | [] => [(h, n)]
  | (h', n') :: rest => if h < h' then (h, n) :: (h', n') :: rest else (h', n') :: insertByHold h n rest

def yieldOrder (s : State) : List Nat :=
  ((s.comp.queue.filterMap fun j => j.hold.map fun h => (h, j.number)).foldl
    (fun acc x => insertByHold x.1 x.2 acc) []).map Prod.snd

end Sys2Proof.Machine
end

