-- ==== Sys2Proof/Machine/Journal.lean ====
section
/-! DEFINITION. The Journal Manager: planning an append, reclaim, yield, cursor pushes, placing a record, loss accounting, the
low-space warning, and the sequence limit (R6, R17 to R32). -/

namespace Sys2Proof.Machine

open Sys2Proof

def State.setJournal (s : State) (j : JournalUnit) : State := { s with journal := j }

/-! ### Stop sequence (R5, R6) -/

def allBlocks : Blocks := ⟨true, true, true, true⟩

/-- A stop becomes pending: the four capture blocks are marked as yet to finish and each is sent a stop notice (R5). -/
def beginStop (why : StopPending) (s : State) : State :=
  { s with
    survey := { s.survey with stopPending := why, yetToFinish := allBlocks }
    flight := { s.flight with stopNotices := allBlocks } }

/-- The test at the end of an append event (R6): a head sequence at or above 0xFFFFFF00 begins a stop with reason SEQ_LIMIT,
when RUNNING with no stop pending. -/
def checkLimit (s : State) : State :=
  if s.running && decide (Config.reserveStart ≤ s.journal.headSeq) then beginStop .seqLimit s else s

/-- Port appends are refused in the reserve (R6). -/
def belowReserve (s : State) : Bool := decide (s.journal.headSeq < Config.reserveStart)

/-! ### Planning (R22) -/

/-- A record may be reclaimed when it lies below the hold point, or when there is none (R22). -/
def reclaimable (hold : Option Nat) (r : Record) : Bool :=
  match hold with
  | some h => decide (r.seq < h)
  | none => true

/-- Reclaims from the tail, oldest first, until k slots are free: the records left and the free slots then; none when the
reclaimable records do not reach k (R22). -/
def planReclaim (k : Nat) (hold : Option Nat) : Nat → List Record → Option (List Record × Nat)
  | free, [] => if k ≤ free then some ([], free) else none
  | free, r :: rest =>
    if k ≤ free then some (r :: rest, free)
    else if reclaimable hold r then planReclaim k hold (free + r.slots) rest
    else none

/-- A port's cursor below the tail is pushed to it; the missed count rises and LOSS is raised on that port (R23). -/
def pushCursor (tail : Nat) (u : PortUnit) : PortUnit :=
  if u.cursor < tail then
    raiseOn .loss { u with cursor := tail, missed := satAdd Config.max32 u.missed (tail - u.cursor) }
  else u

/-- The reclaims of a plan are carried out, then the cursors are compared with the new tail (R22, R23). -/
def applyPlan (left : List Record) (free : Nat) (s : State) : State :=
  let gone := s.journal.records.length - left.length
  let tail := s.journal.tailSeq + gone
  (s.setJournal { s.journal with
    records := left, tailSeq := tail, free := free,
    tailSlot := (s.journal.tailSlot + (free - s.journal.free)) % Config.journalSlots }).bothPorts (pushCursor tail)

/-- Whether and how k slots can be had under the holds as they stand. -/
def planHere (k : Nat) (s : State) : Option (List Record × Nat) :=
  planReclaim k (holdPoint s) s.journal.free s.journal.records

/-- Jobs yield in order until k slots can be had (R26). -/
def yieldUntil (k : Nat) : List Nat → State → Option State
  | [], s => (planHere k s).map fun (left, free) => applyPlan left free s
  | n :: more, s =>
    match planHere k s with
    | some (left, free) => some (applyPlan left free s)
    | none => yieldUntil k more (yieldJob n s)

/-- An append of k slots is planned and its yields and reclaims carried out: R22, with R26 under CAPTURE_FIRST; none, with
nothing changed, when it fails (R27). -/
def makeRoom (k : Nat) (s : State) : Option State :=
  match planHere k s with
  | some (left, free) => some (applyPlan left free s)
  | none =>
    match s.journal.policy with
    | .captureFirst => yieldUntil k (yieldOrder s) s
    | .printFirst => none

/-! ### Placing (R18, R21) -/

/-- The header's survey ms (R18): the survey clock, or an event's start. -/
def headerMs (b : Body) (s : State) : Nat :=
  match b with
  | .event e => e.startMs
  | _ => s.survey.clock

def newRecord (b : Body) (test : Bool) (o : Origin) (s : State) : Record :=
  ⟨s.journal.headSeq, test, false, o, headerMs b s, s.survey.number, b⟩

/-- Each port is told the kind of an appended record (R205). -/
def tellPorts (k : RecordKind) (s : State) : State :=
  s.bothPorts fun u => { u with arrivals := u.arrivals ++ [k] }

/-- The record takes the head sequence and starts at the head slot (R21). -/
def placeRecord (b : Body) (test : Bool) (o : Origin) (s : State) : State :=
  let k := bodySlots b
  tellPorts (bodyKind b) (s.setJournal { s.journal with
    records := s.journal.records ++ [newRecord b test o s]
    headSeq := s.journal.headSeq + 1
    headSlot := (s.journal.headSlot + k) % Config.journalSlots
    free := s.journal.free - k })

/-- The low-space warning at the end of an append event (R32). -/
def checkLow (s : State) : State :=
  if s.journal.free < Config.lowSpace then
    if s.journal.armed then raiseBoth .journalLow (s.setJournal { s.journal with armed := false }) else s
  else s.setJournal { s.journal with armed := true }

/-! ### Loss accounting (R27 to R29) -/

def lossPending (j : JournalUnit) : Bool :=
  j.lossEvent != 0 || j.lossWave != 0 || j.lossInterval != 0 || j.lossMark != 0

def lossMark (j : JournalUnit) : Body := .mark (.loss j.lossEvent j.lossWave j.lossInterval j.lossMark)

/-- A dropped hardware record counts under its kind (R28). -/
def countLoss (k : RecordKind) (j : JournalUnit) : JournalUnit :=
  match k with
  | .event => { j with lossEvent := satInc Config.max32 j.lossEvent }
  | .wave => { j with lossWave := satInc Config.max32 j.lossWave }
  | .interval => { j with lossInterval := satInc Config.max32 j.lossInterval }
  | _ => { j with lossMark := satInc Config.max32 j.lossMark }

def zeroLoss (j : JournalUnit) : JournalUnit :=
  { j with lossEvent := 0, lossWave := 0, lossInterval := 0, lossMark := 0 }

/-- A hardware record is dropped, counted, and LOSS raised on both ports (R27, R28). -/
def dropRecord (k : RecordKind) (s : State) : State :=
  raiseBoth .loss (s.setJournal (countLoss k s.journal))

/-- The MARK LOSS takes the head sequence and the counters are zeroed (R29). -/
def placeLoss (s : State) : State :=
  let s1 := placeRecord (lossMark s.journal) false .survey s
  s1.setJournal (zeroLoss s1.journal)

/-! ### Hardware appends (R20, R21, R27, R29) -/

/-- The origin of each hardware record (R20). -/
def hardwareOrigin : Body → Origin
  | .event _ => .detector
  | .wave _ => .capture
  | .interval _ => .aggregator
  | .mark (.probeIn _ _ _ _) => .kit
  | .mark (.probeOut _ _ _ _) => .kit
  | .mark (.probeFault _ _ _) => .kit
  | .mark (.supplyRestored _ _ _) => .kit
  | _ => .survey

/-- One hardware record is planned and placed, with the pending MARK LOSS before it where both fit, or dropped and counted; and
the answer to its block: the sequence number given, or none (R21, R27, R29). -/
def hardwareOne (b : Body) (test : Bool) (s : State) : State × Option Nat :=
  let k := bodySlots b
  let alone : State × Option Nat :=
    match makeRoom k s with
    | some s1 => (checkLow (placeRecord b test (hardwareOrigin b) s1), some s1.journal.headSeq)
    | none => (dropRecord (bodyKind b) s, none)
  if lossPending s.journal then
    match makeRoom (k + 1) s with
    | some s1 =>
      let s2 := placeLoss s1
      (checkLow (placeRecord b test (hardwareOrigin b) s2), some s2.journal.headSeq)
    | none => alone
  else alone

/-- A hardware append is taken as one event, which ends with the test of R6. -/
def hardwareAppend (b : Body) (test : Bool) (s : State) : State × Option Nat :=
  let r := hardwareOne b test s
  (checkLimit r.1, r.2)

/-- A MARK of a hardware block, never marked TEST (R60, R64). -/
def appendMark (m : MarkBody) (s : State) : State := (hardwareAppend (.mark m) false s).1

/-- Two marks appended in one event, in this order (R57). -/
def appendTwoMarks (m m' : MarkBody) (s : State) : State :=
  checkLimit (hardwareOne (.mark m') false (hardwareOne (.mark m) false s).1).1

/-- A mark that its owner appends in RUNNING (R1). -/
def markInRunning (m : MarkBody) (s : State) : State := if s.running then appendMark m s else s

/-! ### Port appends (R20, R27) -/

/-- A port's record is planned and placed; none, with nothing changed, when it is refused with JOURNAL_HELD (R27). The event that
makes it ends with `checkLimit`. -/
def portAppend (p : Port) (b : Body) (s : State) : Option State :=
  (makeRoom (bodySlots b) s).map fun s1 => checkLow (placeRecord b false (originOf p) s1)

/-! ### Reading and marking stored records -/

/-- A record by its sequence number (R40). -/
def findRecord (n : Nat) (s : State) : Option Record := s.journal.records.find? fun r => r.seq == n

/-- A number from the tail sequence to the head sequence minus one (R30). -/
def inJournal (s : State) (n : Nat) : Bool := decide (s.journal.tailSeq ≤ n) && decide (n < s.journal.headSeq)

/-- A stored record gains SUPERSEDED (R31). -/
def supersede (n : Nat) (s : State) : State :=
  s.setJournal { s.journal with
    records := s.journal.records.map fun r => if r.seq = n then { r with superseded := true } else r }

/-- The emptied journal of SURVEY_START and SURVEY_CLEAR (R3, R7, R19). -/
def emptyJournal (j : JournalUnit) : JournalUnit := { JournalUnit.reset with policy := j.policy }

/-! ### Commands -/

/-- What a block may append on its own account (R20): a hardware record, of at most 16 slots (R17). MARK SURVEY_START is made by its
request (R3), MARK TIME_STEP is a port append (R10), and the Journal Manager makes MARK LOSS itself (R29). -/
def hardwareBody (b : Body) : Bool :=
  (match b with
    | .event _ => true
    | .wave _ => true
    | .interval _ => true
    | .mark (.surveyStart _ _ _ _ _ _ _) => false
    | .mark (.timeStep _ _ _ _) => false
    | .mark (.loss _ _ _ _) => false
    | .mark _ => true
    | _ => false) && decide (bodySlots b ≤ 16)

/-- The capture takes the answer to a WAVE append: the first sequence and the count of stored records, or a refusal that it takes
as an event of its own (R21, R104). -/
def waveAnswered (r : State × Option Nat) : State :=
  let c := r.1.cap
  match r.2 with
  | some n => { r.1 with cap := { c with firstWave := some (c.firstWave.getD n), stored := c.stored + 1 } }
  | none => { r.1 with cap := { c with refused := true } }

/-- APPEND (R21): a block's record meets the Journal Manager. Blocks append in RUNNING, a stop pending included (R5); the answer
to a WAVE of the capture in progress goes to the capture. -/
def execAppend (b : Body) (test : Bool) (s : State) : Host.Outcome State Fault Refusal :=
  .next <|
    if s.survey.state = .running ∧ hardwareBody b then
      match b with
      | .wave w =>
        if s.cap.capturing ∧ s.cap.number = w.capture then waveAnswered (hardwareAppend b test s)
        else (hardwareAppend b test s).1
      | _ => (hardwareAppend b test s).1
    else s

/-- SEQ_LIMIT_STOP (R6): the Survey Control Unit's test of the head sequence. Every append event ends with it already. -/
def execSeqLimitStop (s : State) : Host.Outcome State Fault Refusal := .next (checkLimit s)

/-- NEW_RECORD_DIVIDER (R205): a port takes the next append it was told of. -/
def execNewRecordDivider (p : Port) (s : State) : Host.Outcome State Fault Refusal :=
  .next <|
    match (s.port p).arrivals with
    | k :: rest => s.modPort p fun u => countRecord k { u with arrivals := rest }
    | [] => s

end Sys2Proof.Machine
end

