-- ==== Sys2Proof/Machine/Survey.lean ====
section
/-! DEFINITION. The Survey Control Unit: survey lifecycle, stop completion, survey clock and timers, the time-step table
(R1 to R11), and power-on and the reset pin (each block's reset values). -/

namespace Sys2Proof.Machine

open Sys2Proof

def State.setSurvey (s : State) (u : SurveyUnit) : State := { s with survey := u }

/-! ### Starting and clearing (R2, R3, R7) -/

/-- What SURVEY_START and SURVEY_CLEAR do to a port: cursor 1, missed count 0, a READ_NEXT response discarded (R3, R7, R194). -/
def restartPort (u : PortUnit) : PortUnit :=
  { discardReadNext u with cursor := 1, missed := 0, missedToClear := 0 }

/-- Step 4 of R3 at the Half-Cycle Unit (R80). -/
def restartCounters (h : HalfCycleUnit) : HalfCycleUnit :=
  { h with
    halfNo := 0, prevBand := .all none, bandCounts := .all (List.replicate 8 0), entryCounts := .all (List.replicate 8 0)
    surveyOcc := zeroOccupancy, intervalOcc := zeroOccupancy, edgesChanged := false }

/-- The items of the aggregator's state table take their initial values; the settings stay, and the highest window taken is as
given (R111; R122 step 5). -/
def clearInterval (highest : Option Nat) (a : AggregatorUnit) : AggregatorUnit :=
  { AggregatorUnit.reset with
    length := a.length, kept := a.kept, mask := a.mask, exclude := a.exclude, limits := a.limits, highest := highest }

/-- The capture context after SURVEY_START (R99). -/
def restartCapture (c : CaptureUnit) : CaptureUnit :=
  { c with
    capturing := false, number := 0, linkedLow := false, linkedHigh := false, cycle0 := none, postDone := 0
    firstWave := none, stored := 0, stopTaken := false, refused := false }

/-- Steps 1 to 8 of an accepted SURVEY_START (R3). DESIGN CHOICE: messages on their way between blocks stay on their way, an opening
for the aggregator among them (notes/assumptions/42). -/
def startState (v : StartValues) (s : State) : State :=
  ({ s with
    journal := emptyJournal s.journal
    survey := { s.survey with
      state := .running, stopPending := .none, number := (s.survey.number + 1) % 65536, siteId := v.site
      startDate := v.date, startTime := v.time, freq := v.freq, clock := 0, steps := [⟨0, v.date, v.time⟩] }
    hcu := restartCounters s.hcu
    agg := clearInterval none s.agg
    cap := restartCapture s.cap
    comp := { s.comp with lastPrinted := 0 } }).bothPorts restartPort

/-- MARK SURVEY_START (R3 step 9). -/
def startMark (s : State) : Body :=
  .mark (.surveyStart s.survey.siteId s.survey.startDate s.survey.startTime s.survey.freq (presentMask s.kit)
    s.kit.faulted s.kit.enable)

/-- An accepted SURVEY_START, as one event (R3). -/
def startSurvey (v : StartValues) (s : State) : State :=
  let s1 := startState v s
  checkLow (placeRecord (startMark s1) false .survey s1)

/-- The checks of R2 after the body's form; none when every check passes. -/
def startRefusal (v : StartValues) (s : State) : Option ResultCode :=
  if s.survey.state = .running then some .wrongState
  else if s.survey.state = .stopped ∧ s.comp.queue ≠ [] then some .printActive
  else if v.freq ≠ 50 ∧ v.freq ≠ 60 then some .badValue
  else if Config.dayMs ≤ v.time then some .badValue
  else none

/-- SURVEY_START (R2, R3). -/
def execSurveyStart (p : Port) (s : State) : Host.Outcome State Fault Refusal :=
  .next <| takeRequest p .surveyStart (fun body s =>
    match readStart body with
    | some v =>
      if 16 < v.site.length then respond p .surveyStart .badRequest [] s
      else
        match startRefusal v s with
        | some code => respond p .surveyStart code [] s
        | none => respond p .surveyStart .ok [] (startSurvey v s)
    | none => respond p .surveyStart .badRequest [] s) s

/-- SURVEY_STOP (R4). DESIGN CHOICE: R4 gives its checks no order, and a body that is not empty is BAD_REQUEST in any survey state
(notes/assumptions/36). -/
def execSurveyStop (p : Port) (s : State) : Host.Outcome State Fault Refusal :=
  .next <| takeRequest p .surveyStop (fun body s =>
    if body ≠ [] then respond p .surveyStop .badRequest [] s
    else if s.running then respond p .surveyStop .ok [] (beginStop (.request p) s)
    else respond p .surveyStop .wrongState [] s) s

/-- An accepted SURVEY_CLEAR, as one event (R7). -/
def clearSurvey (s : State) : State :=
  ({ s with
    journal := emptyJournal s.journal
    survey := { s.survey with state := .idle, clock := 0, steps := [] }
    hcu := { s.hcu with halfNo := 0 }
    comp := { s.comp with lastPrinted := 0 } }).bothPorts restartPort

/-- SURVEY_CLEAR (R7). DESIGN CHOICE: R7 gives its checks no order, and a body that is not empty is BAD_REQUEST before them
(notes/assumptions/36). -/
def execSurveyClear (p : Port) (s : State) : Host.Outcome State Fault Refusal :=
  .next <| takeRequest p .surveyClear (fun body s =>
    if body ≠ [] then respond p .surveyClear .badRequest [] s
    else if s.survey.state ≠ .stopped then respond p .surveyClear .wrongState [] s
    else if s.comp.queue ≠ [] then respond p .surveyClear .printActive [] s
    else respond p .surveyClear .ok [] (clearSurvey s)) s

/-! ### Stop completion (R5) -/

/-- MARK SURVEY_STOP is appended, and in the same event the survey becomes STOPPED and the stop pending none. -/
def completeStop (s : State) : State :=
  let why : StopReason := match s.survey.stopPending with
    | .request p => .request p
    | _ => .seqLimit
  let s1 := appendMark (.surveyStop why) s
  s1.setSurvey { s1.survey with state := .stopped, stopPending := .none }

/-- A capture block reports itself finished: it leaves the set, and the last one to leave completes the stop. -/
def finishBlock (leave : Blocks → Blocks) (s : State) : State :=
  let left := leave s.survey.yetToFinish
  let s1 := s.setSurvey { s.survey with yetToFinish := left }
  if left = .empty ∧ s.stopping then completeStop s1 else s1

def leaveDetector (b : Blocks) : Blocks := { b with detector := false }
def leaveCapture (b : Blocks) : Blocks := { b with capture := false }
def leaveAggregator (b : Blocks) : Blocks := { b with aggregator := false }
def leaveGenerator (b : Blocks) : Blocks := { b with generator := false }

/-! ### Survey time and timers (R8, R132, R180) -/

/-- A running timer loses one millisecond. -/
def tickTimer (t : Option Nat) : Option Nat := t.map fun n => n - 1

/-- SURVEY_CLOCK_TICK (R8): a millisecond of the clock input. The survey clock counts in RUNNING and STOPPED; every running
timer of the Kit Line Unit and of the printer line counts down (notes/assumptions/10). -/
def execSurveyClockTick (s : State) : Host.Outcome State Fault Refusal :=
  .next { s with
    survey := { s.survey with
      clock := if s.survey.state = .idle then s.survey.clock else satInc Config.max32 s.survey.clock }
    kit := { s.kit with timers := .ofFn fun c => tickTimer (s.kit.timers.get c) }
    line := { s.line with
      inquiry := tickTimer s.line.inquiry, poll := tickTimer s.line.poll
      stall := tickTimer s.line.stall, brk := tickTimer s.line.brk } }

/-- The old wall time of a step at survey ms t; a day number above 65535 does not fit the mark's field and is free
(notes/assumptions/14). -/
def oldWallTime (s : State) : Nat × Nat × State :=
  let (d, m) := (wallTime s.survey.steps s.survey.clock).getD (0, 0)
  if Config.max16 < d then
    let (f, s1) := takeFreeDay s
    (f, m, s1)
  else (d, m, s)

/-- An accepted SET_TIME: its mark and its table entry, as one event; none when the mark cannot be appended (R10). -/
def stepTime (p : Port) (date ms : Nat) (s : State) : Option State :=
  let (od, om, s0) := oldWallTime s
  (portAppend p (.mark (.timeStep od om date ms)) s0).map fun s1 =>
    checkLimit (s1.setSurvey { s1.survey with steps := s1.survey.steps ++ [⟨s1.survey.clock, date, ms⟩] })

/-- SET_TIME (R10). -/
def execSetTime (p : Port) (s : State) : Host.Outcome State Fault Refusal :=
  .next <| takeRequest p .setTime (fun body s =>
    match readSetTime body with
    | none => respond p .setTime .badRequest [] s
    | some (date, ms) =>
      if s.survey.state = .idle then respond p .setTime .noSurvey [] s
      else if Config.dayMs ≤ ms then respond p .setTime .badValue [] s
      else if !belowReserve s then respond p .setTime .wrongState [] s
      else if 16 ≤ s.survey.steps.length then respond p .setTime .tableFull [] s
      else
        match stepTime p date ms s with
        | none => respond p .setTime .journalHeld [] s
        | some s1 => respond p .setTime .ok [] s1) s

/-! ### Power-on and the reset pin (R1, R132, R137, R180) -/

/-- The compared level of a channel is FITTED when its line is at the polarity's active level (R132). -/
def comparedLevel (k : KitUnit) (c : Nat) : Bool := k.sense.get c == (k.entries.get c).activeHigh

/-- Activation of the fault input at the Kit Line Unit (R137, steps 1 and 2). -/
def activateFault (k : KitUnit) : KitUnit := settleSupply { k with faulted := true, faultActive := true }

/-- The Kit Line Unit after a reset reads each sense line and the fault input (R132, R137). -/
def kitAfterReset (k : KitUnit) : KitUnit :=
  let k0 := { KitUnit.reset with sense := k.sense }
  let k1 := { k0 with timers := .ofFn fun c => if comparedLevel k0 c then some Config.debounceMs else none }
  if k.faultActive then activateFault k1 else k1

/-- Every block at its power-on state, the input pins read as they stand, the queue untouched. -/
def resetAll (s : State) : State :=
  let s1 := { State.reset with
    kit := kitAfterReset s.kit
    line := { LineUnit.reset with ready := s.line.ready, cts := s.line.cts }
    free := s.free, pending := s.pending }
  if s.kit.faultActive then raiseBoth .probe s1 else s1

/-- POWER_ON (R1). -/
def execPowerOn (s : State) : Host.Outcome State Fault Refusal := .next (resetAll s)

/-- RESET_PIN (R1). -/
def execResetPin (s : State) : Host.Outcome State Fault Refusal := .next (resetAll s)

end Sys2Proof.Machine
end

