-- ==== Sys2Proof/Machine/Detector.lean ====
section
/-! DEFINITION. The Event Detector: the LOW and HIGH contexts, classification, records that fall due, flags, probe notices, loss of
source, survey stop, and the capture's answers and end notices (R84 to R97, R102, R107). -/

namespace Sys2Proof.Machine

open Sys2Proof

def DetectorUnit.ctx (d : DetectorUnit) : DetCtx → DetContext
  | .low => d.low
  | .high => d.high

def DetectorUnit.setCtx (d : DetectorUnit) (x : DetCtx) (c : DetContext) : DetectorUnit :=
  match x with
  | .low => { d with low := c }
  | .high => { d with high := c }

def State.ctx (s : State) (x : DetCtx) : DetContext := s.det.ctx x
def State.setCtx (s : State) (x : DetCtx) (c : DetContext) : State := { s with det := s.det.setCtx x c }

/-! ### Reading a value (R85 to R89) -/

/-- The detector channels of a value (R85). -/
def detectorChannels (v : HalfValue) : Four Bool :=
  v.chans.map fun x => match x with | some y => y.inDetector | none => false

/-- The residuals of a value's detector channels. -/
def detectorResiduals (v : HalfValue) : Four (Option ChanValue) :=
  v.chans.map fun x => match x with | some y => if y.inDetector then some y else none | none => none

/-- Past the threshold: below it in LOW, above it in HIGH (R86, R89). -/
def past (x : DetCtx) (limit r : Nat) : Bool :=
  match x with
  | .low => decide (r < limit)
  | .high => decide (limit < r)

/-- A residual that passes the end test (R87, R89). -/
def recovered (x : DetCtx) (f : Frozen) (r : Nat) : Bool :=
  match x with
  | .low => decide (f.limit + f.hyst ≤ r)
  | .high => decide (r ≤ f.limit - f.hyst)

def channelPast (x : DetCtx) (limit : Nat) (y : Option ChanValue) : Bool :=
  match y with | some z => past x limit z.residual | none => false

/-- Some detector channel is past the threshold. -/
def anyPast (x : DetCtx) (limit : Nat) (v : HalfValue) : Bool :=
  (detectorResiduals v).toList.any (channelPast x limit)

/-- Every detector channel passes the end test. -/
def allRecovered (x : DetCtx) (f : Frozen) (v : HalfValue) : Bool :=
  (detectorResiduals v).toList.all fun y => match y with | some z => recovered x f z.residual | none => true

def noDetectorChannel (v : HalfValue) : Bool := detectorChannels v == .all false

/-- The thresholds a context freezes at an opening (R86, R89). -/
def thresholds (x : DetCtx) (d : DetectorUnit) : Frozen :=
  match x with
  | .low => ⟨d.dip, d.intr, d.hyst⟩
  | .high => ⟨d.swell, 0, d.hyst⟩

/-- The further of an extreme and a residual: the lower in LOW, the higher in HIGH. -/
def further (x : DetCtx) (e : Option Nat) (r : Nat) : Nat :=
  match x with
  | .low => min (e.getD r) r
  | .high => max (e.getD r) r

/-- A channel's extreme after a residual. -/
def extremeAfter (x : DetCtx) (e : Option Nat) (y : Option ChanValue) : Option Nat :=
  match y with | some z => some (further x e z.residual) | none => e

/-- An OPEN value: joining, extremes, marks and bookkeeping (R87). -/
def takeOpen (x : DetCtx) (v : HalfValue) (c : DetContext) : DetContext :=
  let rs := detectorResiduals v
  let marked := fun (f : ChanValue → Bool) =>
    rs.toList.any fun y => match y with | some z => f z | none => false
  { c with
    involved := .zip (fun i y => i || channelPast x c.frozen.limit y) c.involved rs
    extremes := .zip (extremeAfter x) c.extremes rs
    flags := { c.flags with
      clipped := c.flags.clipped || marked ChanValue.clipped
      capped := c.flags.capped || marked ChanValue.capped
      test := c.flags.test || v.test }
    lastValue := v.number
    lastChannels := detectorChannels v }

/-- PROBE_CHANGE when the detector channels differ from those of the last value (R94). -/
def noteChannels (v : HalfValue) (c : DetContext) : DetContext :=
  if detectorChannels v = c.lastChannels then c else { c with flags := { c.flags with probeChange := true } }

/-- A reading of the calibration status of the involved channels (R94). -/
def readOverdue (s : State) (c : DetContext) : DetContext :=
  let late := (List.range 4).any fun i => c.involved.get i && overdue s i
  { c with flags := { c.flags with calOverdue := c.flags.calOverdue || late } }

/-! ### Records that fall due (R84, R90 to R92) -/

/-- The overall extreme and the worst channel (R84). -/
def worstOf (x : DetCtx) (es : Four (Option Nat)) : Nat × Nat :=
  (List.range 4).foldl (fun (best : Option (Nat × Nat)) i =>
    match es.get i, best with
    | some e, none => some (e, i)
    | some e, some (b, j) => if past x b e then some (e, i) else some (b, j)
    | none, best => best) none |>.getD (0, 0)

/-- The class of an event (R90). -/
def classOf (x : DetCtx) (extreme intr : Nat) : EventClass :=
  match x with
  | .low => if extreme < intr then .intr else .dip
  | .high => .swell

/-- The record of a context's event, with class and duration fixed (R90, R91). -/
def recordOf (x : DetCtx) (c : DetContext) : PendingRec :=
  let (extreme, worst) := worstOf x c.extremes
  { cls := classOf x extreme c.frozen.intr
    startHc := c.startHc, endHc := c.endHc, duration := c.endHc - c.startHc
    startMs := c.startMs, endMs := c.endMs, frozen := c.frozen
    extreme := extreme, worst := worst, involved := c.involved
    extremes := .zip (fun i e => if i then e else none) c.involved c.extremes
    merges := c.merges, flags := c.flags, link := c.link, result := c.result }

/-- The number a link names. -/
def linkNumber : CaptureLink → Option Nat
  | .number n => some n
  | _ => none

/-- A link is settled when it is NONE, or names a capture whose end has been taken (R91). -/
def settledRec (r : PendingRec) : Bool :=
  match r.link with
  | .awaiting => false
  | .none => true
  | .number _ => r.result.isSome

/-- The wave field of a record: present when at least one WAVE record was stored (R92). -/
def waveField (r : PendingRec) : Option (Nat × Nat) :=
  match r.result with
  | some ⟨some first, stored, _⟩ => if stored = 0 then none else some (first, stored)
  | _ => none

/-- The body of an EVENT record (R92). -/
def eventBody (r : PendingRec) : EventBody where
  cls := r.cls
  startHc := r.startHc
  endHc := r.endHc
  duration := r.duration
  startMs := r.startMs
  endMs := r.endMs
  frozen := r.frozen
  extreme := r.extreme
  worst := r.worst
  involved := r.involved
  extremes := r.extremes
  merges := r.merges
  flags := r.flags
  capture := linkNumber r.link
  wave := waveField r

/-- An EVENT record is appended, or dropped (R92). -/
def appendEvent (r : PendingRec) (s : State) : State := (hardwareAppend (.event (eventBody r)) r.flags.test s).1

/-- The settled records at the front of a pending list are appended; the rest stay (R91). -/
def appendSettled : List PendingRec → State → List PendingRec × State
  | [], s => ([], s)
  | r :: rest, s => if settledRec r then appendSettled rest (appendEvent r s) else (r :: rest, s)

def flushPending (x : DetCtx) (s : State) : State :=
  let r := appendSettled (s.ctx x).pendingRecs s
  r.2.setCtx x { r.2.ctx x with pendingRecs := r.1 }

/-- A context in IDLE with its event figures cleared; its pending records stay (R91). DESIGN CHOICE: the frozen thresholds are kept as
the last event left them; the next opening freezes new ones (notes/assumptions/41). -/
def clearContext (c : DetContext) : DetContext := { DetContext.reset c.frozen with pendingRecs := c.pendingRecs }

/-- The record of context x falls due (R91). -/
def fallDue (x : DetCtx) (s : State) : State :=
  let c := readOverdue s (s.ctx x)
  flushPending x (s.setCtx x { clearContext c with pendingRecs := c.pendingRecs ++ [recordOf x c] })

/-! ### A value at a context (R86 to R89, R95) -/

/-- The opening of an event on a value (R86). -/
def openEvent (x : DetCtx) (v : HalfValue) (s : State) : State :=
  let c0 := { clearContext (s.ctx x) with
    frozen := thresholds x s.det, startHc := v.number, startMs := s.survey.clock }
  let c := { takeOpen x v c0 with link := .awaiting, state := .opened }
  let s1 := s.setCtx x (readOverdue s c)
  raiseBoth .eventOpen
    { s1 with flight := { s1.flight with
        triggers := s1.flight.triggers ++ [⟨x, s.det.losses⟩], openings := s1.flight.openings ++ [x] } }

/-- A context that is OPEN, or resumes, takes an OPEN value, with the end test (R87). -/
def openStep (x : DetCtx) (v : HalfValue) (c : DetContext) (s : State) : State :=
  let c1 := takeOpen x v c
  if allRecovered x c1.frozen v then
    let c2 := { c1 with
      state := .closing, endHc := v.number, endMs := s.survey.clock, holdLeft := s.det.holdOff }
    let s1 := s.setCtx x (readOverdue s c2)
    if s.det.holdOff = 0 then fallDue x s1 else s1
  else s.setCtx x (readOverdue s { c1 with state := .opened })

/-- A CLOSING context takes a value: it resumes, or its hold-off runs down (R88). -/
def closingStep (x : DetCtx) (v : HalfValue) (c : DetContext) (s : State) : State :=
  if anyPast x c.frozen.limit v then
    openStep x v { c with
      state := .opened, endHc := 0, endMs := 0, holdLeft := 0, merges := satInc 255 c.merges } s
  else
    let c1 := { c with
      holdLeft := c.holdLeft - 1, lastValue := v.number, lastChannels := detectorChannels v }
    let s1 := s.setCtx x (readOverdue s c1)
    if c.holdLeft ≤ 1 then fallDue x s1 else s1

/-- A value without detector channels cuts the event (R95). The end survey ms of an OPEN event is not stated: it is free
(notes/assumptions/13). -/
def cutEvent (x : DetCtx) (s : State) : State :=
  let c := s.ctx x
  let flags := { c.flags with cut := true, probeChange := true }
  if c.state = .opened then
    let (ms, s1) := takeFreeMs s
    fallDue x (s1.setCtx x { c with flags := flags, endHc := c.lastValue, endMs := ms })
  else fallDue x (s.setCtx x { c with flags := flags })

/-- One context takes a value in RUNNING (R85). -/
def valueAt (x : DetCtx) (v : HalfValue) (s : State) : State :=
  let c := s.ctx x
  match c.state with
  | .idle => if anyPast x (thresholds x s.det).limit v then openEvent x v s else s
  | .opened => if noDetectorChannel v then cutEvent x s else openStep x v (noteChannels v c) s
  | .closing => if noDetectorChannel v then cutEvent x s else closingStep x v (noteChannels v c) s

/-- The detector takes a value: both contexts act on it in RUNNING, LOW first (R85; the order of two records that fall due on one
value is notes/assumptions/32). -/
def takeValue (v : HalfValue) (s : State) : State :=
  if s.running then valueAt .high v (valueAt .low v s) else s

/-- The value that may be taken next: the first of those waiting, when every source loss notice before it has been taken (R96,
notes/assumptions/4). -/
def nextValue (s : State) : Option HalfValue :=
  match s.flight.values with
  | m :: _ => if m.era = s.det.losses then some m.value else none
  | [] => none

def dropValue (s : State) : State := { s with flight := { s.flight with values := s.flight.values.drop 1 } }

/-- HALF_CYCLE_VALUE (R85). -/
def execHalfCycleValue (s : State) : Host.Outcome State Fault Refusal :=
  .next <|
    match nextValue s with
    | some v => takeValue v (dropValue s)
    | none => s

/-- The value runs out the hold-off of a CLOSING context (R88). -/
def expiresOn (x : DetCtx) (v : HalfValue) (c : DetContext) : Bool :=
  c.state == .closing && !noDetectorChannel v && !anyPast x c.frozen.limit v && decide (c.holdLeft ≤ 1)

/-- HOLD_OFF_EXPIRY (R88): a value on which a hold-off runs out. -/
def execHoldOffExpiry (s : State) : Host.Outcome State Fault Refusal :=
  .next <|
    match nextValue s with
    | some v =>
      if s.running && (expiresOn .low v s.det.low || expiresOn .high v s.det.high) then takeValue v (dropValue s) else s
    | none => s

/-! ### Probe notices (R94) -/

/-- A context takes a probe notice. -/
def noteProbe (n : ProbeNotice) (c : DetContext) : DetContext :=
  if c.state != .idle && (n.before || n.after) then { c with flags := { c.flags with probeChange := true } } else c

/-- PROBE_NOTICE (R94). -/
def execProbeNotice (s : State) : Host.Outcome State Fault Refusal :=
  .next <|
    match s.flight.probeNotices with
    | n :: rest =>
      { s with
        det := { s.det with low := noteProbe n s.det.low, high := noteProbe n s.det.high }
        flight := { s.flight with probeNotices := rest } }
    | [] => s

/-! ### Survey stop, and the end of the detector's work (R97) -/

/-- Both contexts are IDLE and both pending lists are empty. -/
def detectorDone (d : DetectorUnit) : Bool :=
  d.low.state == .idle && d.high.state == .idle && d.low.pendingRecs.isEmpty && d.high.pendingRecs.isEmpty

/-- The detector reports itself finished in the first event in which it is done after its stop notice (R97). -/
def reportFinished (s : State) : State :=
  if s.det.stopTaken && detectorDone s.det then
    finishBlock leaveDetector { s with det := { s.det with stopTaken := false } }
  else s

/-- The stop notice at one context (R97). The end survey ms of an OPEN event whose end no source loss notice has set is not
stated: it is free (notes/assumptions/13). -/
def stopContext (x : DetCtx) (s : State) : State :=
  let c := s.ctx x
  match c.state with
  | .idle => s
  | .closing => fallDue x s
  | .opened =>
    let flags := { c.flags with cut := true }
    if c.ended then fallDue x (s.setCtx x { c with flags := flags })
    else
      let (ms, s1) := takeFreeMs s
      fallDue x (s1.setCtx x { c with flags := flags, endHc := c.lastValue, endMs := ms })

/-- STOP_NOTICE_DETECTOR (R97). -/
def execStopNoticeDetector (s : State) : Host.Outcome State Fault Refusal :=
  .next <|
    if s.flight.stopNotices.detector then
      let s1 := { s with
        det := { s.det with stopTaken := true }
        flight := { s.flight with stopNotices := leaveDetector s.flight.stopNotices } }
      reportFinished (stopContext .high (stopContext .low s1))
    else s

/-! ### Loss of the sample source (R96) -/

/-- A source loss notice at one context. DESIGN CHOICE: LOW's record, appended in this event, may begin a SEQ_LIMIT stop, and HIGH then
finds that stop pending (notes/assumptions/40). -/
def loseContext (x : DetCtx) (s : State) : State :=
  let c := s.ctx x
  let flags := { c.flags with linkLost := true }
  match c.state with
  | .idle => s
  | .opened =>
    let s1 := s.setCtx x { c with
      flags := flags, endHc := c.lastValue, endMs := s.survey.clock, ended := true }
    if s.stopping then s1 else fallDue x s1
  | .closing =>
    let s1 := s.setCtx x { c with flags := flags }
    if s.stopping then s1 else fallDue x s1

/-- A sample set, or a source loss notice, that was sent after the loss of number n. -/
def afterLoss (n : Nat) : SourceMsg → Bool
  | .set x => decide (n < x.era)
  | .loss => true

/-- The detector may take its next notice: one was sent, and nothing that earlier samples caused is still on its way
(R47, R96). -/
def detectorLossDue (s : State) : Bool :=
  decide (s.det.losses < s.link.losses) && s.flight.hcuIn.all (afterLoss s.det.losses)
    && s.flight.values.all fun m => decide (s.det.losses < m.era)

/-- DETECTOR_SOURCE_LOSS_NOTICE (R96). -/
def execDetectorSourceLossNotice (s : State) : Host.Outcome State Fault Refusal :=
  .next <|
    if detectorLossDue s then
      loseContext .high (loseContext .low { s with det := { s.det with losses := s.det.losses + 1 } })
    else s

/-! ### The capture's answers and end notices (R102, R107) -/

/-- The link and flags that an answer gives (R102). -/
def answerLink : AnswerKind → CaptureLink
  | .started n => .number n
  | .shared n => .number n
  | .none => .none

def answerFlags (a : AnswerKind) (f : EventFlags) : EventFlags :=
  match a with
  | .started _ => f
  | .shared _ => { f with waveShared := true }
  | .none => { f with noWave := true }

/-- The first record that awaits an answer takes it; none when no record does. -/
def answerRecords (a : AnswerKind) : List PendingRec → Option (List PendingRec)
  | [] => none
  | r :: rest =>
    if r.link = .awaiting then some ({ r with link := answerLink a, flags := answerFlags a r.flags } :: rest)
    else (answerRecords a rest).map fun l => r :: l

/-- An answer reaches its context, or its pending record if the event has fallen due since (R102). -/
def answerContext (a : AnswerKind) (c : DetContext) : DetContext :=
  match answerRecords a c.pendingRecs with
  | some l => { c with pendingRecs := l }
  | none =>
    if c.state != .idle && c.link == .awaiting then { c with link := answerLink a, flags := answerFlags a c.flags } else c

/-- The first element that satisfies p, and the list without it. -/
def takeFirst {α : Type} (p : α → Bool) : List α → Option (α × List α)
  | [] => none
  | x :: rest => if p x then some (x, rest) else (takeFirst p rest).map fun y => (y.1, x :: y.2)

/-- TRIGGER_ANSWER (R102). -/
def execTriggerAnswer (x : DetCtx) (s : State) : Host.Outcome State Fault Refusal :=
  .next <|
    match takeFirst (fun m : TriggerAnswer => m.ctx == x) s.flight.answers with
    | some (m, rest) =>
      let s1 := { s with flight := { s.flight with answers := rest } }
      reportFinished (flushPending x (s1.setCtx x (answerContext m.answer (s1.ctx x))))
    | none => s

/-- The number an answer names. -/
def answerNumber : AnswerKind → Option Nat
  | .started n => some n
  | .shared n => some n
  | .none => none

/-- A pending record takes the end notice of the capture it names (R107). -/
def endRecord (m : EndNotice) (r : PendingRec) : PendingRec :=
  if r.link = .number m.number then
    { r with result := some m.result, flags := { r.flags with wavePartial := r.flags.wavePartial || m.result.cut } }
  else r

/-- A context takes the end notice of the capture it names, itself and in its pending records (R107). -/
def endContext (m : EndNotice) (c : DetContext) : DetContext :=
  let c1 := { c with pendingRecs := c.pendingRecs.map (endRecord m) }
  if c.state != .idle && c.link == .number m.number then
    { c1 with result := some m.result, flags := { c.flags with wavePartial := c.flags.wavePartial || m.result.cut } }
  else c1

/-- No answer that names capture n is still on its way to context x: an answer reaches the detector before the end notice of the
same capture (R107). -/
def answersTaken (x : DetCtx) (n : Nat) (s : State) : Bool :=
  s.flight.answers.all fun m => !(m.ctx == x && answerNumber m.answer == some n)

/-- END_NOTICE (R107). -/
def execEndNotice (x : DetCtx) (s : State) : Host.Outcome State Fault Refusal :=
  .next <|
    match takeFirst (fun m : EndNotice => m.ctx == x) s.flight.ends with
    | some (m, rest) =>
      if answersTaken x m.number s then
        let s1 := { s with flight := { s.flight with ends := rest } }
        reportFinished (flushPending x (s1.setCtx x (endContext m (s1.ctx x))))
      else s
    | none => s

end Sys2Proof.Machine
end

