-- ==== Sys2Proof/Machine/Capture.lean ====
section
/-! DEFINITION. The Waveform Capture: the pre-trigger ring, triggers, WAVE records, and the ends of a capture (R98 to R107). -/

namespace Sys2Proof.Machine

open Sys2Proof

def State.setCap (s : State) (c : CaptureUnit) : State := { s with cap := c }

/-! ### The ring (R98) -/

/-- A sample of full scale on channels 0 to 3. -/
def fullScale (x : SampleSet) : Bool :=
  [x.samples.c0, x.samples.c1, x.samples.c2, x.samples.c3].any fun v => v.natAbs == 32767

/-- A sample set joins the cycle in progress; every fourth one is kept. -/
def addToCycle (x : SampleSet) (c : CurCycle) : CurCycle where
  count := c.count + 1
  samples :=
    if c.count % 4 = 0 then
      ⟨c.samples.c0 ++ [x.samples.c0], c.samples.c1 ++ [x.samples.c1], c.samples.c2 ++ [x.samples.c2],
       c.samples.c3 ++ [x.samples.c3]⟩
    else c.samples
  clipped := c.clipped || fullScale x
  held := c.held || x.held
  test := c.test || x.test

/-- The sample set completes the cycle in progress. -/
def completesCycle (c : CurCycle) : Bool := decide (255 ≤ c.count)

/-- A cycle joins the ring; the oldest of eight leaves. -/
def pushCycle (r : RingCycle) (l : List RingCycle) : List RingCycle :=
  (if 8 ≤ l.length then l.drop (l.length - 7) else l) ++ [r]

/-! ### WAVE records (R103) -/

def waveBody (cap : CaptureUnit) (index : Int) (r : RingCycle) : WaveBody where
  capture := cap.number
  index := index
  clipped := r.clipped
  held := r.held
  p := cap.p
  q := cap.q
  doneMs := r.doneMs
  samples := r.samples

/-- A cycle is appended as a WAVE record, and the capture takes the answer (R101, R103). -/
def appendWave (index : Int) (r : RingCycle) (s : State) : State :=
  waveAnswered (hardwareAppend (.wave (waveBody s.cap index r)) r.test s)

/-- The capture may append: it is CAPTURING, no refusal waits, and no stop is pending (R104, R106). -/
def mayAppend (s : State) : Bool := s.cap.capturing && !s.cap.refused && s.running

/-! ### The end of a capture (R101, R104 to R107) -/

def endNotice (cap : CaptureUnit) (cut : Bool) (x : DetCtx) : EndNotice := ⟨x, cap.number, ⟨cap.firstWave, cap.stored, cut⟩⟩

/-- The end notices of the linked contexts. -/
def endNotices (cap : CaptureUnit) (cut : Bool) : List EndNotice :=
  (if cap.linkedLow then [endNotice cap cut .low] else []) ++ if cap.linkedHigh then [endNotice cap cut .high] else []

/-- The capture ends: IDLE, an end notice to each linked context. -/
def endCapture (cut : Bool) (s : State) : State :=
  { s with
    cap := { s.cap with capturing := false, refused := false }
    flight := { s.flight with ends := s.flight.ends ++ endNotices s.cap cut } }

/-- A capture in progress is cut (R105, R106). -/
def cutCapture (s : State) : State := if s.cap.capturing then endCapture true s else s

/-! ### Triggers (R100, R102) -/

/-- The pre-trigger cycles, each with its index: the last p complete cycles, oldest first (R100). -/
def preCycles (p : Nat) (ring : List RingCycle) : List (Int × RingCycle) :=
  let l := ring.drop (ring.length - p)
  (List.range l.length).zipWith (fun i r => ((i : Int) - (l.length : Int), r)) l

/-- The pre-trigger cycles are appended in order, as long as the capture may append. -/
def appendPre : List (Int × RingCycle) → State → State
  | [], s => s
  | (i, r) :: rest, s => if mayAppend s then appendPre rest (appendWave i r s) else s

/-- A trigger starts a capture (R100). -/
def startCapture (x : DetCtx) (s : State) : State :=
  let c := s.cap
  let n := if c.number = 65535 then 1 else c.number + 1
  let s1 := { s with
    cap := { c with
      capturing := true, number := n, linkedLow := x == .low, linkedHigh := x == .high, p := c.pre, q := c.post
      cycle0 := some c.done, postDone := 0, firstWave := none, stored := 0, refused := false }
    flight := { s.flight with answers := s.flight.answers ++ [⟨x, .started n⟩] } }
  appendPre (preCycles c.pre c.ring) s1

/-- The capture is linked to a context. -/
def linkedTo (c : CaptureUnit) : DetCtx → Bool
  | .low => c.linkedLow
  | .high => c.linkedHigh

/-- The capture takes a trigger of context x (R100, R102). DESIGN CHOICE: a capture in progress is shared while a stop is pending too,
as the first row of R102 says without a condition on the stop, though R1 says that no trigger is taken then (notes/assumptions/43). -/
def takeTrigger (x : DetCtx) (s : State) : State :=
  let answer := fun (a : AnswerKind) (s : State) =>
    { s with flight := { s.flight with answers := s.flight.answers ++ [⟨x, a⟩] } }
  if s.cap.capturing then
    if linkedTo s.cap x then answer .none s
    else
      answer (.shared s.cap.number)
        (s.setCap (match x with
          | .low => { s.cap with linkedLow := true }
          | .high => { s.cap with linkedHigh := true }))
  else if s.running && !s.cap.stopTaken then startCapture x s
  else answer .none s

/-- TRIGGER (R100). -/
def execTrigger (x : DetCtx) (s : State) : Host.Outcome State Fault Refusal :=
  .next <|
    match takeFirst (fun t : Trigger => t.ctx == x) s.flight.triggers with
    | some (_, rest) => takeTrigger x { s with flight := { s.flight with triggers := rest } }
    | none => s

/-! ### Sample sets (R98, R101) -/

/-- A completed ring cycle of a capture in progress is appended; the capture is complete when cycle Q - 1 has been answered
(R101). -/
def captureCycle (pos : Nat) (r : RingCycle) (s : State) : State :=
  match s.cap.cycle0 with
  | some c0 =>
    if mayAppend s && decide (c0 ≤ pos) && decide (pos - c0 < s.cap.q) then
      let s1 := appendWave ((pos - c0 : Nat) : Int) r s
      if s1.cap.refused then s1
      else
        let s2 := s1.setCap { s1.cap with postDone := s1.cap.postDone + 1 }
        if pos - c0 + 1 = s.cap.q then endCapture false s2 else s2
    else s
  | none => s

/-- The capture takes a sample set (R98). -/
def ringSet (x : SampleSet) (s : State) : State :=
  let c := s.cap
  let cur := addToCycle x c.cur
  if completesCycle c.cur then
    let r : RingCycle := ⟨cur.samples, cur.clipped, cur.held, cur.test, s.survey.clock⟩
    captureCycle c.done r (s.setCap { c with ring := pushCycle r c.ring, cur := .empty, done := c.done + 1 })
  else s.setCap { c with cur := cur }

/-- RING_SAMPLE_SET (R98). -/
def execRingSampleSet (s : State) : Host.Outcome State Fault Refusal :=
  .next <|
    match s.flight.capIn with
    | .set x :: rest => ringSet x { s with flight := { s.flight with capIn := rest } }
    | _ => s

/-- RING_CYCLE_COMPLETE (R101): the sample set that completes a ring cycle. -/
def execRingCycleComplete (s : State) : Host.Outcome State Fault Refusal :=
  .next <|
    match s.flight.capIn with
    | .set x :: rest =>
      if completesCycle s.cap.cur then ringSet x { s with flight := { s.flight with capIn := rest } } else s
    | _ => s

/-! ### Refusal, loss of source, stop (R104 to R106) -/

/-- APPEND_REFUSAL_TAKEN (R104). -/
def execAppendRefusalTaken (s : State) : Host.Outcome State Fault Refusal :=
  .next (if s.cap.capturing && s.cap.refused then endCapture true s else s)

/-- The capture may take the notice at the front of its input: no trigger of earlier samples is still on its way (R47, R100). -/
def captureLossDue (s : State) : Bool :=
  s.flight.hcuIn.all (afterLoss s.cap.losses) && (s.flight.values.all fun m => decide (s.cap.losses < m.era))
    && s.flight.triggers.all fun t => decide (s.cap.losses < t.era)

/-- CAPTURE_SOURCE_LOSS_NOTICE (R105). -/
def execCaptureSourceLossNotice (s : State) : Host.Outcome State Fault Refusal :=
  .next <|
    match s.flight.capIn with
    | .loss :: rest =>
      if captureLossDue s then
        let s1 := { s with flight := { s.flight with capIn := rest } }
        cutCapture (s1.setCap { s1.cap with ring := [], cur := .empty, done := 0, losses := s1.cap.losses + 1 })
      else s
    | _ => s

/-- STOP_NOTICE_CAPTURE (R106). -/
def execStopNoticeCapture (s : State) : Host.Outcome State Fault Refusal :=
  .next <|
    if s.flight.stopNotices.capture then
      let s1 := { s with
        cap := { s.cap with stopTaken := true }
        flight := { s.flight with stopNotices := leaveCapture s.flight.stopNotices } }
      finishBlock leaveCapture (cutCapture s1)
    else s

end Sys2Proof.Machine
end

