-- ==== Sys2Proof/Machine/Link.lean ====
section
/-! DEFINITION. The Sample Link Receiver: bit arrivals, frames, locking and loss of lock, BREAK, and what it hands on (R42 to R57). -/

namespace Sys2Proof.Machine

open Sys2Proof

def State.setLink (s : State) (l : LinkUnit) : State := { s with link := l }

/-! ### Output (R47) -/

/-- A sample set goes to the Half-Cycle Unit and to the Waveform Capture. -/
def deliverSet (samples : Eight Int) (held test : Bool) (s : State) : State :=
  let m := SourceMsg.set ⟨samples, held, test, s.link.losses⟩
  { s with flight := { s.flight with hcuIn := s.flight.hcuIn ++ [m], capIn := s.flight.capIn ++ [m] } }

/-- A source loss notice goes to the Half-Cycle Unit, the Event Detector and the Waveform Capture. -/
def sendLoss (s : State) : State :=
  { s with
    link := { s.link with losses := s.link.losses + 1 }
    flight := { s.flight with hcuIn := s.flight.hcuIn ++ [.loss], capIn := s.flight.capIn ++ [.loss] } }

/-! ### Frames (R43, R51) -/

/-- A channel word as a signed sample. -/
def sampleOf (w : Word) : Int := w.toInt

/-- The eight channel words of a data frame. -/
def frameChannels (frame : List Word) : List Word := (frame.drop 2).take 8

def frameSamples (frame : List Word) : Eight Int := .ofFn fun c => sampleOf (frame.getD (c + 2) 0)

/-- Sum, modulo 65536, of words read as unsigned (R43). -/
def checkWord (ws : List Word) : Word := ws.foldl (· + ·) 0

/-- The four conditions of a good data frame (R43). -/
def goodData (l : LinkUnit) (frame : List Word) : Bool :=
  frame.getD 0 0 == l.syncA && frame.getD 1 0 == l.syncB && (frameChannels frame).all (fun w => w != 0x8000)
    && frame.getD 10 0 == checkWord (frameChannels frame)

/-- A frame of two words that ends with SYNC_F (R51). -/
def isFiller (l : LinkUnit) (frame : List Word) : Bool := frame.length == 2 && frame.getD 1 0 == l.syncF

/-! ### What an arrival is -/

inductive ArrivalKind where
  | plain
  | syncAMatch
  | confirmWord
  | goodDataFrame
  | fillerFrame
  | badFrame
  | lossOfLock
  | breakEntry
  | breakEnd
deriving DecidableEq, Repr

/-- The bit window and the low run after an arrival; in LOOPBACK the low run is held at 0 (R42). -/
def shiftBit (b : Bool) (l : LinkUnit) : LinkUnit :=
  { l with
    window := (l.window <<< 1) ||| (if b then 1 else 0)
    lowRun := if l.state = .loopback ∨ b then 0 else satInc Config.breakRun l.lowRun }

/-- The arrival that shiftBit has taken completes a word (R42). -/
def wordDone (l : LinkUnit) : Bool := l.wordPos == some 15

/-- A completed frame, judged (R43, R51, R53, R54). -/
def judgeWords (l : LinkUnit) (frame : List Word) : ArrivalKind :=
  let bad := if 2 ≤ l.badRun then ArrivalKind.lossOfLock else .badFrame
  if isFiller l frame then if frame.getD 0 0 = l.syncA then .fillerFrame else bad
  else if frame.length < 11 then .plain
  else if goodData l frame then .goodDataFrame
  else bad

/-- What an arrival is, from the receiver with the bit shifted in (R48, R49, R51, R55, R56). -/
def arrivalKind (b : Bool) (l : LinkUnit) : ArrivalKind :=
  match l.state with
  | .loopback => .plain
  | .hunt =>
    if l.lowRun = Config.breakRun then .breakEntry else if l.window = l.syncA then .syncAMatch else .plain
  | .confirm => if wordDone l then .confirmWord else .plain
  | .locked =>
    if l.lowRun = Config.breakRun then .breakEntry
    else if wordDone l then judgeWords l (l.frame ++ [l.window])
    else .plain
  | .brk => if b then .breakEnd else .plain

/-! ### What an arrival does -/

/-- HUNT, with no word or frame in progress. -/
def toHunt (l : LinkUnit) : LinkUnit := { l with state := .hunt, wordPos := none, frame := [] }

/-- The comparison of R48: a match fixes the alignment. -/
def huntCompare (l : LinkUnit) : LinkUnit :=
  if l.window = l.syncA then { l with state := .confirm, wordPos := some 0, frame := [] } else l

/-- The next frame begins at the next arrival. -/
def nextFrame (l : LinkUnit) : LinkUnit := { l with wordPos := some 0, frame := [] }

/-- An arrival that completes no word, or a word that completes no frame (R42, R51). -/
def plainArrival (l : LinkUnit) : LinkUnit :=
  match l.wordPos with
  | none => l
  | some n =>
    if n < 15 then { l with wordPos := some (n + 1) }
    else { l with wordPos := some 0, frame := l.frame ++ [l.window] }

/-- Entering LOCKED (R49, R50). -/
def enterLocked (filler : Bool) (frame : List Word) (s : State) : State :=
  let l := s.link
  let s1 := s.setLink { l with
    state := .locked, wordPos := some 0, frame := frame, badRun := 0, instants := 0 }
  markInRunning (.linkUp filler l.badTotal) (raiseBoth .link s1)

/-- The word completed in CONFIRM (R49). -/
def decideConfirm (s : State) : State :=
  let l := s.link
  if l.window = l.syncB then enterLocked false [l.syncA, l.syncB] s
  else if l.window = l.syncF then enterLocked true [] s
  else s.setLink (huntCompare (toHunt l))

/-- A good data frame's samples become the last good set, and one more instant has come (R52, R61). -/
def takeGood (samples : Eight Int) (l : LinkUnit) : LinkUnit :=
  { l with lastGood := samples, badRun := 0, instants := satInc Config.max32 l.instants }

/-- A good data frame (R52). -/
def takeGoodFrame (s : State) : State :=
  let samples := frameSamples (s.link.frame ++ [s.link.window])
  deliverSet samples false false (s.setLink (nextFrame (takeGood samples s.link)))

/-- The first or second bad frame in a row (R53): a bad data frame delivers the held samples. -/
def takeBadFrame (s : State) : State :=
  let l := s.link
  let l1 := { l with badTotal := satInc Config.max32 l.badTotal, badRun := l.badRun + 1 }
  if isFiller l (l.frame ++ [l.window]) then s.setLink (nextFrame l1)
  else
    deliverSet l.lastGood true false
      (s.setLink (nextFrame { l1 with instants := satInc Config.max32 l.instants }))

/-- Leaving LOCKED for HUNT: source loss notice, LINK, MARK LINK_DOWN (R47, R57). -/
def loseLock (reason : DownReason) (s : State) : State :=
  let l := s.link
  markInRunning (.linkDown reason l.badTotal l.instants)
    (raiseBoth .link (sendLoss (s.setLink (toHunt l))))

/-- The third bad frame in a row (R54). -/
def takeLossOfLock (s : State) : State :=
  let l := s.link
  let s1 := loseLock .badFrames (s.setLink { l with badTotal := satInc Config.max32 l.badTotal, badRun := 0 })
  s1.setLink (huntCompare s1.link)

/-- Entering BREAK from LOCKED or HUNT (R55, R57). -/
def enterBreak (s : State) : State :=
  let l := s.link
  let l1 := { l with state := .brk, wordPos := none, frame := [], badRun := 0 }
  if l.state = .locked then
    let s1 := raiseBoth .link (sendLoss (s.setLink l1))
    if s1.running then appendTwoMarks (.linkDown .brk l.badTotal l.instants) (.frontendOff true) s1 else s1
  else markInRunning (.frontendOff false) (raiseBoth .link (s.setLink l1))

/-- The first one bit in BREAK (R56). -/
def leaveBreak (s : State) : State := raiseBoth .link (s.setLink (huntCompare (toHunt s.link)))

/-- One bit arrives (R42): the window and the low run, then what the arrival is. -/
def takeBit (b : Bool) (s : State) : State :=
  let l := shiftBit b s.link
  let s1 := s.setLink l
  match arrivalKind b l with
  | .plain => s.setLink (plainArrival l)
  | .syncAMatch => s.setLink (huntCompare l)
  | .confirmWord => decideConfirm s1
  | .goodDataFrame => takeGoodFrame s1
  | .fillerFrame => s.setLink (nextFrame l)
  | .badFrame => takeBadFrame s1
  | .lossOfLock => takeLossOfLock s1
  | .breakEntry => enterBreak s1
  | .breakEnd => leaveBreak s1

/-- The arrival of bit b is of kind k in this state. -/
def arrivalIs (k : ArrivalKind) (b : Bool) (s : State) : Bool := arrivalKind b (shiftBit b s.link) == k

/-- A row that names one kind of arrival acts when the arrival is of that kind (notes/assumptions/3). -/
def takeBitAs (k : ArrivalKind) (b : Bool) (s : State) : State := if arrivalIs k b s then takeBit b s else s

/-! ### A change of a sync word (R45) -/

/-- The effect of a changed sync word on the receiver. -/
def syncChanged (s : State) : State :=
  match s.link.state with
  | .confirm => s.setLink (toHunt s.link)
  | .locked => loseLock .syncChange s
  | _ => s

/-! ### Commands -/

/-- BIT_ARRIVAL (R42). -/
def execBitArrival (b : Bool) (s : State) : Host.Outcome State Fault Refusal := .next (takeBit b s)

/-- SYNC_A_MATCH (R48). -/
def execSyncAMatch (b : Bool) (s : State) : Host.Outcome State Fault Refusal := .next (takeBitAs .syncAMatch b s)

/-- CONFIRM_WORD (R49). -/
def execConfirmWord (b : Bool) (s : State) : Host.Outcome State Fault Refusal := .next (takeBitAs .confirmWord b s)

/-- GOOD_DATA_FRAME (R52). -/
def execGoodDataFrame (b : Bool) (s : State) : Host.Outcome State Fault Refusal := .next (takeBitAs .goodDataFrame b s)

/-- FILLER_FRAME (R52). -/
def execFillerFrame (b : Bool) (s : State) : Host.Outcome State Fault Refusal := .next (takeBitAs .fillerFrame b s)

/-- BAD_FRAME (R53). -/
def execBadFrame (b : Bool) (s : State) : Host.Outcome State Fault Refusal := .next (takeBitAs .badFrame b s)

/-- LOSS_OF_LOCK (R54). -/
def execLossOfLock (b : Bool) (s : State) : Host.Outcome State Fault Refusal := .next (takeBitAs .lossOfLock b s)

/-- BREAK_ENTRY (R55): the zero bit that brings the low run to 352. -/
def execBreakEntry (s : State) : Host.Outcome State Fault Refusal := .next (takeBitAs .breakEntry false s)

/-- BREAK_END (R56): the first one bit in BREAK. -/
def execBreakEnd (s : State) : Host.Outcome State Fault Refusal := .next (takeBitAs .breakEnd true s)

end Sys2Proof.Machine
end

