-- ==== Sys2Proof/Machine/Generator.lean ====
section
/-! DEFINITION. The Test Frame Generator: self-test start and stop, generated frames and phases (R58 to R63). -/

namespace Sys2Proof.Machine

open Sys2Proof

def State.setGen (s : State) (g : Generator) : State := { s with gen := g }

/-- S[0] to S[64] of R61: 32767 × sin(2πj/256), rounded to the nearest integer. -/
def quarterSine : List Nat :=
  [0, 804, 1608, 2410, 3212, 4011, 4808, 5602, 6393, 7179, 7962, 8739, 9512]
    ++ [10278, 11039, 11793, 12539, 13279, 14010, 14732, 15446, 16151, 16846, 17530, 18204, 18868]
    ++ [19519, 20159, 20787, 21403, 22005, 22594, 23170, 23731, 24279, 24811, 25329, 25832, 26319]
    ++ [26790, 27245, 27683, 28105, 28510, 28898, 29268, 29621, 29956, 30273, 30571, 30852, 31113]
    ++ [31356, 31580, 31785, 31971, 32137, 32285, 32412, 32521, 32609, 32678, 32728, 32757, 32767]

/-- S[j] for j below 256, from the quarter by the sine's symmetries (R61). -/
def sine (j : Nat) : Int :=
  if j ≤ 64 then quarterSine.getD j 0
  else if j ≤ 128 then quarterSine.getD (128 - j) 0
  else if j ≤ 192 then -(quarterSine.getD (j - 128) 0 : Int)
  else -(quarterSine.getD (256 - j) 0 : Int)

/-- The level of the current phase. -/
def currentLevel (g : Generator) : Nat := if g.phaseB then g.levelB else g.levelA

/-- The sample of one of channels 0 to 2 at its offset; the quotient is rounded toward minus infinity (R61). -/
def testSample (g : Generator) (offset : Nat) : Int :=
  (currentLevel g : Int) * sine ((g.k + offset) % 256) / 32768

/-- The generated data frame (R61). -/
def testSamples (g : Generator) : Eight Int := ⟨testSample g 0, testSample g 85, testSample g 171, 0, 0, 0, 0, 0⟩

/-- One more frame has been generated, within its half cycle (R61). -/
def countFrame (g : Generator) : Generator := { g with k := (g.k + 1) % 65280, frames := g.frames + 1 }

/-- The frame completes a half cycle of the phase (R61). -/
def halfDone (g : Generator) : Bool := g.frames % Config.halfCycle == 0

/-- The frame that countFrame has taken ends the phase (R61). -/
def phaseEnds (g : Generator) : Bool := halfDone g && decide (g.halfLeft ≤ 1)

/-- The end of a phase, and whether the program is complete (R61). -/
def changePhase (g : Generator) : Generator × Bool :=
  if g.phaseB then
    let g1 := { g with halfLeft := 0, repeatsDone := g.repeatsDone + 1 }
    if g1.repeatsDone < g1.repeats then ({ g1 with phaseB := false, halfLeft := g1.ka }, false) else (g1, true)
  else ({ g with phaseB := true, halfLeft := g.kb }, false)

/-- The receiver returns from LOOPBACK to HUNT (R62, R47). -/
def leaveLoopback (s : State) : State :=
  if s.link.state = .loopback then raiseBoth .link (sendLoss (s.setLink { toHunt s.link with lowRun := 0 })) else s

/-- The generator stops (R62). -/
def stopGenerator (reason : OffReason) (s : State) : State :=
  let g := s.gen
  leaveLoopback (appendMark (.selftestOff reason g.repeatsDone g.frames) (s.setGen { g with running := false }))

/-- The receiver takes the generated frame as a good data frame of the generator's (R61). -/
def deliverTest (s : State) : State :=
  let samples := testSamples s.gen
  deliverSet samples false true (s.setLink (takeGood samples s.link))

/-- One sample period of a running generator (R61). -/
def takeTestFrame (s : State) : State :=
  let s1 := deliverTest s
  let g := countFrame s1.gen
  if phaseEnds g then
    let r := changePhase g
    if r.2 then stopGenerator .complete (s1.setGen r.1) else s1.setGen r.1
  else if halfDone g then s1.setGen { g with halfLeft := g.halfLeft - 1 }
  else s1.setGen g

/-- TEST_FRAME (R61). -/
def execTestFrame (s : State) : Host.Outcome State Fault Refusal := .next (if s.gen.running then takeTestFrame s else s)

/-- PHASE_CHANGE (R61): the generated frame that ends a phase. -/
def execPhaseChange (s : State) : Host.Outcome State Fault Refusal :=
  .next (if s.gen.running && phaseEnds (countFrame s.gen) then takeTestFrame s else s)

/-! ### Requests (R59, R60, R63) -/

/-- The program after clamping (R59). -/
def clampTest (v : TestValues) : TestValues :=
  ⟨min 32767 v.levelA, min 32767 v.levelB, clampTo 1 255 v.ka, clampTo 1 255 v.kb, clampTo 1 255 v.repeats⟩

/-- The generator at the start of a program (R59). -/
def startGenerator (v : TestValues) : Generator :=
  { running := true, levelA := v.levelA, levelB := v.levelB, ka := v.ka, kb := v.kb, repeats := v.repeats
    phaseB := false, halfLeft := v.ka, repeatsDone := 0, k := 0, frames := 0 }

/-- The receiver enters LOOPBACK (R60). -/
def enterLoopback (s : State) : State :=
  let l := { toHunt s.link with state := LinkState.loopback, lowRun := 0 }
  if s.link.state = .locked then sendLoss (s.setLink l) else s.setLink { l with badRun := 0 }

/-- An accepted self-test start (R59, R60). -/
def startTest (v : TestValues) (s : State) : State :=
  let replaced := s.link.state
  appendMark (.selftestOn v.levelA v.levelB v.ka v.kb v.repeats replaced)
    (raiseBoth .link (enterLoopback (s.setGen (startGenerator v))))

/-- SELFTEST_START (R59). -/
def execSelftestStart (p : Port) (s : State) : Host.Outcome State Fault Refusal :=
  .next <| takeRequest p .selftestStart (fun body s =>
    match readSelftest body with
    | none => respond p .selftestStart .badRequest [] s
    | some v =>
      if !s.running then respond p .selftestStart .wrongState [] s
      else if s.gen.running then respond p .selftestStart .wrongState [] s
      else respond p .selftestStart (okOr (v != clampTest v)) [] (startTest (clampTest v) s)) s

/-- SELFTEST_STOP (R63). DESIGN CHOICE: a body that is not empty is BAD_REQUEST with the generator OFF too (notes/assumptions/36). -/
def execSelftestStop (p : Port) (s : State) : Host.Outcome State Fault Refusal :=
  .next <| takeRequest p .selftestStop (fun body s =>
    if body ≠ [] then respond p .selftestStop .badRequest [] s
    else if s.gen.running then respond p .selftestStop .ok [] (stopGenerator .request s)
    else respond p .selftestStop .wrongState [] s) s

/-- STOP_NOTICE_GENERATOR (R5, R62). -/
def execStopNoticeGenerator (s : State) : Host.Outcome State Fault Refusal :=
  .next <|
    if s.flight.stopNotices.generator then
      let s1 := { s with flight := { s.flight with stopNotices := leaveGenerator s.flight.stopNotices } }
      finishBlock leaveGenerator (if s1.gen.running then stopGenerator .surveyStop s1 else s1)
    else s

end Sys2Proof.Machine
end

