-- ==== Sys2Proof/Machine/Notes.lean ====
section
/-! DEFINITION. The Note Assembler: beginning a note, its parts, and its append with the checks against the journal (R30, R31, R141
to R152, R210). -/

namespace Sys2Proof.Machine

open Sys2Proof

def State.note (s : State) : Port → NoteCtx
  | .a => s.noteA
  | .b => s.noteB

def State.setNote (s : State) (p : Port) (c : NoteCtx) : State :=
  match p with
  | .a => { s with noteA := c }
  | .b => { s with noteB := c }

/-- Text bytes a note keeps at most (R146). -/
def maxText : Nat := 480

/-! ### Beginning (R142, R143) -/

/-- The context of an accepted NOTE_BEGIN (R143). -/
def beginNote (v : BeginValues) (category : Category) (surveyNumber : Nat) : NoteData where
  author := min 15 v.author
  category := category
  observed := v.observed
  supersedes := v.supersedes
  cites := v.cites
  parts := clampTo 1 8 v.parts
  lastPart := 0
  text := []
  received := 0
  truncated := false
  surveyNumber := surveyNumber

/-- NOTE_BEGIN (R142, R143). -/
def execNoteBegin (p : Port) (s : State) : Host.Outcome State Fault Refusal :=
  .next <| takeRequest p .noteBegin (fun body s =>
    let s0 := s.setNote p .empty
    match readBegin body with
    | none => respond p .noteBegin .badRequest [] s0
    | some v =>
      if !s.inSurvey then respond p .noteBegin .noSurvey [] s0
      else
        match categoryOf v.category with
        | none => respond p .noteBegin .badValue [] s0
        | some category =>
          if 4 < v.citeCount then respond p .noteBegin .badValue [] s0
          else
            let d := beginNote v category s.survey.number
            respond p .noteBegin (okOr (d.author != v.author || d.parts != v.parts)) [word d.author, word d.parts]
              (s0.setNote p (.assembling d))) s

/-! ### Adding text (R146) -/

/-- A taken part's text is added (R146). -/
def addText (index : Nat) (text : List Byte) (d : NoteData) : NoteData :=
  { d with
    lastPart := index
    text := (d.text ++ text).take maxText
    received := d.received + text.length
    truncated := d.truncated || decide (maxText < d.text.length + text.length) }

/-! ### The append (R147 to R150, R210) -/

/-- The reference of a cited record (R209). -/
def referenceOf : Body → Nat
  | .event e => e.capture.getD 0
  | .wave w => w.capture
  | .interval i => i.number
  | _ => 0

/-- A citation entry, read from the cited record before the append's reclaim (R210). -/
def citeEntry (s : State) (n : Nat) : CiteEntry :=
  match findRecord n s with
  | some r => ⟨n, r.surveyMs, r.kind, r.origin, r.test, r.superseded, referenceOf r.body⟩
  | none => ⟨n, 0, .mark, .survey, false, false, 0⟩

/-- The observed time as stored, and whether it was clamped (R148). -/
def settleObserved (observed : Option Nat) (now : Nat) : Nat × Bool :=
  match observed with
  | none => (now, false)
  | some t => if now < t then (now, true) else (t, false)

/-- The body of the NOTE record (R148, R210). -/
def noteBody (d : NoteData) (s : State) : NoteBody where
  author := d.author
  category := d.category
  observed := (settleObserved d.observed s.survey.clock).1
  observedGiven := d.observed.isSome
  observedClamped := (settleObserved d.observed s.survey.clock).2
  truncated := d.truncated
  supersedes := d.supersedes.map fun n => (n, ((findRecord n s).map Record.surveyMs).getD 0)
  cites := d.cites.map (citeEntry s)
  received := d.received
  parts := d.parts
  text := d.text

/-- The supersedes target is a NOTE. -/
def targetIsNote (s : State) (n : Nat) : Bool :=
  match findRecord n s with
  | some r => r.kind == .note
  | none => false

/-- The tests of R147 before the plan: the refusal and the body that goes with it. -/
def noteRefusal (d : NoteData) (s : State) : Option (ResultCode × List Word) :=
  let gone := fun n => (ResultCode.citeGone, words32 s.journal.tailSeq ++ words32 s.journal.headSeq ++ words32 n)
  if !s.inSurvey then some (.noSurvey, [])
  else if s.survey.number ≠ d.surveyNumber then some (.noSurvey, [])
  else if !belowReserve s then some (.wrongState, [])
  else
    match d.cites.find? fun n => !inJournal s n with
    | some n => some (gone n)
    | none =>
      match d.supersedes with
      | none => none
      | some n =>
        if !inJournal s n then some (gone n) else if !targetIsNote s n then some (.badValue, []) else none

/-- The figures a completed note's response carries (R149). -/
def doneWords (seq observed : Nat) (d : NoteData) : List Word :=
  words32 seq ++ words32 observed ++ [word d.text.length, word (bit d.truncated)]

/-- The completed note is appended, as one event; none when the plan finds no room (R147 to R149). -/
def appendNote (p : Port) (d : NoteData) (s : State) : Option State :=
  let body := noteBody d s
  (portAppend p (.note body) s).map fun s1 =>
    let s2 := match d.supersedes with
      | some n => supersede n s1
      | none => s1
    checkLimit (s2.setNote p (.done d s.journal.headSeq body.observedClamped body.observed))

/-- The part that completes a note (R147, R149, R150). -/
def completeNote (p : Port) (d : NoteData) (s : State) : State :=
  let empty := s.setNote p .empty
  match noteRefusal d s with
  | some (code, body) => respond p .notePart code body empty
  | none =>
    match appendNote p d s with
    | none => respond p .notePart .journalHeld [] empty
    | some s1 =>
      let r := settleObserved d.observed s.survey.clock
      respond p .notePart (okOr r.2) (doneWords s.journal.headSeq r.1 d) s1

/-! ### Parts (R144, R145, R151) -/

/-- The response of a part in ASSEMBLING: the next index expected and the bytes kept (R145). -/
def partWords (d : NoteData) : List Word := [word (d.lastPart + 1), word d.text.length]

/-- A well-formed part in ASSEMBLING (R145). -/
def assemblePart (p : Port) (index : Nat) (text : List Byte) (d : NoteData) (s : State) : State :=
  if index = d.lastPart + 1 ∧ index ≤ d.parts then
    let d1 := addText index text d
    if index = d.parts then completeNote p d1 s
    else respond p .notePart .ok (partWords d1) (s.setNote p (.assembling d1))
  else if index = d.lastPart ∧ index ≠ 0 then respond p .notePart .duplicate (partWords d) s
  else respond p .notePart .badSequence [] (s.setNote p .empty)

/-- NOTE_PART (R144, R145, R151). -/
def execNotePart (p : Port) (s : State) : Host.Outcome State Fault Refusal :=
  .next <| takeRequest p .notePart (fun body s =>
    match readPart body with
    | none => respond p .notePart .badRequest [] s
    | some (index, text) =>
      match s.note p with
      | .empty => respond p .notePart .badSequence [] s
      | .assembling d => assemblePart p index text d s
      | .done d seq _ observed =>
        if index = d.parts then respond p .notePart .duplicate (doneWords seq observed d) s
        else respond p .notePart .badSequence [] (s.setNote p .empty)) s

end Sys2Proof.Machine
end

