-- ==== Sys2Proof/Machine/Ports.lean ====
section
/-! DEFINITION. The Master Port Units: select periods, request frames, port reset, fetches and their completion, PORT_CONFIG and
STATUS (R194 to R208, R211), and the Journal Manager's two port requests, READ_NEXT and SEEK (R34 to R38). -/

namespace Sys2Proof.Machine

open Sys2Proof

/-! ### Port words (R211) -/

def fetchWord : Word := 0xFEFE
def resetWord : Word := 0xFFFF

/-- The request kind of a header and its body word count (R196). -/
def headerKind (h : Word) : Nat := h.toNat / 256
def headerCount (h : Word) : Nat := h.toNat % 256

/-- What a select period was (R195). -/
inductive Period where
  | nothing
  | fetch
  | portReset
  | request
deriving DecidableEq, Repr

def periodOf (words : List Word) (extraBits : Nat) : Period :=
  match words with
  | [] => if extraBits = 0 then .nothing else .request
  | w :: _ => if w = fetchWord then .fetch else if w = resetWord then .portReset else .request

/-- A frame is well formed when it holds its header and exactly the words its count gives, with no bit over (R196). -/
def judgeFrame (words : List Word) (extraBits : Nat) : Option (Nat × List Word) :=
  match words with
  | h :: body => if extraBits = 0 ∧ body.length = headerCount h then some (headerKind h, body) else none
  | [] => none

/-! ### The STATUS response (R207) -/

def surveyCode : SurveyState → Nat
  | .idle => 0
  | .running => 1
  | .stopped => 2

def stopCode : StopPending → Nat
  | .none => 0
  | .request _ => 1
  | .seqLimit => 2

def ctxCode : CtxState → Nat
  | .idle => 0
  | .opened => 1
  | .closing => 2

def lineCode : LineState → Nat
  | .idle => 0
  | .inquiring => 1
  | .sending => 2
  | .stalled => 3
  | .suspended => 4
  | .brk => 5

/-- The held status as a mask, in the order of the status byte's bits (R184). -/
def heldCode (h : HeldStatus) : Nat :=
  bit h.paperLow + 2 * bit h.paperOut + 4 * bit h.coverOpen + 8 * bit h.headHot + 16 * bit h.bufferFull

def statusSurvey (s : State) : List Word :=
  [word (surveyCode s.survey.state), word (stopCode s.survey.stopPending), word s.survey.number]
    ++ textWords s.survey.siteId ++ [word s.survey.freq]

def statusJournal (s : State) : List Word :=
  words32 s.journal.tailSeq ++ words32 s.journal.headSeq ++ [word s.journal.free] ++ optional32 (holdPoint s)
    ++ words32 s.journal.lossEvent ++ words32 s.journal.lossWave ++ words32 s.journal.lossInterval
    ++ words32 s.journal.lossMark

def statusPort (u : PortUnit) : List Word :=
  words32 u.cursor ++ words32 u.missed
    ++ [word u.flags.toNat, word u.enable.toNat, word u.kinds.toNat, word u.divider]

def statusLink (s : State) : List Word := word (linkCode s.link.state) :: words32 s.link.badTotal

def statusCapture (s : State) : List Word :=
  [word (ctxCode s.det.low.state), word (ctxCode s.det.high.state), word (bit s.cap.capturing)]

def statusKit (s : State) : List Word :=
  [word (presentMask s.kit).toNat, word (overdueMask s).toNat, word (bit s.kit.faulted), word (supplyCode s.kit.supplyOn),
   word (bit s.kit.enable), word (bit s.kit.faultActive), word (unpoweredMask s.kit).toNat]

def statusPrinting (s : State) : List Word :=
  (match headJob s with
    | some j => [word j.number, word (jobStateCode j.state)]
    | none => [])
    ++ [word (lineCode s.line.state), word (heldCode s.line.held), word (bit s.line.ready), word (bit s.line.cts)]

def statusErrors (u : PortUnit) : List Word := [word u.framing, word u.parity, word u.overrun]

/-- The body of a STATUS response, group by group; its first word says whether the hold point (bit 0) and a head job (bit 1) are
there (notes/assumptions/11). -/
def statusBody (p : Port) (s : State) : List Word :=
  [word (bit (holdPoint s).isSome + 2 * bit (headJob s).isSome)]
    ++ statusSurvey s ++ statusJournal s ++ statusPort (s.port p) ++ statusLink s ++ statusCapture s
    ++ statusKit s ++ statusPrinting s ++ statusErrors (s.port p)

/-- STATUS as the port unit takes it, in the release event of its frame (R207). -/
def takeStatus (p : Port) (body : List Word) (s : State) : State :=
  if body ≠ [] then respond p .status .badRequest [] s
  else
    let u := s.port p
    let s1 := s.modPort p fun u => { u with clearSet := u.flags, missedToClear := u.missed }
    respondWith p (some .status) .ok (statusBody p s) (.status u.framing u.parity u.overrun) s1

/-- The words of a stored port configuration (R206). -/
def configWords (u : PortUnit) : List Word := [word u.enable.toNat, word u.kinds.toNat, word u.divider]

/-- PORT_CONFIG as the port unit takes it, in the release event of its frame (R206). -/
def takeConfig (p : Port) (body : List Word) (s : State) : State :=
  match readConfig body with
  | none => respond p .portConfig .badRequest [] s
  | some (enable, kinds, d) =>
    let s1 := s.modPort p fun u =>
      { u with enable := enable, kinds := kinds, divider := clampTo 1 15 d, recordCount := 0 }
    respond p .portConfig (okOr (d != clampTo 1 15 d)) (configWords (s1.port p)) s1

/-! ### Request frames (R196, R197) -/

/-- The release of a request frame discards the response and withdraws a waiting request, whatever the frame (R196). -/
def releasePeriod (p : Port) (s : State) : State :=
  s.modPort p fun u => { discardResponse u with waiting := none, intake := none, answer := [] }

/-- A well-formed request frame (R196, R197). -/
def releaseRequest (p : Port) (kind : Nat) (body : List Word) (s : State) : State :=
  let s1 := releasePeriod p s
  match requestOfCode kind with
  | none => respondWith p none .badRequest [] .nothing s1
  | some .status => takeStatus p body s1
  | some .portConfig => takeConfig p body s1
  | some k => s1.modPort p fun u => { u with waiting := some ⟨k, body⟩ }

/-- The KC8 clocks out zero words during a request frame and a port reset (R195). -/
def clockZeros (p : Port) (n : Nat) (s : State) : State := s.modPort p fun u => { u with out := List.replicate n 0 }

/-- The words of a period's command begin with those the intake holds: a period in progress goes on, and no other can begin on the
port until it is released (R195). -/
def mayGoOn (words : List Word) (u : PortUnit) : Bool :=
  match u.intake with
  | none => true
  | some held => held.isPrefixOf words

/-- A select period whose select is still asserted: the intake holds its words so far (R194, R195). -/
def holdIntake (p : Port) (words : List Word) (s : State) : State := s.modPort p fun u => { u with intake := some words }

/-- A select period of these words acts on its port, unless another is in progress there (R195, notes/assumptions/2): as f does at
its release, and while it is unreleased by clocking zeros out and holding its words. DESIGN CHOICE: one command after another gives
a period's words so far (notes/assumptions/30). -/
def inPeriod (p : Port) (words : List Word) (released : Bool) (f : State → State) (s : State) : State :=
  if mayGoOn words (s.port p) then
    if released then clockZeros p words.length (f s) else clockZeros p words.length (holdIntake p words s)
  else s

/-- The release of a request frame, judged (R196), or of a period of no word and no bit, which has no effect (R195). -/
def releaseFrame (p : Port) (words : List Word) (extraBits : Nat) (s : State) : State :=
  match periodOf words extraBits, judgeFrame words extraBits with
  | .nothing, _ => s.modPort p fun u => { u with intake := none, answer := [] }
  | _, some (kind, body) => releaseRequest p kind body s
  | _, none => releasePeriod p s

/-- REQUEST_FRAME (R195, R196). A period that is no request frame is not this command's (notes/assumptions/30). -/
def execRequestFrame (p : Port) (words : List Word) (select : Select) (s : State) : Host.Outcome State Fault Refusal :=
  .next <|
    match periodOf words 0, select with
    | .fetch, _ => s
    | .portReset, _ => s
    | _, .asserted => inPeriod p words false id s
    | _, .released extraBits => inPeriod p words true (releaseFrame p words extraBits.val) s

/-- PORT_RESET (R198, R152, R201). -/
def resetNotes (p : Port) (s : State) : State :=
  match p with
  | .a => { s with noteA := .empty }
  | .b => { s with noteB := .empty }

/-- The words of a period whose words after the first are disregarded, which are held as zeros (R195, notes/assumptions/30). -/
def disregarding (first : Word) (more : Nat) : List Word := first :: List.replicate more 0

def execPortReset (period : ResetPeriod) (s : State) : Host.Outcome State Fault Refusal :=
  let p := period.port
  .next <| inPeriod p (disregarding resetWord period.clocked.more) period.clocked.released
    (fun s => resetNotes p <| (releasePeriod p s).modPort p fun u => { u with clearSet := 0, missedToClear := 0 }) s

/-! ### Fetching (R199, R200) -/

/-- The port's answer: the fetch status word and the words that follow it (R199, R211). -/
def fetchAnswer (u : PortUnit) : List Word :=
  match u.waiting, u.response with
  | some _, _ => [0x0100]
  | none, some r => word (512 + resultCode r.code) :: word r.body.length :: r.body
  | none, none => [0x0000]

/-- The answer of a fetch frame, read at its start (R199). -/
def answerOf (u : PortUnit) : List Word := if u.answer = [] then fetchAnswer u else u.answer

/-- A READY answer has been clocked out whole: it has a length word, the response is still there, and n words bring out its last
word, which the words of the frame so far had not (R200). -/
def fetchWhole (u : PortUnit) (n : Nat) : Bool :=
  let answer := answerOf u
  let before := match u.intake with
    | none => 0
    | some held => held.length - 1
  decide (2 ≤ answer.length) && u.response.isSome && decide (answer.length ≤ n) && decide (before < answer.length)

/-- A fetch frame with n words after the FETCH word; those after the answer read as zero (R199). -/
def fetchWords (n : Nat) (released : Bool) (u : PortUnit) : PortUnit :=
  let answer := answerOf u
  { u with
    intake := if released then none else some (disregarding fetchWord n)
    answer := if released then [] else answer
    out := answer.take n ++ List.replicate (n - answer.length) 0
    fetchDue := u.fetchDue || fetchWhole u n }

/-- FETCH_FRAME (R199; its completion is a command of its own, notes/assumptions/24). -/
def execFetchFrame (p : Port) (clocked : Clocked) (s : State) : Host.Outcome State Fault Refusal :=
  .next <|
    if mayGoOn (disregarding fetchWord clocked.more) (s.port p) then s.modPort p (fetchWords clocked.more clocked.released) else s

/-- The delivered records of a READ_NEXT that pushes had counted as missed (R37). -/
def recounted (cursor first count now : Nat) : Nat := min (first + count) now - max first cursor

/-- The effects of the first complete fetch (R200, R37, R208). -/
def deliver (d : Delivery) (u : PortUnit) : PortUnit :=
  match d with
  | .nothing => u
  | .readNext cursor first count =>
    { u with
      missed := u.missed - recounted cursor first count u.cursor
      cursor := if count = 0 then u.cursor else max u.cursor (first + count) }
  | .status framing parity overrun =>
    { u with
      flags := u.flags &&& ~~~ u.clearSet, clearSet := 0
      missed := u.missed - u.missedToClear, missedToClear := 0
      framing := u.framing - framing, parity := u.parity - parity, overrun := u.overrun - overrun }

/-- FETCH_COMPLETE (R200): the last word of a READY answer has been clocked out. -/
def completeFetch (u : PortUnit) : PortUnit :=
  if u.fetchDue then
    match u.response with
    | some r =>
      let u1 := if r.delivered then u else deliver r.delivery u
      { u1 with fetchDue := false, response := some { r with delivered := true } }
    | none => { u with fetchDue := false }
  else u

def execFetchComplete (p : Port) (s : State) : Host.Outcome State Fault Refusal := .next (s.modPort p completeFetch)

/-- The words of a request frame (R196, R211). -/
def frameOf (k : RequestKind) (body : List Word) : List Word := word (256 * requestCode k + body.length) :: body

/-- STATUS (R207), as the release of a well-formed frame with this body (R197). -/
def execStatus (p : Port) (body : List Word) (s : State) : Host.Outcome State Fault Refusal :=
  .next <| inPeriod p (frameOf .status body) true (fun s => takeStatus p body (releasePeriod p s)) s

/-- PORT_CONFIG (R206), as the release of a well-formed frame with this body (R197). -/
def execPortConfig (p : Port) (body : List Word) (s : State) : Host.Outcome State Fault Refusal :=
  .next <| inPeriod p (frameOf .portConfig body) true (fun s => takeConfig p body (releasePeriod p s)) s

/-! ### READ_NEXT (R34, R35) -/

/-- Bytes of a snapshot's preamble (R35). -/
def preambleBytes : Nat := 16

/-- Bytes of a record's copy (R35). -/
def copyBytes (r : Record) : Nat := 2 * wordsFor (Config.headerBytes + bodyLen r.body)

/-- Whole records, at most n and at most room bytes of them (R35). -/
def snapshotRecords : Nat → Nat → List Record → List Record
  | 0, _, _ => []
  | _ + 1, _, [] => []
  | n + 1, room, r :: rest =>
    if copyBytes r ≤ room then r :: snapshotRecords n (room - copyBytes r) rest else []

/-- The records a READ_NEXT of count n copies at cursor c (R35). -/
def snapshotAt (n c : Nat) (s : State) : List Record :=
  snapshotRecords n (Config.responseBytes - preambleBytes) (s.journal.records.filter fun r => decide (c ≤ r.seq))

/-- The preamble and the records (R35). -/
def snapshotBody (u : PortUnit) (rs : List Record) (s : State) : List Word :=
  word rs.length :: words32 s.journal.tailSeq ++ words32 s.journal.headSeq ++ words32 u.missed
    ++ [word s.journal.free] ++ rs.flatMap recordWords

/-- READ_NEXT (R34, R35). -/
def execReadNext (p : Port) (s : State) : Host.Outcome State Fault Refusal :=
  .next <| takeRequest p .readNext (fun body s =>
    match body with
    | [n] =>
      if n.toNat = 0 ∨ 32 < n.toNat then respond p .readNext .badValue [] s
      else
        let u := s.port p
        let rs := snapshotAt n.toNat u.cursor s
        respondWith p (some .readNext) .ok (snapshotBody u rs s)
          (.readNext u.cursor ((rs.head?.map Record.seq).getD u.cursor) rs.length) s
    | _ => respond p .readNext .badRequest [] s) s

/-! ### SEEK (R38) -/

/-- The cursor a SEEK sets, and whether it was moved to the tail or head. -/
def seekTo (f : SeekForm) (j : JournalUnit) : Nat × Bool :=
  match f with
  | .number n => (clampTo j.tailSeq j.headSeq n, n != clampTo j.tailSeq j.headSeq n)
  | .oldest => (j.tailSeq, false)
  | .newest => (j.headSeq, false)

/-- SEEK (R38). -/
def execSeek (p : Port) (s : State) : Host.Outcome State Fault Refusal :=
  .next <| takeRequest p .seek (fun body s =>
    match readSeek body with
    | none => respond p .seek .badRequest [] s
    | some f =>
      let (c, clamped) := seekTo f s.journal
      respond p .seek (okOr clamped) (words32 c ++ words32 s.journal.tailSeq ++ words32 s.journal.headSeq)
        (s.modPort p fun u => { u with cursor := c })) s

end Sys2Proof.Machine
end

