-- ==== Sys2Proof/Machine/Report.lean ====
section
/-! DEFINITION. The lines of a report: renderings, header, record lines, and footer (R161 to R170). -/

namespace Sys2Proof.Machine

open Sys2Proof

/-! ### Renderings (R161, R162) -/

def space : Byte := 0x20

/-- Fields separated by single spaces. -/
def spaced : List (List Byte) → List Byte
  | [] => []
  | [a] => a
  | a :: rest => a ++ space :: spaced rest

/-- Stored text: a byte outside 0x20 to 0x7E prints as '?' (R161). -/
def shown (b : Byte) : Byte := if 0x20 ≤ b.toNat ∧ b.toNat ≤ 0x7E then b else 0x3F

/-- A line of a report: at most 48 bytes of text, then a line feed (R161). -/
def finishLine (b : List Byte) : List Byte := (b.take 48).map shown ++ [lineFeed]

/-- A line shown indented begins with four spaces. -/
def indent (b : List Byte) : List Byte := [space, space, space, space] ++ b

/-- A value in per mille, as percent with one decimal. -/
def percent (v : Nat) : List Byte := decimal (v / 10) ++ ascii "." ++ decimal (v % 10)

def percentSign (v : Nat) : List Byte := percent v ++ ascii "%"

/-- A duration of n half cycles at nominal frequency f. -/
def durationText (n f : Nat) : List Byte := decimal ((n * 1000 + f) / (2 * f)) ++ ascii " MS"

/-- Year, month and day of a day number counted from 2000-01-01, in the Gregorian calendar: the days are counted from 1 March of
year 0, in eras of 400 years. -/
def calendar (day : Nat) : Nat × Nat × Nat :=
  let z := day + 730425
  let era := z / 146097
  let doe := z % 146097
  let yoe := (doe - doe / 1460 + doe / 36524 - doe / 146096) / 365
  let doy := doe - (365 * yoe + yoe / 4 - yoe / 100)
  let mp := (5 * doy + 2) / 153
  let month := if mp < 10 then mp + 3 else mp - 9
  (yoe + era * 400 + (if month ≤ 2 then 1 else 0), month, doy - (153 * mp + 2) / 5 + 1)

def dateText (day : Nat) : List Byte :=
  let (y, m, d) := calendar day
  decimalPad 4 y ++ ascii "-" ++ decimalPad 2 m ++ ascii "-" ++ decimalPad 2 d

def timeText (ms : Nat) : List Byte :=
  decimalPad 2 (ms / 3600000) ++ ascii ":" ++ decimalPad 2 (ms / 60000 % 60) ++ ascii ":" ++ decimalPad 2 (ms / 1000 % 60)
    ++ ascii "." ++ decimalPad 3 (ms % 1000)

def seqText (n : Nat) : List Byte := ascii "#" ++ decimal n

def channelName : Nat → List Byte
  | 0 => ascii "L1"
  | 1 => ascii "L2"
  | 2 => ascii "L3"
  | 3 => ascii "NE"
  | 4 => ascii "I1"
  | 5 => ascii "I2"
  | 6 => ascii "I3"
  | _ => ascii "IN"

/-- Fields separated by commas. -/
def commas : List (List Byte) → List Byte
  | [] => []
  | [a] => a
  | a :: rest => a ++ ascii "," ++ commas rest

/-- A set of channels. -/
def channelSet (m : BitVec 8) : List Byte := if m = 0 then ascii "-" else commas ((maskChannels m).map channelName)

def hyphens : List Byte := List.replicate 48 0x2D

/-! ### Header (R163) -/

def formatName (full : Bool) : List Byte := if full then ascii "FULL" else ascii "SUMMARY"

def headerLines (s : State) (j : Job) (ms : Nat) : List LineSpec :=
  [.text (ascii "IVEPTA VIPWEL KC8 SURVEY REPORT"),
   .text (spaced [ascii "SITE", s.survey.siteId]),
   .text (spaced [ascii "SURVEY", decimal s.survey.number, ascii "JOB", decimal j.number, ascii "COPY",
     decimal j.current, ascii "OF", decimal j.copies]),
   .text (spaced [ascii "SPAN", decimal j.first, ascii "TO", decimal j.last, formatName j.full]),
   .text (spaced [ascii "MISSING AT ACCEPTANCE", decimal j.missing]),
   .fromLine ms,
   .text hyphens]

/-! ### Records (R164 to R169) -/

def chosen (l : List (Bool × String)) : List (List Byte) := (l.filter Prod.fst).map fun x => ascii x.2

/-- The codes of an event's flags, in the order of R164. -/
def eventCodes (f : EventFlags) : List (List Byte) :=
  chosen [(f.clipped, "CL"), (f.capped, "CP"), (f.cut, "CU"), (f.linkLost, "LL"), (f.probeChange, "PC"),
    (f.calOverdue, "CO"), (f.test, "TS"), (f.noWave, "NW"), (f.waveShared, "WS"), (f.wavePartial, "WP")]

def intervalCodes (f : IntervalFlags) : List (List Byte) :=
  chosen [(f.flagged, "FG"), (f.partialClose, "PA"), (f.split, "SP"), (f.calOverdue, "CO"), (f.test, "TS"), (f.more, "MO")]

/-- The FLAGS line, when any flag is set. -/
def flagsLine (codes : List (List Byte)) : List (List Byte) :=
  if codes = [] then [] else [spaced (ascii "FLAGS" :: codes)]

def className : EventClass → List Byte
  | .dip => ascii "DIP"
  | .intr => ascii "INTR"
  | .swell => ascii "SWELL"

/-- One line for each involved channel of an event (R165). -/
def extremeLines (e : EventBody) : List (List Byte) :=
  (List.range 4).filterMap fun c =>
    if e.involved.get c then
      some (spaced [channelName c, if e.cls = .swell then ascii "MAX" else ascii "MIN",
        percentSign ((e.extremes.get c).getD 0)])
    else none

def thresholdLine (e : EventBody) : List Byte :=
  if e.cls = .swell then
    spaced [ascii "TS", percentSign e.frozen.limit, ascii "H", percentSign e.frozen.hyst]
  else
    spaced [ascii "TD", percentSign e.frozen.limit, ascii "TI", percentSign e.frozen.intr, ascii "H",
      percentSign e.frozen.hyst]

def waveLine (e : EventBody) : List Byte :=
  match e.wave with
  | some (first, stored) => spaced [ascii "WAVEFORM", decimal stored, ascii "CYCLES FROM", seqText first]
  | none => ascii "WAVEFORM NONE"

/-- An EVENT record: its first line's fields and the lines that follow (R165). -/
def eventText (full : Bool) (freq : Nat) (e : EventBody) : List Byte × List (List Byte) :=
  (spaced [className e.cls, percentSign e.extreme, channelName e.worst],
   [spaced [ascii "DUR", durationText e.duration freq, ascii "MERGES", decimal e.merges]]
     ++ flagsLine (eventCodes e.flags)
     ++ if full then
          [thresholdLine e, spaced [ascii "START HC", decimal e.startHc, ascii "END HC", decimal e.endHc]]
            ++ extremeLines e ++ [waveLine e]
        else [])

/-- The magnitude lines of one channel: up to five orders each, orders 1 to 15 at most (R166). -/
def magnitudeLines (c : Nat) (m : List Nat) : List (List Byte) :=
  (List.range 3).filterMap fun i =>
    let part := ((m.take 15).drop (5 * i)).take 5
    if part = [] then none
    else
      some (spaced [channelName c, ascii "H" ++ decimalPad 2 (5 * i + 1)]
        ++ part.flatMap fun x => padLeft 6 space (decimal x))

/-- An INTERVAL record (R166). -/
def intervalText (full : Bool) (b : IntervalBody) : List Byte × List (List Byte) :=
  (spaced [ascii "INTERVAL", decimal b.number],
   [spaced [ascii "N", decimal b.length, ascii "AGG", decimal b.aggregated, ascii "EXC", decimal b.excluded,
      ascii "MISS", decimal b.missing],
    spaced (ascii "THD" :: (List.range 4).flatMap fun c =>
      [channelName c, match b.thd.get c with | some t => percentSign t | none => ascii "-"])]
     ++ flagsLine (intervalCodes b.flags)
     ++ [spaced [ascii "EXCEEDANCES", decimal b.exceedTotal]]
     ++ (b.exceed.map fun e => spaced [channelName e.channel, ascii "H" ++ decimal e.order, decimal e.count])
     ++ if full then
          [spaced [ascii "OCC", ascii "1:" ++ decimal b.occupancy.one, ascii "2:" ++ decimal b.occupancy.two,
             ascii "3+:" ++ decimal b.occupancy.threePlus]]
            ++ (if b.unpowered = 0 then [] else [spaced [ascii "UNPOWERED", channelSet b.unpowered]])
            ++ (List.range 8).flatMap fun c => magnitudeLines c ((b.magnitudes.get c).getD [])
        else [])

def categoryName : Category → List Byte
  | .site => ascii "SITE"
  | .load => ascii "LOAD"
  | .weather => ascii "WEATHER"
  | .probe => ascii "PROBE"
  | .other => ascii "OTHER"

/-- The last space of a line that is not its first byte (R167). -/
def breakAt (line : List Byte) : Option Nat :=
  ((List.range line.length).filter fun i => decide (i ≠ 0) && line.getD i 0 == space).getLast?

/-- The text lines of a note: width bytes on the first, 44 on the later ones (R167). -/
def wrapText : Nat → Nat → List Byte → List (List Byte)
  | 0, _, _ => []
  | fuel + 1, width, t =>
    if t.length ≤ width then [t]
    else
      match breakAt (t.take width) with
      | some i => t.take i :: wrapText fuel 44 (t.drop (i + 1))
      | none => t.take width :: wrapText fuel 44 (t.drop width)

/-- A reference that lies below the tail names a record that is gone (R167). -/
def refLine (name : List Byte) (n tail : Nat) : List Byte :=
  spaced ([name, seqText n] ++ if n < tail then [ascii "NO LONGER HELD"] else [])

/-- The text lines of a note, the later ones indented. -/
def noteTextLines (t : List Byte) : List (List Byte) :=
  if t = [] then []
  else
    match wrapText (t.length + 1) 48 t with
    | [] => []
    | l :: rest => l :: rest.map indent

/-- The lines of a NOTE record after its first (R167). -/
def noteLines (superseded : Bool) (tail : Nat) (n : NoteBody) : List (List Byte) :=
  noteTextLines n.text
    ++ (if n.truncated then [indent (ascii "(TEXT TRUNCATED)")] else [])
    ++ (match n.supersedes with
        | some (target, _) => [indent (refLine (ascii "REPLACES") target tail)]
        | none => [])
    ++ (n.cites.map fun c => indent (refLine (ascii "CITES") c.seq tail))
    ++ if superseded then [indent (ascii "(REPLACED BY A LATER NOTE)")] else []

def itemName : Item → String
  | .journalPolicy => "JOURNAL_POLICY"
  | .syncA => "SYNC_A"
  | .syncB => "SYNC_B"
  | .syncF => "SYNC_F"
  | .bandEdges => "BAND_EDGES"
  | .dipThreshold => "DIP_THRESHOLD"
  | .intrThreshold => "INTR_THRESHOLD"
  | .swellThreshold => "SWELL_THRESHOLD"
  | .hysteresis => "HYSTERESIS"
  | .holdOff => "HOLD_OFF"
  | .preCycles => "PRE_CYCLES"
  | .postCycles => "POST_CYCLES"
  | .intervalLength => "INTERVAL_LENGTH"
  | .keptOrders => "KEPT_ORDERS"
  | .recordMask => "RECORD_MASK"
  | .flagPolicy => "FLAG_POLICY"
  | .limit => "LIMIT"
  | .probe => "PROBE"
  | .supply => "SUPPLY"
  | .baud => "BAUD"
  | .parity => "PARITY"
  | .stallTimeout => "STALL_TIMEOUT"

def probeKindName : ProbeKind → List Byte
  | .none => ascii "NONE"
  | .voltageLead => ascii "VOLTAGE_LEAD"
  | .clamp => ascii "CLAMP"
  | .flex => ascii "FLEX"

/-- One of two names, by the value's number (R210). -/
def named (ws : List Word) (zero one : String) : List Byte := if ws.headD 0 = 0 then ascii zero else ascii one

def firstNat (ws : List Word) : Nat := (ws.headD 0).toNat

/-- A PROBE value (R168, R210). DESIGN CHOICE: its five parts are separated by single spaces, in one line
(notes/assumptions/33). -/
def probeText (ws : List Word) : List Byte :=
  let k := ws.getD 0 0
  let d := (ws.getD 1 0).toNat
  let due := (ws.getD 2 0).toNat
  spaced [probeKindName ((probeKindOfCode (k.toNat / 256)).getD .none),
    if d = 0 then ascii "-" else decimal d,
    if k.getLsbD 0 then ascii "DET" else ascii "-",
    if k.getLsbD 1 then ascii "HI" else ascii "LO",
    if due = 0 then ascii "-" else decimal due]

/-- A setting's value as the report prints it (R168). -/
def valueText (item : Item) (qualifier : Nat) (ws : List Word) : List Byte :=
  match item with
  | .dipThreshold => percentSign (firstNat ws)
  | .intrThreshold => percentSign (firstNat ws)
  | .swellThreshold => percentSign (firstNat ws)
  | .hysteresis => percentSign (firstNat ws)
  | .limit => spaced [ascii "H" ++ decimal qualifier, percentSign (firstNat ws)]
  | .bandEdges => spaced (ws.map fun w => decimal w.toNat)
  | .journalPolicy => named ws "CAPTURE_FIRST" "PRINT_FIRST"
  | .flagPolicy => named ws "INCLUDE" "EXCLUDE"
  | .supply => named ws "ON" "OFF"
  | .parity => named ws "NONE" "EVEN"
  | .recordMask => channelSet ((ws.headD 0).setWidth 8)
  | .probe => probeText ws
  | .baud => decimal (join32 (ws.getD 0 0) (ws.getD 1 0))
  | .syncA => decimal (firstNat ws)
  | .syncB => decimal (firstNat ws)
  | .syncF => decimal (firstNat ws)
  | .holdOff => decimal (firstNat ws)
  | .preCycles => decimal (firstNat ws)
  | .postCycles => decimal (firstNat ws)
  | .intervalLength => decimal (firstNat ws)
  | .keptOrders => decimal (firstNat ws)
  | .stallTimeout => decimal (firstNat ws)

def portLetter : Port → List Byte
  | .a => ascii "A"
  | .b => ascii "B"

def portName : Origin → List Byte
  | .portB => ascii "PORT B"
  | _ => ascii "PORT A"

/-- A SETTING record (R168). -/
def settingText (o : Origin) (b : SettingBody) : List Byte × List (List Byte) :=
  (spaced ([ascii "SET", ascii (itemName b.item)] ++ if b.item = .probe then [channelName b.qualifier] else []),
   [spaced ([ascii "BY", portName o] ++ if b.clamped then [ascii "CLAMPED"] else []),
    spaced [ascii "FROM", valueText b.item b.qualifier b.old],
    spaced [ascii "TO", valueText b.item b.qualifier b.new]])

def onOff (b : Bool) : List Byte := if b then ascii "ON" else ascii "OFF"

def supplyStateName (faulted : Bool) : List Byte := if faulted then ascii "FAULTED" else ascii "NORMAL"

def probeMarkLine (c : Nat) (k : ProbeKind) (byEntry : Bool) : List Byte :=
  spaced [channelName c, probeKindName k, if byEntry then ascii "ENTRY" else ascii "SENSE"]

/-- A MARK record: its subkind and its detail lines (R169, notes/assumptions/33). -/
def markText : MarkBody → List Byte × List (List Byte)
  | .surveyStart site _ _ freq present faulted enable =>
    (ascii "MARK SURVEY_START",
     [spaced [ascii "SITE", site, decimal freq, ascii "HZ"], spaced [ascii "PRESENT", channelSet present],
      spaced [ascii "SUPPLY", supplyStateName faulted, ascii "OUTPUT", onOff enable]])
  | .surveyStop (.request p) => (ascii "MARK SURVEY_STOP", [spaced [ascii "REQUEST PORT", portLetter p]])
  | .surveyStop .seqLimit => (ascii "MARK SURVEY_STOP", [ascii "SEQ_LIMIT"])
  | .timeStep od om nd nm =>
    (ascii "MARK TIME_STEP",
     [spaced [ascii "FROM", dateText od, timeText om], spaced [ascii "TO", dateText nd, timeText nm]])
  | .loss e w i m =>
    (ascii "MARK LOSS",
     [spaced [ascii "LOST EVENT", decimal e, ascii "WAVE", decimal w],
      spaced [ascii "LOST INTERVAL", decimal i, ascii "MARK", decimal m]])
  | .linkUp filler total =>
    (ascii "MARK LINK_UP", [spaced [if filler then ascii "FILLER" else ascii "DATA", ascii "BAD FRAMES", decimal total]])
  | .linkDown reason total instants =>
    (ascii "MARK LINK_DOWN",
     [spaced [ascii "REASON", match reason with
        | .badFrames => ascii "BAD_FRAMES"
        | .syncChange => ascii "SYNC_CHANGE"
        | .brk => ascii "BREAK"],
      spaced [ascii "BAD FRAMES", decimal total, ascii "INSTANTS", decimal instants]])
  | .frontendOff fromLocked =>
    (ascii "MARK FRONTEND_OFF", [spaced [ascii "FROM", if fromLocked then ascii "LOCKED" else ascii "HUNT"]])
  | .selftestOn a b ka kb n _ =>
    (ascii "MARK SELFTEST_ON",
     [spaced [ascii "A", decimal a, ascii "KA", decimal ka, ascii "B", decimal b, ascii "KB", decimal kb,
        ascii "X", decimal n]])
  | .selftestOff reason n frames =>
    (ascii "MARK SELFTEST_OFF",
     [spaced [match reason with
        | .complete => ascii "COMPLETE"
        | .request => ascii "REQUEST"
        | .surveyStop => ascii "SURVEY_STOP", ascii "REPEATS", decimal n, ascii "FRAMES", decimal frames]])
  | .probeIn c k e _ => (ascii "MARK PROBE_IN", [probeMarkLine c k e])
  | .probeOut c k e _ => (ascii "MARK PROBE_OUT", [probeMarkLine c k e])
  | .probeFault on already m =>
    (ascii "MARK PROBE_FAULT",
     [spaced ([ascii "SUPPLY", onOff on] ++ (if already then [ascii "AGAIN"] else [])
        ++ [ascii "UNPOWERED", channelSet m])])
  | .supplyRestored p on e =>
    (ascii "MARK SUPPLY_RESTORED",
     [spaced [ascii "PORT", portLetter p, ascii "SUPPLY", onOff on, ascii "OUTPUT", onOff e]])

/-- The survey ms of a record's first line (R164). -/
def lineMs (r : Record) : Nat :=
  match r.body with
  | .note n => n.observed
  | _ => r.surveyMs

/-- The lines of a record that is printed: its first line, whose wall time is derived when it is composed, and the lines that
follow (R164 to R169). -/
def recordLines (r : Record) (full : Bool) (freq tail : Nat) : List LineSpec :=
  let lines := fun (x : List Byte × List (List Byte)) =>
    LineSpec.dated r.seq (lineMs r) x.1 :: x.2.map fun l => LineSpec.text (indent l)
  match r.body with
  | .event e => lines (eventText full freq e)
  | .interval b => lines (intervalText full b)
  | .note n =>
    LineSpec.dated r.seq (lineMs r) (spaced [ascii "NOTE", categoryName n.category, ascii "A" ++ decimal n.author])
      :: (noteLines r.superseded tail n).map LineSpec.text
  | .setting b => lines (settingText r.origin b)
  | .mark m => lines (markText m)
  | .wave _ => []

/-! ### Footer (R170) -/

/-- The share of one band. -/
def shareText (count total : Nat) : List Byte := padLeft 7 space (percent (count * 1000 / total))

/-- The residency lines of a channel (R170 item 5). -/
def residencyLines (c : Nat) (counts : List Nat) : List (List Byte) :=
  if counts.all fun n => n == 0 then []
  else
    let shares := fun (l : List Nat) => l.flatMap fun n => shareText n counts.sum
    [spaced [channelName c, ascii "0-3"] ++ shares (counts.take 4), ascii "   4-7" ++ shares (counts.drop 4)]

/-- The footer of a copy, with the feed and the cut that follow it (R170). -/
def footerLines (h : HalfCycleUnit) (printed : Nat) : List LineSpec :=
  let residency := (List.range 4).flatMap fun c => residencyLines c (h.bandCounts.get c)
  [.text hyphens, .text (spaced [ascii "RECORDS PRINTED", decimal printed]),
   .text (ascii "BAND RESIDENCY % OF HALF CYCLES"),
   .text (ascii "EDGES" ++ h.edges.flatMap fun e => space :: percent e)]
    ++ (if residency = [] then [.text (ascii "NO RESIDENCY DATA")] else residency.map LineSpec.text)
    ++ (if h.edgesChanged then [.text (ascii "BAND EDGES CHANGED DURING SURVEY")] else [])
    ++ [.text (spaced [ascii "DOWN 1", decimal h.surveyOcc.one]), .text (spaced [ascii "DOWN 2", decimal h.surveyOcc.two]),
        .text (spaced [ascii "DOWN 3+", decimal h.surveyOcc.threePlus]),
        .lastLine (ascii "END OF REPORT"), .command feedAndCut]

end Sys2Proof.Machine
end

