-- ==== Sys2Proof/Machine/Composer.lean ====
section
/-! DEFINITION. The Report Composer: submitting and cancelling jobs, composing a report part by part, holds across copies, and the
queue's listing (R155 to R160, R171 to R177). -/

namespace Sys2Proof.Machine

open Sys2Proof

/-- The head job's state changes, and PRINT is raised on both ports (R158). -/
def setHeadState (st : JobState) (s : State) : State := raiseBoth .print (modHead (fun j => { j with state := st }) s)

/-! ### Beginning a part (R160, R163, R170) -/

/-- The lines of a part are to be composed; whatever was left of another part is gone. -/
def setTodo (lines : List LineSpec) (s : State) : State := s.setComp { s.comp with buffer := [], todo := lines }

/-- The header of the current copy, from record first and the survey's values (R163); at a copy's start the position is HEADER
already (R157, R172). -/
def beginHeader (s : State) : State :=
  match headJob s with
  | none => s
  | some j =>
    let ms := ((findRecord j.first s).map Record.surveyMs).getD 0
    modHead (fun j => { j with began := true }) (setTodo (headerLines s j ms) s)

/-- The footer of the current copy, with the counters as they stand (R170). -/
def beginFooter (s : State) : State :=
  match headJob s with
  | none => s
  | some j => modHead (fun j => { j with position := .footer }) (setTodo (footerLines s.hcu j.printed) s)

/-- The section of a record kind is in the mask; WAVE has none (R160). -/
def sectionWanted (c : Sections) : RecordKind → Bool
  | .event => c.events
  | .wave => false
  | .interval => c.intervals
  | .note => c.notes
  | .setting => c.settings
  | .mark => c.marks

/-- A record that is printed (R160 step 2). -/
def wanted (j : Job) (r : Record) : Bool :=
  sectionWanted j.sections r.kind && !(r.kind == .note && r.superseded && j.latestOnly)

/-- The working copy takes a record, the position becomes its number, and in the last copy the hold follows (R160, R171). -/
def readRecord (n : Nat) (s : State) : State :=
  modHead (fun j => { j with
      position := .record n
      hold := if j.current = j.copies then j.hold.map fun _ => n else j.hold })
    (s.setComp { s.comp with working := findRecord n s })

/-- The working copy's record, when it is printed. -/
def wantedRecord (s : State) : Option Record :=
  match headJob s, s.comp.working with
  | some j, some r => if wanted j r then some r else none
  | _, _ => none

/-- The lines of the working copy are to be composed (R160 step 3). -/
def beginRecord (r : Record) (s : State) : State :=
  match headJob s with
  | none => s
  | some j => setTodo (recordLines r j.full s.survey.freq s.journal.tailSeq) s

/-- A record composed for the first time in this copy counts as printed (R160). -/
def countPrinted (s : State) : State := modHead (fun j => { j with printed := j.printed + 1 }) s

/-- From record n on, skipped records are passed over at once; the first that prints is begun, or the footer when none is left; the
fuel is the number of records left in the span (R160, R171). -/
def advance : Nat → Nat → State → State
  | 0, _, s => beginFooter s
  | fuel + 1, n, s =>
    let s1 := readRecord n s
    match wantedRecord s1 with
    | some r => beginRecord r (countPrinted s1)
    | none => advance fuel (n + 1) s1

/-- The composer goes on to record n, or to the footer when n is above last. -/
def goTo (n : Nat) (s : State) : State :=
  match headJob s with
  | none => s
  | some j => advance (j.last + 1 - n) n s

/-! ### Starts and restarts (R158, R160, R174, R176) -/

/-- A line is composed ahead of the current part. -/
def aheadOf (l : LineSpec) (s : State) : State := s.setComp { s.comp with todo := l :: s.comp.todo }

/-- The current position from its start. A record is read again and filtered as it now stands: a NOTE that has been SUPERSEDED
since may be skipped, and is then passed at once (R160). -/
def restartPart (s : State) : State :=
  match headJob s with
  | none => s
  | some j =>
    match j.position with
    | .record n =>
      let s1 := s.setComp { s.comp with working := findRecord n s }
      match s1.comp.working with
      | some r => if wanted j r then beginRecord r s1 else goTo (n + 1) s1
      | none => setTodo [] s1
    | .footer => beginFooter s
    | _ => beginHeader s

/-- What the head job composes when printing begins: its closing line alone when its closing is set; "(continued)" and the current
position after a stall or a suspension; the header at the start of a copy (R160, R174, R176). -/
def beginPrinting (fresh : Bool) (s : State) : State :=
  match headJob s with
  | none => s
  | some j =>
    if j.closing ≠ .none then setTodo (closingLines j.closing) s
    else if fresh then beginHeader s
    else aheadOf (.text (ascii "(continued)")) (restartPart s)

/-! ### Lines (R160 to R162) -/

/-- The wall time of a line. -/
def lineTime (ms : Nat) (s : State) : Nat × Nat := (wallTime s.survey.steps ms).getD (0, 0)

/-- The next line goes into the line buffer. A record on another date has its date line composed first (R162). DESIGN CHOICE: a
FROM line and a DATE line alone set the date last printed; the dates in a MARK TIME_STEP's detail lines do not
(notes/assumptions/47). -/
def composeLine (s : State) : State :=
  let c := s.comp
  match c.todo with
  | [] => s
  | .text b :: rest => s.setComp { c with buffer := finishLine b, todo := rest }
  | .command b :: rest => s.setComp { c with buffer := b, todo := rest }
  | .fromLine ms :: rest =>
    let (d, m) := lineTime ms s
    s.setComp { c with
      buffer := finishLine (spaced [ascii "FROM", dateText d, timeText m]), todo := rest, lastDate := some d }
  | .dated seq ms fields :: rest =>
    let (d, m) := lineTime ms s
    if c.lastDate = some d then
      s.setComp { c with buffer := finishLine (spaced [seqText seq, timeText m, fields]), todo := rest }
    else s.setComp { c with buffer := finishLine (spaced [ascii "DATE", dateText d]), lastDate := some d }
  | .lastLine b :: rest =>
    modHead (fun j => { j with completed := j.current }) (s.setComp { c with buffer := finishLine b, todo := rest })
  | .closingLine b :: rest =>
    modHead (fun j => { j with position := .closing }) (s.setComp { c with buffer := finishLine b, todo := rest })

/-- The controller reports room: SENDING, fewer than 64 bytes in the FIFO, and no start waited for (R158, R181). -/
def hasRoom (s : State) : Bool :=
  s.line.state == .sending && decide (s.line.fifo.length < Config.fifoSize) && !s.comp.asked

/-- The composer hands one byte to the FIFO (R181). -/
def handByte (s : State) : State :=
  match s.comp.buffer with
  | b :: rest =>
    { s with
      comp := { s.comp with buffer := rest }
      line := pump { s.line with fifo := s.line.fifo ++ [b], outstanding := true } }
  | [] => s

/-- ROOM (R181): a line is composed when the buffer is empty, and the next byte is handed on. -/
def execRoom (s : State) : Host.Outcome State Fault Refusal :=
  .next (if hasRoom s then handByte (if s.comp.buffer = [] then composeLine s else s) else s)

/-! ### Transmission complete (R160, R171, R172, R174) -/

/-- A copy has ended with its cut (R172). -/
def endCopy (j : Job) (s : State) : State :=
  if j.current < j.copies then
    let s1 := modHead (fun j => { j with current := j.current + 1, printed := 0, position := .header }) s
    s1.setComp { s1.comp with lastDate := none, asked := true }
  else headLeaves .done (s.setComp { s.comp with lastPrinted := j.last })

/-- Every byte handed on has left the line: the composer passes on when the part has no line left (R160, R182). -/
def composerComplete (s : State) : State :=
  if s.comp.buffer ≠ [] ∨ s.comp.todo ≠ [] then s
  else
    match headJob s with
    | none => s
    | some j =>
      match j.position with
      | .header => goTo j.first s
      | .record n => goTo (n + 1) s
      | .footer => endCopy j s
      | .closing => headLeaves (closingEnd j.closing) s

/-! ### PRINT_SUBMIT (R155 to R157) -/

/-- The span of a form: first, last and the missing count (R156); none when it is empty. -/
def resolveSpan (f : SpanForm) (s : State) : Option (Nat × Nat × Nat) :=
  let tail := s.journal.tailSeq
  let newest := s.journal.headSeq - 1
  let asked : Nat × Nat :=
    match f with
    | .range a b => (if a = 0 then 1 else a, b)
    | .sinceLast => (s.comp.lastPrinted + 1, newest)
    | _ => (tail, newest)
  let first := max asked.1 tail
  let last := min asked.2 newest
  if last < first then none else some (first, last, tail - asked.1)

/-- The next job number: numbers of jobs in the queue are passed over (R157). -/
def nextNumber : Nat → Nat → List Job → Nat
  | 0, n, _ => n
  | fuel + 1, n, q =>
    let m := if n = 255 then 1 else n + 1
    if q.any fun j => j.number == m then nextNumber fuel m q else m

/-- The values of an accepted submission that are one of their choices (R155). -/
def submitValid (v : SubmitValues) : Bool :=
  v.form != .unknown && decide (v.format < 2) && decide (v.latestOnly < 2) && !noSections (sectionsOf v.sections)

/-- The job of an accepted submission (R154, R157). -/
def newJob (p : Port) (v : SubmitValues) (n : Nat) (span : Nat × Nat × Nat) (s : State) : Job where
  number := n
  port := p
  surveyNumber := s.survey.number
  first := span.1
  last := span.2.1
  missing := span.2.2
  sections := sectionsOf v.sections
  full := v.format == 1
  copies := clampTo 1 3 v.copies
  current := 1
  latestOnly := v.latestOnly == 1
  state := .queued
  position := .header
  hold := some span.1
  closing := .none
  printed := 0
  completed := 0
  began := false
  decided := none

/-- An accepted submission, as one event (R157). -/
def acceptJob (j : Job) (s : State) : State :=
  let c := s.comp
  let comp :=
    if c.queue = [] then { c with queue := [becomeHead j], lastJob := j.number, asked := true }
    else { c with queue := c.queue ++ [j], lastJob := j.number }
  raiseBoth .print (s.setComp comp)

/-- PRINT_SUBMIT (R155). -/
def execPrintSubmit (p : Port) (s : State) : Host.Outcome State Fault Refusal :=
  .next <| takeRequest p .printSubmit (fun body s =>
    match readSubmit body with
    | none => respond p .printSubmit .badRequest [] s
    | some v =>
      if !s.inSurvey then respond p .printSubmit .noSurvey [] s
      else if !submitValid v then respond p .printSubmit .badValue [] s
      else
        match resolveSpan v.form s with
        | none => respond p .printSubmit .emptySpan [] s
        | some span =>
          if Config.queueSize ≤ s.comp.queue.length then respond p .printSubmit .queueFull [] s
          else
            let j := newJob p v (nextNumber 9 s.comp.lastJob s.comp.queue) span s
            respond p .printSubmit (okOr (j.copies != v.copies))
              (word j.number :: words32 j.first ++ words32 j.last ++ words32 j.missing ++ [word j.copies])
              (acceptJob j s)) s

/-! ### PRINT_CANCEL (R173) -/

def closingCode : Closing → Nat
  | .none => 0
  | .cancel => 1
  | .yield => 2

/-- The job of a number, and whether it is the head job. -/
def findJob (n : Nat) (s : State) : Option (Job × Bool) :=
  (s.comp.queue.find? fun j => j.number == n).map fun j => (j, (headJob s).map Job.number == some n)

/-- PRINT_CANCEL (R173). -/
def execPrintCancel (p : Port) (s : State) : Host.Outcome State Fault Refusal :=
  .next <| takeRequest p .printCancel (fun body s =>
    match body with
    | [n] =>
      match findJob n.toNat s with
      | none => respond p .printCancel .noSuchJob [] s
      | some (j, isHead) =>
        if j.closing ≠ .none then respond p .printCancel .wrongState [word (closingCode j.closing)] s
        else if isHead then respond p .printCancel .ok [] (closeHead .cancel s)
        else respond p .printCancel .ok [] (queuedLeaves j.number .cancelled s)
    | _ => respond p .printCancel .badRequest [] s) s

/-! ### PRINT_LIST (R177) -/

def positionWords : Position → List Word
  | .header => [0]
  | .record n => 1 :: words32 n
  | .footer => [2]
  | .closing => [3]

def stallCode : StallReason → Nat
  | .noPrinter => 0
  | .paperOut => 1
  | .coverOpen => 2

def sectionsCode (c : Sections) : Nat :=
  bit c.events + 2 * bit c.intervals + 4 * bit c.notes + 8 * bit c.settings + 16 * bit c.marks

def portNumber : Port → Nat
  | .a => 0
  | .b => 1

def endCode : JobEnd → Nat
  | .done => 0
  | .cancelled => 1
  | .yielded => 2

/-- The stall reason of a job that has one (R154). -/
def jobReason (j : Job) (s : State) : Option StallReason :=
  if j.state = .stalled ∨ j.state = .suspended then s.line.reason else none

/-- One job of the listing; its first word says whether the hold (bit 0) and the stall reason (bit 1) are there
(notes/assumptions/11). -/
def jobWords (s : State) (j : Job) : List Word :=
  let reason := jobReason j s
  [word (bit j.hold.isSome + 2 * bit reason.isSome), word j.number, word (portNumber j.port), word (jobStateCode j.state),
   word (closingCode j.closing)]
    ++ words32 j.first ++ words32 j.last ++ words32 j.missing
    ++ [word (sectionsCode j.sections), word (bit j.full), word j.copies, word j.current]
    ++ positionWords j.position ++ optional32 j.hold ++ words32 j.printed
    ++ (reason.map fun r => [word (stallCode r)]).getD []

/-- One entry of the end list; its first word says whether the position is there. -/
def endWords (e : EndEntry) : List Word :=
  [word (bit e.position.isSome), word e.number, word e.surveyNumber, word (portNumber e.port), word (endCode e.ending)]
    ++ words32 e.first ++ words32 e.last ++ words32 e.missing ++ [word e.copies, word e.completed]
    ++ (e.position.map positionWords).getD []

/-- The body of a PRINT_LIST response (R177). -/
def listBody (s : State) : List Word :=
  words32 s.comp.lastPrinted ++ [word s.comp.lastJob, word s.comp.queue.length] ++ s.comp.queue.flatMap (jobWords s)
    ++ [word s.comp.endList.length] ++ s.comp.endList.flatMap endWords

/-- PRINT_LIST (R177). -/
def execPrintList (p : Port) (s : State) : Host.Outcome State Fault Refusal :=
  .next <| takeRequest p .printList (fun body s =>
    if body ≠ [] then respond p .printList .badRequest [] s else respond p .printList .ok (listBody s) s) s

end Sys2Proof.Machine
end

