-- ==== Sys2Proof/Machine/PrinterLine.lean ====
section
/-! DEFINITION. The Printer Line Controller: starts, stalls, polls, suspension and resumption, the byte line in both directions, and
PRINT_RESUME (R181 to R193). -/

namespace Sys2Proof.Machine

open Sys2Proof

def modLine (f : LineUnit → LineUnit) (s : State) : State := s.setLine (f s.line)

/-! ### INQUIRE (R183, R188, R190) -/

/-- INQUIRE is placed in the emptied FIFO, and moves on when it may. -/
def placeInquire (l : LineUnit) : LineUnit := pump { l with fifo := [inquireByte] }

/-- A poll, when printer-ready is ACTIVE (R190). -/
def poll (l : LineUnit) : LineUnit :=
  if l.ready then { placeInquire l with poll := some Config.pollMs } else l

/-! ### Stalls (R185, R186, R189, R190) -/

/-- The line enters STALLED: the FIFO is flushed, the stall timer starts, and a poll is made (R185, R189, R190). -/
def stallLine (reason : StallReason) (l : LineUnit) : LineUnit :=
  poll { l with
    state := .stalled, fifo := [], outstanding := false, reason := some reason, inquiry := none, poll := none
    stall := some (l.stallTimeout * 1000) }

/-- The head job stalls with the line: what it was composing is flushed, and a start it waited for is not made (R158, R185,
notes/assumptions/21). -/
def enterStalled (reason : StallReason) (s : State) : State :=
  setHeadState .stalled
    (modLine (stallLine reason) (s.setComp { s.comp with buffer := [], todo := [], asked := false }))

/-- PAPER_OUT when that flag is set, COVER_OPEN otherwise (R185, R189). -/
def stallReasonOf (h : HeldStatus) : StallReason := if h.paperOut then .paperOut else .coverOpen

/-- The printer cannot print (R185, R189, R190). -/
def outOfService (h : HeldStatus) : Bool := h.paperOut || h.coverOpen

/-! ### Starts (R188, R189) -/

/-- The start of a job, a copy or a resumption (R188). -/
def beginStart (s : State) : State :=
  if s.line.ready then
    modLine (fun l => placeInquire { l with state := .inquiring, inquiry := some Config.inquiryMs }) s
  else enterStalled .noPrinter s

/-- The start succeeds: the line is SENDING and the composer begins; a suspended job is PRINTING again (R158, R189). -/
def startSucceeds (s : State) : State :=
  let s1 := modLine (fun l => { l with state := .sending, inquiry := none, reason := none }) s
  match headJob s with
  | none => s1
  | some j =>
    if j.state = .printing then beginPrinting true s1 else beginPrinting false (setHeadState .printing s1)

/-- The stall clears: the line is SENDING and the job PRINTING again (R190). -/
def clearStall (s : State) : State :=
  beginPrinting false (setHeadState .printing
    (modLine (fun l => { l with state := .sending, fifo := [], stall := none, poll := none, reason := none }) s))

/-- START_REQUEST (R188): taken in IDLE, or in SENDING after a copy's transmission complete. -/
def execStartRequest (s : State) : Host.Outcome State Fault Refusal :=
  .next <|
    if s.comp.asked && !s.line.leaving && (s.line.state == .idle || s.line.state == .sending) then
      beginStart (s.setComp { s.comp with asked := false })
    else s

/-! ### Received bytes (R184, R185, R187) -/

/-- The five flags of a status byte (R184). -/
def statusOf (b : Byte) : HeldStatus := ⟨b.getLsbD 0, b.getLsbD 1, b.getLsbD 2, b.getLsbD 3, b.getLsbD 4⟩

/-- One of the flags that raise PRINTER differs; BUFFER_FULL does not (R185). -/
def statusDiffers (a b : HeldStatus) : Bool :=
  a.paperLow != b.paperLow || a.paperOut != b.paperOut || a.coverOpen != b.coverOpen || a.headHot != b.headHot

/-- What a status byte does by line state (R185, R187, R189, R190); a line that only waits for a byte to end before it is IDLE
serves no job (R193). -/
def answerStatus (s : State) : State :=
  let h := s.line.held
  if s.line.leaving then s else
  match s.line.state with
  | .inquiring => if outOfService h then enterStalled (stallReasonOf h) s else startSucceeds s
  | .sending => if outOfService h then enterStalled (stallReasonOf h) s else modLine pump s
  | .stalled => if s.line.ready && !outOfService h then clearStall s else s
  | _ => s

/-- STATUS_BYTE (R185): the byte in the receive holding is taken. -/
def execStatusByte (s : State) : Host.Outcome State Fault Refusal :=
  .next <|
    match s.line.holding with
    | some b =>
      let h := statusOf b
      let s1 := modLine (fun l => { l with holding := none, held := h }) s
      answerStatus (if statusDiffers s.line.held h then raiseBoth .printer s1 else s1)
    | none => s

/-- The number of one bits of a byte. -/
def ones (b : Byte) : Nat := ((List.range 8).filter fun i => b.getLsbD i).length

/-- The parity bit does not make the number of ones even (R184). -/
def parityWrong (b : Byte) (parityBit : Bool) : Bool := (ones b + bit parityBit) % 2 == 1

def countFraming (u : PortUnit) : PortUnit := { u with framing := satInc Config.max16 u.framing }
def countParity (u : PortUnit) : PortUnit := { u with parity := satInc Config.max16 u.parity }
def countOverrun (u : PortUnit) : PortUnit := { u with overrun := satInc Config.max16 u.overrun }

/-- The PARITY a byte's reception began with: the one in force, or the one replaced since when the byte began before a change
(R179; PARITY has two values, so a change replaces the other). -/
def receptionParity (begunBefore : Bool) (l : LineUnit) : Bool :=
  if begunBefore && l.parityChanged then !l.evenParity else l.evenParity

/-- A byte that has been received is judged, counted or held (R184). DESIGN CHOICE: a byte with a framing or parity error is
counted as that error alone, also when the holding is still full (notes/assumptions/48). -/
def judgeByte (even : Bool) (data : Byte) (parityBit stopBit : Bool) (s : State) : State :=
  if !stopBit then s.bothPorts countFraming
  else if even && parityWrong data parityBit then s.bothPorts countParity
  else if s.line.holding.isSome then s.bothPorts countOverrun
  else modLine (fun l => { l with holding := some data }) s

/-- BYTE_RECEIVED (R179, R184). DESIGN CHOICE: the command at a reception's end says whether it began before a change of PARITY
(notes/assumptions/23); bytes follow one another on the line, so the next begins under the PARITY now in force or one set after. -/
def execByteReceived (data : Byte) (parityBit : Bool) (reception : Reception) (s : State) : Host.Outcome State Fault Refusal :=
  .next <|
    judgeByte (receptionParity reception.begunBefore s.line) data parityBit reception.stopBit
      (modLine (fun l => { l with parityChanged := false }) s)

/-! ### Sending (R181, R182) -/

/-- CLEAR_TO_SEND_CHANGE (R181). -/
def execClearToSendChange (asserted : Bool) (s : State) : Host.Outcome State Fault Refusal :=
  .next (if s.line.cts = asserted then s else modLine (fun l => pump { l with cts := asserted }) s)

/-- The line has nothing left to send (R182). -/
def allSent (l : LineUnit) : Bool := l.fifo.isEmpty && l.shift.isNone

/-- Transmission complete is reported when composer bytes were outstanding in SENDING (R182). -/
def reportComplete (s : State) : State :=
  if allSent s.line && s.line.outstanding && s.line.state == .sending then
    composerComplete (modLine (fun l => { l with outstanding := false }) s)
  else s

/-- The shift register is empty: the line becomes IDLE if its job has left (R193), a break that waited for the byte begins (R191),
or the next byte moves in (R181). -/
def afterByte (l : LineUnit) : LineUnit :=
  let l1 := { l with shift := none }
  if l.state = .brk then { l1 with brk := some (l.brk.getD Config.breakMs) }
  else if l.leaving then { l1 with state := .idle, leaving := false }
  else pump l1

/-- SHIFT_REGISTER_BYTE_END (R181, R182). -/
def execShiftRegisterByteEnd (s : State) : Host.Outcome State Fault Refusal :=
  .next (if s.line.shift.isSome then reportComplete (modLine afterByte s) else s)

/-! ### Printer-ready (R186) -/

/-- What a loss of printer-ready does by line state; nothing more when the line's job has left (R193). -/
def readyLost (s : State) : State :=
  if s.line.leaving then s else
  match s.line.state with
  | .sending => enterStalled .noPrinter s
  | .inquiring => enterStalled .noPrinter s
  | .stalled => modLine (fun l => { l with poll := none }) s
  | _ => s

/-- PRINTER_READY_CHANGE (R186). -/
def execPrinterReadyChange (active : Bool) (s : State) : Host.Outcome State Fault Refusal :=
  .next <|
    if s.line.ready = active then s
    else
      let s1 := raiseBoth .printer (modLine (fun l => { l with ready := active }) s)
      if active then (if s1.line.state = .stalled ∧ s1.line.leaving = false then modLine poll s1 else s1) else readyLost s1

/-! ### Timers (R189 to R191) -/

/-- INQUIRY_TIMER_EXPIRY (R189). -/
def execInquiryTimerExpiry (s : State) : Host.Outcome State Fault Refusal :=
  .next (if s.line.inquiry = some 0 ∧ s.line.state = .inquiring then enterStalled .noPrinter s else s)

/-- POLL_TIMER_EXPIRY (R190). -/
def execPollTimerExpiry (s : State) : Host.Outcome State Fault Refusal :=
  .next (if s.line.poll = some 0 ∧ s.line.state = .stalled then modLine (fun l => poll { l with poll := none }) s else s)

/-- The stall timer runs out: the job is SUSPENDED, or leaves with its closing pending (R176, R191). -/
def suspend (s : State) : State :=
  match headJob s with
  | none => s
  | some j =>
    if j.closing ≠ .none then headLeaves (closingEnd j.closing) s
    else
      setHeadState .suspended
        (modLine (fun l => { l with state := .suspended, fifo := [], stall := none, poll := none }) s)

/-- STALL_TIMER_EXPIRY (R191). -/
def execStallTimerExpiry (s : State) : Host.Outcome State Fault Refusal :=
  .next (if s.line.stall = some 0 ∧ s.line.state = .stalled then suspend s else s)

/-- BREAK_TIMER_EXPIRY (R191, R193). -/
def execBreakTimerExpiry (s : State) : Host.Outcome State Fault Refusal :=
  .next <|
    if s.line.brk = some 0 ∧ s.line.state = .brk then
      let s1 := modLine (fun l => { l with brk := none }) s
      if s.line.leaving then modLine (fun l => { l with state := .idle, leaving := false }) s1 else beginStart s1
    else s

/-! ### PRINT_RESUME (R191, R192) -/

/-- The break begins: at once, or at the end of the byte in the shift register (R191). -/
def beginBreak (l : LineUnit) : LineUnit :=
  { l with state := .brk, brk := if l.shift.isSome then none else some Config.breakMs }

/-- PRINT_RESUME (R192). -/
def execPrintResume (p : Port) (s : State) : Host.Outcome State Fault Refusal :=
  .next <| takeRequest p .printResume (fun body s =>
    match body with
    | [n] =>
      match findJob n.toNat s with
      | none => respond p .printResume .noSuchJob [] s
      | some (j, isHead) =>
        if isHead && j.state == .suspended && s.line.state == .suspended then
          respond p .printResume .ok [] (modLine beginBreak s)
        else respond p .printResume .wrongState [] s
    | _ => respond p .printResume .badRequest [] s) s

end Sys2Proof.Machine
end

