-- ==== Sys2Proof/Machine/HalfCycle.lean ====
section
/-! DEFINITION. The Half-Cycle Unit: the window, residuals, half-cycle values, bands, occupancy, LIVE and COUNTERS (R65 to R80). -/

namespace Sys2Proof.Machine

open Sys2Proof

def State.setHcu (s : State) (h : HalfCycleUnit) : State := { s with hcu := h }

/-! ### The window (R65) -/

def square (x : Int) : Nat := x.natAbs * x.natAbs

/-- The full-scale age after a sample x (R65). -/
def ageAfter (x : Int) (age : Option Nat) : Option Nat :=
  if x.natAbs = 32767 then some 0
  else
    match age with
    | some a => if a + 1 < Config.windowSize then some (a + 1) else none
    | none => none

/-- The channels of a sample set that the window keeps. -/
def voltages (x : Eight Int) : Four Int := ⟨x.c0, x.c1, x.c2, x.c3⟩

/-- The oldest sample leaves a full window. -/
def dropOldest (h : HalfCycleUnit) : HalfCycleUnit :=
  if h.window.length < Config.windowSize then h
  else
    match h.window with
    | o :: rest =>
      { h with
        window := rest
        sums := .zip (fun s x => s - square x) h.sums o.c
        testCount := if o.test then h.testCount - 1 else h.testCount }
    | [] => h

/-- A new sample joins the window. -/
def addNewest (x : SampleSet) (h : HalfCycleUnit) : HalfCycleUnit :=
  let v := voltages x.samples
  { h with
    window := h.window ++ [⟨v, x.test⟩]
    sums := .zip (fun s x => s + square x) h.sums v
    ages := .zip ageAfter v h.ages
    testCount := if x.test then h.testCount + 1 else h.testCount }

/-- Samples since the last value after a sample set, and whether it is a boundary (R67); h is the unit before the set. -/
def sinceAfter (h : HalfCycleUnit) : Nat × Bool :=
  if h.window.length < Config.windowSize then (0, h.window.length + 1 == Config.windowSize)
  else if h.since + 1 < Config.halfCycle then (h.since + 1, false)
  else (0, true)

/-- The window and the boundary count after a sample set. -/
def takeSamples (x : SampleSet) (h : HalfCycleUnit) : HalfCycleUnit :=
  { addNewest x (dropOldest h) with since := (sinceAfter h).1 }

/-! ### Residuals (R68 to R70) -/

/-- The raw residual of a sum of squares at declared level d (R68 steps 2 to 4). -/
def rawResidual (sum d : Nat) : Nat := isqrt (sum / 256) * 1000 / d

/-- What a value carries for a channel: admitted when its probe is present and of a voltage kind (R68 to R71). -/
def channelValue (h : HalfCycleUnit) (k : KitUnit) (c : Nat) : Option ChanValue :=
  let e := k.entries.get c
  if k.present.get c ∧ e.kind = .voltageLead then
    let raw := rawResidual (h.sums.get c) (e.level.getD 1000)
    some ⟨min 1999 raw, (h.ages.get c).isSome, decide (2000 ≤ raw), e.inDetector⟩
  else none

/-! ### Bands (R72) -/

/-- The band of a residual: the number of edges not above it, the edges being ascending. -/
def bandOf (edges : List Nat) (r : Nat) : Nat := (edges.filter fun e => e ≤ r).length

/-! ### Counting (R73, R74, R76) -/

/-- A counter of a band rises by one. -/
def riseBand (b : Nat) (l : List Nat) : List Nat := modNth (satInc Config.max32) b l

/-- One channel's residency and entry counts and previous band (R73, R74). -/
def countChannel (edges : List Nat) (c : Nat) (v : Option ChanValue) (h : HalfCycleUnit) : HalfCycleUnit :=
  match v with
  | none => { h with prevBand := h.prevBand.set c none }
  | some x =>
    let b := bandOf edges x.residual
    { h with
      bandCounts := h.bandCounts.set c (riseBand b (h.bandCounts.get c))
      entryCounts :=
        if h.prevBand.get c = some b then h.entryCounts
        else h.entryCounts.set c (riseBand b (h.entryCounts.get c))
      prevBand := h.prevBand.set c (some b) }

/-- The channel lies below the dip threshold and counts for occupancy (R76). -/
def belowDip (dip : Nat) (v : Option ChanValue) : Bool :=
  match v with
  | some x => x.inDetector && decide (x.residual < dip)
  | none => false

def occupancyOf (v : HalfValue) : Nat := (v.chans.toList.filter (belowDip v.dip)).length

/-- The counter of an occupancy set that rises (R76). -/
def riseOccupancy (n : Nat) (o : Occupancy) : Occupancy :=
  match n with
  | 0 => o
  | 1 => { o with one := satInc Config.max32 o.one }
  | 2 => { o with two := satInc Config.max32 o.two }
  | _ => { o with threePlus := satInc Config.max32 o.threePlus }

/-- A value is counted in RUNNING with no stop pending; otherwise every previous band becomes none (R73, R74, R76). -/
def countValue (running : Bool) (v : HalfValue) (h : HalfCycleUnit) : HalfCycleUnit :=
  if running then
    let h1 := (List.range 4).foldl (fun h c => countChannel h.edges c (v.chans.get c) h) h
    { h1 with
      surveyOcc := riseOccupancy (occupancyOf v) h1.surveyOcc
      intervalOcc := riseOccupancy (occupancyOf v) h1.intervalOcc }
  else { h with prevBand := .all none }

/-! ### Values (R67, R71) -/

/-- The half-cycle number a boundary's value carries. -/
def nextHalfNo (running : Bool) (h : HalfCycleUnit) : Nat :=
  if running then satInc Config.max32 h.halfNo else h.halfNo

/-- The half-cycle value formed at a boundary. -/
def formValue (s : State) : HalfValue :=
  let h := s.hcu
  { number := nextHalfNo s.running h
    test := h.testCount != 0
    chans := .ofFn (channelValue h s.kit)
    dip := s.det.dip }

/-- A boundary: the value is formed, counted, kept as the latest, and handed to the detector (R67 to R76). -/
def takeBoundary (era : Nat) (s : State) : State :=
  let v := formValue s
  let h := { countValue s.running v s.hcu with latest := some v, halfNo := v.number }
  { s with hcu := h, flight := { s.flight with values := s.flight.values ++ [⟨v, era⟩] } }

/-- The unit takes a sample set (R65, R67). -/
def takeSet (x : SampleSet) (s : State) : State :=
  let boundary := (sinceAfter s.hcu).2
  let s1 := s.setHcu (takeSamples x s.hcu)
  if boundary then takeBoundary x.era s1 else s1

/-- SAMPLE_SET (R65). -/
def execSampleSet (s : State) : Host.Outcome State Fault Refusal :=
  .next <|
    match s.flight.hcuIn with
    | .set x :: rest => takeSet x { s with flight := { s.flight with hcuIn := rest } }
    | _ => s

/-- HALF_CYCLE_BOUNDARY (R67): the sample set that is a boundary. -/
def execHalfCycleBoundary (s : State) : Host.Outcome State Fault Refusal :=
  .next <|
    match s.flight.hcuIn with
    | .set x :: rest =>
      if (sinceAfter s.hcu).2 then takeSet x { s with flight := { s.flight with hcuIn := rest } } else s
    | _ => s

/-- The unit after a source loss notice (R66). -/
def loseSource (h : HalfCycleUnit) : HalfCycleUnit :=
  { h with
    window := [], since := 0, sums := .all 0, ages := .all none, testCount := 0, latest := none
    prevBand := .all none }

/-- HCU_SOURCE_LOSS_NOTICE (R66). -/
def execHcuSourceLossNotice (s : State) : Host.Outcome State Fault Refusal :=
  .next <|
    match s.flight.hcuIn with
    | .loss :: rest => { s with hcu := loseSource s.hcu, flight := { s.flight with hcuIn := rest } }
    | _ => s

/-! ### BAND_EDGES (R72, R75) -/

/-- Seven edges from 1 to 1999, each above the one before. -/
def edgesValid (l : List Nat) : Bool :=
  l.length == 7 && l.all (fun e => decide (1 ≤ e) && decide (e ≤ 1999)) && (l.zip (l.drop 1)).all fun x => decide (x.1 < x.2)

/-- A previous band that is not none is found again for the latest residual (R75 step 2). -/
def refindBand (edges : List Nat) (latest : Option HalfValue) (c : Nat) (prev : Option Nat) : Option Nat :=
  match prev, latest with
  | some _, some v => (v.chans.get c).map fun x => bandOf edges x.residual
  | _, _ => none

/-- A change of the edges; in RUNNING or STOPPED it sets the flag and finds the previous bands again (R75). -/
def changeEdges (inSurvey : Bool) (edges : List Nat) (h : HalfCycleUnit) : HalfCycleUnit :=
  if inSurvey ∧ edges ≠ h.edges then
    { h with
      edges := edges, edgesChanged := true
      prevBand := .ofFn fun c => refindBand edges h.latest c (h.prevBand.get c) }
  else { h with edges := edges }

/-! ### LIVE and COUNTERS (R78, R79) -/

/-- One channel of a LIVE response. -/
def liveChannel (edges : List Nat) (v : Option ChanValue) : List Word :=
  match v with
  | none => [0]
  | some x =>
    [1, word x.residual, word (bit x.clipped), word (bit x.capped), word (bit x.inDetector), word (bandOf edges x.residual)]

/-- The body of a LIVE response (R78; its words are notes/assumptions/11). DEDUCED: between the receiver's leaving LOCKED and the
unit's taking of the source loss notice, the window fill and the latest value are still the old ones (notes/assumptions/39). -/
def liveBody (s : State) : List Word :=
  [word (linkCode s.link.state), word s.hcu.window.length, word (bit s.hcu.latest.isSome)]
    ++ match s.hcu.latest with
      | none => []
      | some v => words32 v.number ++ [word (bit v.test)] ++ v.chans.toList.flatMap (liveChannel s.hcu.edges)

/-- LIVE (R78). -/
def execLive (p : Port) (s : State) : Host.Outcome State Fault Refusal :=
  .next <| takeRequest p .live (fun body s =>
    if body ≠ [] then respond p .live .badRequest [] s else respond p .live .ok (liveBody s) s) s

def occupancyWords (o : Occupancy) : List Word := words32 o.one ++ words32 o.two ++ words32 o.threePlus

/-- The body of a COUNTERS response (R79; its words are notes/assumptions/11). -/
def countersBody (s : State) : List Word :=
  let h := s.hcu
  [word s.survey.number] ++ words32 h.halfNo ++ h.edges.map word ++ [word (bit h.edgesChanged)]
    ++ ((List.range 4).flatMap fun c => (h.bandCounts.get c).flatMap words32 ++ (h.entryCounts.get c).flatMap words32)
    ++ occupancyWords h.surveyOcc ++ occupancyWords h.intervalOcc

/-- COUNTERS (R79). -/
def execCounters (p : Port) (s : State) : Host.Outcome State Fault Refusal :=
  .next <| takeRequest p .counters (fun body s =>
    if body ≠ [] then respond p .counters .badRequest [] s else respond p .counters .ok (countersBody s) s) s

end Sys2Proof.Machine
end

