-- ==== Sys2Proof/Machine/Harmonics.lean ====
section
/-! DEFINITION. The Harmonic Interval Aggregator: window frames, continuity, aggregation, exceedance, and the close of an interval
(R109 to R128). -/

namespace Sys2Proof.Machine

open Sys2Proof

def State.setAgg (s : State) (a : AggregatorUnit) : State := { s with agg := a }

/-! ### Close (R122 to R126) -/

/-- Why an interval closes (R122): its windows are over, a setting changed, or the survey stops. -/
inductive CloseCause where
  | complete
  | split
  | partialStop
deriving DecidableEq, Repr

/-- Interval N of the current interval. -/
def currentLength (a : AggregatorUnit) : Nat := a.curN.getD a.length

/-- The last window accounted at a close (R122). -/
def lastAccounted (cause : CloseCause) (k : Nat) (a : AggregatorUnit) : Nat :=
  match cause with
  | .complete => k * currentLength a + currentLength a - 1
  | _ => a.highest.getD 0

/-- The aggregated magnitudes of a channel: the root of the mean of its squares, for orders 1 to Hk (R123). -/
def channelMagnitudes (a : AggregatorUnit) (c : Nat) : Option (List Nat) :=
  if a.mask.getLsbD c ∧ a.nc.get c ≠ 0 then
    some (((a.sums.get c).take a.kept).map fun sum => isqrt (sum / a.nc.get c))
  else none

/-- THD of a voltage channel's aggregated magnitudes (R124). -/
def thdOf (m : Option (List Nat)) : Option Nat :=
  match m with
  | some (f :: rest) =>
    if f = 0 then none else some (min 9999 (1000 * isqrt ((rest.map fun x => x * x).sum) / f))
  | _ => none

/-- Every exceedance entry above 0, by channel, then by order (R125). -/
def exceedEntries (a : AggregatorUnit) : List Exceedance :=
  (List.range 4).flatMap fun c =>
    ((List.range (a.kept - 1)).map fun i => Exceedance.mk c (i + 2) ((a.exceed.get c).getD i 0)).filter fun e =>
      e.count != 0

/-- The body of the INTERVAL record of interval k (R126). -/
def intervalBody (cause : CloseCause) (k : Nat) (s : State) : IntervalBody :=
  let a := s.agg
  let entries := exceedEntries a
  let magnitudes := Eight.ofFn (channelMagnitudes a)
  let first := a.first.getD 0
  { number := k
    length := currentLength a
    first := first
    last := lastAccounted cause k a
    aggregated := a.aggregated
    excluded := a.excluded
    missing := a.missing
    unpowered := a.unpowered
    occupancy := s.hcu.intervalOcc
    closeMs := s.survey.clock
    kept := a.kept
    mask := a.mask
    magnitudes := magnitudes
    thd := .ofFn fun c => thdOf (magnitudes.get c)
    exceedTotal := (entries.map Exceedance.count).sum
    exceed := entries.take 32
    flags :=
      { flagged := a.eventSeen
        partialClose := cause == .partialStop
        split := cause == .split || decide (k * currentLength a < first)
        calOverdue := (List.range 8).any fun c => a.mask.getLsbD c && overdue s c
        test := a.testSeen
        more := decide (32 < entries.length) } }

/-- Interval k closes (R122): the interval occupancy is read and zeroed, the record is appended or dropped, the figures return to
their initial values (R128). -/
def closeInterval (cause : CloseCause) (k : Nat) (s : State) : State :=
  let body := intervalBody cause k s
  let s1 := { s with hcu := { s.hcu with intervalOcc := zeroOccupancy } }
  let s2 := (hardwareAppend (.interval body) s.agg.testSeen s1).1
  s2.setAgg (clearInterval s2.agg.highest s2.agg)

/-- The current interval, if any, closes. -/
def closeCurrent (cause : CloseCause) (s : State) : State :=
  match s.agg.current with
  | some k => closeInterval cause k s
  | none => s

/-! ### The interval of a frame (R112) -/

/-- The window after the highest one taken, or the given one when none has been taken. -/
def nextWindow (a : AggregatorUnit) (dflt : Nat) : Nat := (a.highest.map fun h => h + 1).getD dflt

/-- Windows up to i - 1 are counted missing in the current interval. -/
def countMissing (n : Nat) (a : AggregatorUnit) : AggregatorUnit := { a with missing := a.missing + n }

/-- Interval k becomes current at the frame of window i; the windows counted missing are added (R112). -/
def beginInterval (k i : Nat) (s : State) : State × Nat :=
  let a := s.agg
  let first := max (k * a.length) (nextWindow a (k * a.length))
  (s.setAgg (countMissing (i - first) { a with current := some k, curN := some a.length, first := some first }), i - first)

/-- The interval of window i is settled: the state, the windows counted missing, and whether an interval closed (R112). -/
def settleInterval (i : Nat) (s : State) : State × Nat × Bool :=
  let a := s.agg
  let k := i / a.length
  match a.current with
  | none =>
    let (s1, m) := beginInterval k i s
    (s1, m, false)
  | some c =>
    if c = k then
      let m := i - nextWindow a i
      (s.setAgg (countMissing m a), m, false)
    else
      let m := lastAccounted .complete c a + 1 - nextWindow a (lastAccounted .complete c a + 1)
      let (s1, m1) := beginInterval k i (closeInterval .complete c (s.setAgg (countMissing m a)))
      (s1, m + m1, true)

/-! ### A window (R117 to R121) -/

/-- A frame's magnitude of channel c and order h: 0 above the orders it carries. -/
def magnitude (v : FrameValues) (c h : Nat) : Nat :=
  if h ≤ v.orders then
    v.magnitudes.getD (((maskChannels v.mask).filter fun d => d < c).length * v.orders + (h - 1)) 0
  else 0

/-- The channel is unpowered for this window (R119). -/
def frameUnpowered (k : KitUnit) (v : FrameValues) (a : AggregatorUnit) (c : Nat) : Bool :=
  v.mask.getLsbD c && a.mask.getLsbD c && unpoweredChannel k c

/-- The channel is aggregated in this window (R120). -/
def frameAggregates (k : KitUnit) (v : FrameValues) (a : AggregatorUnit) (c : Nat) : Bool :=
  v.mask.getLsbD c && a.mask.getLsbD c && !unpoweredChannel k c

/-- The sums of squares of a channel after a window, for orders 1 to Hk (R120). -/
def addSquares (v : FrameValues) (kept c : Nat) (sums : List Nat) : List Nat :=
  sums.mapIdx fun i sum => if i < kept then sum + magnitude v c (i + 1) * magnitude v c (i + 1) else sum

/-- The window exceeds the limit of channel c and order h (R121). -/
def exceeds (v : FrameValues) (limit c h : Nat) : Bool :=
  limit != 0 && magnitude v c 1 != 0 && decide (limit * magnitude v c 1 < 1000 * magnitude v c h)

/-- The exceedance counts of a voltage channel after a window (R121). -/
def addExceed (v : FrameValues) (a : AggregatorUnit) (c : Nat) (counts : List Nat) : List Nat :=
  counts.mapIdx fun i n =>
    if v.mask.getLsbD c ∧ i + 2 ≤ a.kept ∧ exceeds v (a.limits.getD i 0) c (i + 2) then n + 1 else n

/-- An aggregated window (R117 step 4, R119 to R121). -/
def aggregate (k : KitUnit) (v : FrameValues) (a : AggregatorUnit) : AggregatorUnit :=
  { a with
    aggregated := a.aggregated + 1
    unpowered := a.unpowered ||| maskOf (frameUnpowered k v a)
    sums := .ofFn fun c => if frameAggregates k v a c then addSquares v a.kept c (a.sums.get c) else a.sums.get c
    nc := .ofFn fun c => if frameAggregates k v a c then a.nc.get c + 1 else a.nc.get c
    exceed := .ofFn fun c => addExceed v a c (a.exceed.get c) }

/-- A detector context is OPEN or CLOSING. -/
def eventInProgress (s : State) : Bool := s.det.low.state != .idle || s.det.high.state != .idle

/-- The frame is taken as a window of the current interval, and whether it was excluded (R117). -/
def takeWindow (v : FrameValues) (s : State) : State × Bool :=
  let a := { s.agg with
    testSeen := s.agg.testSeen || s.gen.running
    eventSeen := s.agg.eventSeen || eventInProgress s
    highest := some v.index }
  if a.exclude && eventInProgress s then (s.setAgg { a with excluded := a.excluded + 1 }, true)
  else (s.setAgg (aggregate s.kit v a), false)

/-- The frame is the last window of the current interval (R113). -/
def lastOfInterval (i : Nat) (a : AggregatorUnit) : Bool :=
  match a.current with
  | some k => i == lastAccounted .complete k a
  | none => false

/-- A taken frame: the state, its interval number, whether it was excluded, the missing windows, and whether an interval closed
(R112, R113, R117). -/
def takeFrame (v : FrameValues) (s : State) : State × Nat × Bool × Nat × Bool :=
  let k := v.index / s.agg.length
  let (s1, missing, closed) := settleInterval v.index s
  let (s2, excluded) := takeWindow v s1
  if lastOfInterval v.index s2.agg then (closeInterval .complete k s2, k, excluded, missing, true)
  else (s2, k, excluded, missing, closed)

/-- The window index is above the highest taken (R109). -/
def freshWindow (i : Nat) (a : AggregatorUnit) : Bool :=
  match a.highest with
  | some h => decide (h < i)
  | none => true

/-- POST_FRAME (R109; the response's words are notes/assumptions/11). -/
def execPostFrame (p : Port) (s : State) : Host.Outcome State Fault Refusal :=
  .next <| takeRequest p .postFrame (fun body s =>
    match readFrame body with
    | none => respond p .postFrame .badRequest [] s
    | some v =>
      if !s.running then respond p .postFrame .noSurvey [] s
      else if v.orders < 1 ∨ 50 < v.orders ∨ v.mask = 0 then respond p .postFrame .badValue [] s
      else if !freshWindow v.index s.agg then respond p .postFrame .staleWindow (words32 (s.agg.highest.getD 0)) s
      else
        let (s1, k, excluded, missing, closed) := takeFrame v s
        respond p .postFrame .ok (words32 k ++ [word (bit excluded), word missing, word (bit closed)]) s1) s

/-! ### Notices (R118, R127) -/

/-- EVENT_OPENING_NOTICE (R118). -/
def execEventOpeningNotice (s : State) : Host.Outcome State Fault Refusal :=
  .next <|
    match s.flight.openings with
    | _ :: rest =>
      { s with
        agg := if s.agg.current.isSome then { s.agg with eventSeen := true } else s.agg
        flight := { s.flight with openings := rest } }
    | [] => s

/-- STOP_NOTICE_AGGREGATOR (R127). -/
def execStopNoticeAggregator (s : State) : Host.Outcome State Fault Refusal :=
  .next <|
    if s.flight.stopNotices.aggregator then
      finishBlock leaveAggregator
        (closeCurrent .partialStop
          { s with flight := { s.flight with stopNotices := leaveAggregator s.flight.stopNotices } })
    else s

end Sys2Proof.Machine
end

