-- ==== Sys2Proof/Machine/Kit.lean ====
section
/-! DEFINITION. The Kit Line Unit: probe entries, sense lines and presence, the probe supply and its fault (R129 to R139). -/

namespace Sys2Proof.Machine

open Sys2Proof

def State.setKit (s : State) (k : KitUnit) : State := { s with kit := k }

/-! ### Probe entries (R129, R130) -/

/-- The kinds allowed on a channel (R129). -/
def kindAllowed (c : Nat) : ProbeKind → Bool
  | .none => true
  | .voltageLead => decide (c < 4)
  | .clamp => decide (4 ≤ c)
  | .flex => decide (4 ≤ c)

/-- The owner's check of PROBE_SET (R130): the entry stored and whether the level was clamped; none for BAD_VALUE. -/
def checkEntry (v : ProbeValues) : Option (ProbeEntry × Bool) :=
  match probeKindOfCode v.kind with
  | some kind =>
    if v.channel < 8 ∧ kindAllowed v.channel kind then
      if kind = .voltageLead then
        let d := clampTo 1000 32767 v.level
        some (⟨kind, some d, v.inDetector, v.activeHigh, v.calDue⟩, d != v.level)
      else some (⟨kind, none, false, v.activeHigh, v.calDue⟩, false)
    else none
  | none => none

/-! ### Presence (R132 to R134) -/

/-- The debounce timer after the compared level of a channel may have changed (R132). -/
def retime (c : Nat) (before after : KitUnit) : KitUnit :=
  if comparedLevel before c = comparedLevel after c then after
  else
    let timer := if comparedLevel after c = after.settled.get c then none else some Config.debounceMs
    { after with timers := after.timers.set c timer }

/-- Present follows from the settled level and the kind (R133). -/
def presentNow (k : KitUnit) (c : Nat) : Bool := k.settled.get c && (k.entries.get c).kind != .none

def formPresent (c : Nat) (k : KitUnit) : KitUnit := { k with present := k.present.set c (presentNow k c) }

/-- A probe notice for one of channels 0 to 3 (R131, R134). -/
def sendProbeNotice (c : Nat) (before after : KitUnit) (s : State) : State :=
  if c < 4 then
    { s with flight := { s.flight with
        probeNotices := s.flight.probeNotices ++ [⟨c, kitDetectorChannel before c, kitDetectorChannel after c⟩] } }
  else s

/-- A change of present: PROBE on both ports, and the mark in RUNNING (R134). -/
def announcePresence (c : Nat) (byEntry : Bool) (s : State) : State :=
  let kind := (s.kit.entries.get c).kind
  markInRunning
    (if s.kit.present.get c then .probeIn c kind byEntry (presentMask s.kit)
     else .probeOut c kind byEntry (presentMask s.kit))
    (raiseBoth .probe s)

/-- A settled level has become the compared level (R132, R133). -/
def settleLevel (c : Nat) (k : KitUnit) : KitUnit :=
  formPresent c { k with timers := k.timers.set c none, settled := k.settled.set c (comparedLevel k c) }

/-- The expiry of a channel's debounce timer (R132, R134). -/
def settleChannel (c : Nat) (s : State) : State :=
  let k := settleLevel c s.kit
  let s1 := s.setKit k
  if k.present.get c = s.kit.present.get c then s1 else announcePresence c false (sendProbeNotice c s.kit k s1)

/-- SENSE_LINE_CHANGE (R132). -/
def execSenseLineChange (c : Fin 8) (high : Bool) (s : State) : Host.Outcome State Fault Refusal :=
  .next <|
    if s.kit.sense.get c = high then s
    else s.setKit (retime c s.kit { s.kit with sense := s.kit.sense.set c high })

/-- DEBOUNCE_EXPIRY (R132). -/
def execDebounceExpiry (c : Fin 8) (s : State) : Host.Outcome State Fault Refusal :=
  .next (if s.kit.timers.get c = some 0 then settleChannel c s else s)

/-- The unit with a new entry for a channel: entry, polarity, kind (R131 steps 1 to 3). -/
def placeEntry (c : Nat) (e : ProbeEntry) (k : KitUnit) : KitUnit :=
  formPresent c (retime c k { k with entries := k.entries.set c e })

/-- A PROBE_SET that changes an entry takes effect (R131); an equal entry is no change. -/
def changeEntry (c : Nat) (e : ProbeEntry) (s : State) : State :=
  if s.kit.entries.get c = e then s
  else
    let k := placeEntry c e s.kit
    let s1 := sendProbeNotice c s.kit k (s.setKit k)
    if k.present.get c = s.kit.present.get c then s1 else announcePresence c true s1

/-! ### The probe supply (R136 to R138) -/

/-- A change of the SUPPLY setting (R136). -/
def changeSupply (on : Bool) (s : State) : State := s.setKit (settleSupply { s.kit with supplyOn := on })

/-- FAULT_INPUT_ACTIVE (R137). -/
def execFaultInputActive (s : State) : Host.Outcome State Fault Refusal :=
  .next <|
    if s.kit.faultActive then s
    else
      let s1 := raiseBoth .probe (s.setKit (activateFault s.kit))
      markInRunning (.probeFault s.kit.supplyOn s.kit.faulted (unpoweredMask s1.kit)) s1

/-- FAULT_INPUT_INACTIVE (R137). -/
def execFaultInputInactive (s : State) : Host.Outcome State Fault Refusal :=
  .next (if s.kit.faultActive then s.setKit (settleSupply { s.kit with faultActive := false }) else s)

/-- An accepted restore (R138). -/
def restoreSupply (p : Port) (s : State) : State :=
  let s1 := s.setKit (settleSupply { s.kit with faulted := false })
  markInRunning (.supplyRestored p s1.kit.supplyOn s1.kit.enable) s1

/-- SUPPLY_RESTORE (R138). -/
def execSupplyRestore (p : Port) (s : State) : Host.Outcome State Fault Refusal :=
  .next <| takeRequest p .supplyRestore (fun body s =>
    if body ≠ [] then respond p .supplyRestore .badRequest [] s
    else if s.kit.faultActive then respond p .supplyRestore .supplyFault [] s
    else if !s.kit.faulted then respond p .supplyRestore .wrongState [] s
    else respond p .supplyRestore .ok [] (restoreSupply p s)) s

end Sys2Proof.Machine
end

