-- ==== Sys2Proof/Machine/Settings.lean ====
section
/-! DEFINITION. Settings: SET of each item, PROBE_SET and GET (R12 to R15), with each owner's range, check and effect (R25, R44,
R45, R72, R75, R81, R82, R114 to R116, R130, R131, R136, R179). -/

namespace Sys2Proof.Machine

open Sys2Proof

/-- What an owner answers to a value it accepts: the record's fields, and the change itself with its effects. -/
structure SetChange where
  qualifier : Nat
  clamped : Bool
  old : List Word
  new : List Word
  effect : State → State

/-- The checks of R12 after the body's form, and R13: in a survey the SETTING record is appended and the change made, as one
event; in IDLE the change alone. -/
def applyChange (p : Port) (kind : RequestKind) (item : Item) (change : Option SetChange) (s : State) : State :=
  if s.inSurvey && !belowReserve s then respond p kind .wrongState [] s
  else
    match change with
    | none => respond p kind .badValue [] s
    | some ch =>
      if s.inSurvey then
        match portAppend p (.setting ⟨item, ch.qualifier, ch.clamped, ch.old, ch.new⟩) s with
        | none => respond p kind .journalHeld [] s
        | some s1 => respond p kind (okOr ch.clamped) [] (checkLimit (ch.effect s1))
      else respond p kind (okOr ch.clamped) [] (ch.effect s)

/-- An owner: the value's words that follow the item code, read against the state; none for a body that does not suit the item,
some none for BAD_VALUE. -/
abbrev Owner := List Word → State → Option (Option SetChange)

/-- The item a SET names; PROBE is set by PROBE_SET alone (R12, notes/assumptions/12). DESIGN CHOICE: the item word is the SETTING
record's item code, from 1, not a choice numbered from 0 (R210, R211; notes/assumptions/45). -/
def namedItem (body : List Word) : Option Item :=
  match body with
  | code :: _ =>
    match itemOfCode code.toNat with
    | some .probe => none
    | x => x
  | [] => none

/-- The SET of one item that waits at a port is taken. A SET that names no item is answered BAD_REQUEST; a SET of another item is
another command's (R12, notes/assumptions/12). -/
def takeSetOf (p : Port) (item : Item) (owner : Owner) (s : State) : State :=
  match (s.port p).waiting with
  | some r =>
    if r.kind = .set ∧ (namedItem r.body = some item ∨ namedItem r.body = none) then
      takeRequest p .set (fun body s =>
        match namedItem body with
        | none => respond p .set .badRequest [] s
        | some _ =>
          match owner (body.drop 1) s with
          | none => respond p .set .badRequest [] s
          | some change => applyChange p .set item change s) s
    else s
  | none => s

/-! ### Kinds of value -/

/-- A one-word value that clamps to a range, with a further check of the clamped value (R12). -/
def clampOwner (lo hi : Nat) (get : State → Nat) (ok : Nat → State → Bool) (put : Nat → State → State) : Owner :=
  fun words s =>
    match words with
    | [w] =>
      let v := clampTo lo hi w.toNat
      some (if ok v s then some ⟨0, v != w.toNat, [word (get s)], [word v], put v⟩ else none)
    | _ => none

/-- A value named from a list of two: 0 is the first (true), 1 the second (R210). -/
def namedOwner (get : State → Bool) (put : Bool → State → State) : Owner :=
  fun words s =>
    match words with
    | [w] =>
      some (if w = 0 ∨ w = 1 then some ⟨0, false, [word (bit !(get s))], [w], put (w == 0)⟩ else none)
    | _ => none

def always : Nat → State → Bool := fun _ _ => true

/-! ### The owners -/

def policyIsCapture (j : JournalUnit) : Bool := j.policy == .captureFirst
def policyOf (capture : Bool) : Policy := if capture then .captureFirst else .printFirst

/-- JOURNAL_POLICY: CAPTURE_FIRST 0, PRINT_FIRST 1 (R25). -/
def ownJournalPolicy : Owner :=
  namedOwner (fun s => policyIsCapture s.journal) (fun b s => s.setJournal { s.journal with policy := policyOf b })

/-- A sync word (R44): not all zeros or ones, and unlike the two others in force; a change acts on the receiver (R45). -/
def syncOwner (get : LinkUnit → Word) (others : LinkUnit → List Word) (put : Word → LinkUnit → LinkUnit) : Owner :=
  fun words s =>
    match words with
    | [w] =>
      some (if w ≠ 0 ∧ w ≠ 0xFFFF ∧ w ∉ others s.link then
        some ⟨0, false, [get s.link], [w], fun t =>
          let t1 := t.setLink (put w t.link)
          if w = get t.link then t1 else syncChanged t1⟩
      else none)
    | _ => none

def ownSyncA : Owner := syncOwner LinkUnit.syncA (fun l => [l.syncB, l.syncF]) (fun w l => { l with syncA := w })
def ownSyncB : Owner := syncOwner LinkUnit.syncB (fun l => [l.syncA, l.syncF]) (fun w l => { l with syncB := w })
def ownSyncF : Owner := syncOwner LinkUnit.syncF (fun l => [l.syncA, l.syncB]) (fun w l => { l with syncF := w })

/-- BAND_EDGES: seven words (R72, R75). -/
def ownBandEdges : Owner :=
  fun words s =>
    if words.length = 7 then
      let edges := words.map BitVec.toNat
      some (if edgesValid edges then
        some ⟨0, false, s.hcu.edges.map word, words, fun t => t.setHcu (changeEdges t.inSurvey edges t.hcu)⟩
      else none)
    else none

def setDet (f : DetectorUnit → DetectorUnit) (s : State) : State := { s with det := f s.det }

/-- The detector's items (R81). -/
def ownDip : Owner :=
  clampOwner 100 990 (fun s => s.det.dip) (fun v s => decide (s.det.intr < v)) (fun v => setDet fun d => { d with dip := v })
def ownIntr : Owner :=
  clampOwner 10 500 (fun s => s.det.intr) (fun v s => decide (v < s.det.dip)) (fun v => setDet fun d => { d with intr := v })
def ownSwell : Owner :=
  clampOwner 1010 1990 (fun s => s.det.swell) always (fun v => setDet fun d => { d with swell := v })
def ownHysteresis : Owner :=
  clampOwner 0 100 (fun s => s.det.hyst) always (fun v => setDet fun d => { d with hyst := v })
def ownHoldOff : Owner :=
  clampOwner 0 255 (fun s => s.det.holdOff) always (fun v => setDet fun d => { d with holdOff := v })

/-- The capture's items (R82). -/
def ownPreCycles : Owner :=
  clampOwner 1 8 (fun s => s.cap.pre) always (fun v s => { s with cap := { s.cap with pre := v } })
def ownPostCycles : Owner :=
  clampOwner 1 24 (fun s => s.cap.post) always (fun v s => { s with cap := { s.cap with post := v } })

/-- A change of an aggregator setting that splits: the current interval closes under the old values (R116). DESIGN CHOICE: it does so
while a stop is pending too, and its INTERVAL is appended (R13, R116, against R5; notes/assumptions/38). -/
def splitAnd (changed : Bool) (f : AggregatorUnit → AggregatorUnit) (s : State) : State :=
  let s1 := if changed then closeCurrent .split s else s
  s1.setAgg (f s1.agg)

/-- INTERVAL_LENGTH (R114). -/
def ownIntervalLength : Owner :=
  clampOwner 15 3000 (fun s => s.agg.length) always
    (fun v s => splitAnd (v != s.agg.length) (fun a => { a with length := v }) s)

/-- The record budget: at most 400 magnitudes (R114). -/
def withinBudget (mask : BitVec 8) (kept : Nat) : Bool := decide (maskCount mask * kept ≤ 400)

/-- KEPT_ORDERS (R114). -/
def ownKeptOrders : Owner :=
  clampOwner 2 50 (fun s => s.agg.kept) (fun v s => withinBudget s.agg.mask v)
    (fun v s => splitAnd (v != s.agg.kept) (fun a => { a with kept := v }) s)

/-- RECORD_MASK (R114): a channel mask, in the low byte (R210). -/
def ownRecordMask : Owner :=
  fun words s =>
    match words with
    | [w] =>
      let m : BitVec 8 := w.setWidth 8
      some (if withinBudget m s.agg.kept then
        some ⟨0, false, [word s.agg.mask.toNat], [word m.toNat],
          fun t => splitAnd (m != t.agg.mask) (fun a => { a with mask := m }) t⟩
      else none)
    | _ => none

/-- FLAG_POLICY: INCLUDE 0, EXCLUDE 1; no split (R114, R116). -/
def ownFlagPolicy : Owner :=
  namedOwner (fun s => !s.agg.exclude) (fun b s => s.setAgg { s.agg with exclude := !b })

/-- LIMIT: an order and a limit (R115). -/
def ownLimit : Owner :=
  fun words s =>
    match words with
    | [o, w] =>
      let i := o.toNat - 2
      let v := min 1000 w.toNat
      some (if 2 ≤ o.toNat ∧ o.toNat ≤ 50 then
        some ⟨o.toNat, v != w.toNat, [word (s.agg.limits.getD i 0)], [word v],
          fun t => splitAnd (v != t.agg.limits.getD i 0) (fun a => { a with limits := a.limits.set i v }) t⟩
      else none)
    | _ => none

/-- SUPPLY: ON 0, OFF 1 (R136). -/
def ownSupply : Owner := namedOwner (fun s => s.kit.supplyOn) changeSupply

def setLineUnit (f : LineUnit → LineUnit) (s : State) : State := { s with line := f s.line }

/-- BAUD: a 32-bit value of four rates (R179). -/
def ownBaud : Owner :=
  fun words s =>
    match words with
    | [h, l] =>
      let v := join32 h l
      some (if v ∈ [9600, 19200, 38400, 115200] then
        some ⟨0, false, words32 s.line.baud, words32 v, setLineUnit fun x => { x with baud := v }⟩
      else none)
    | _ => none

/-- PARITY: NONE 0, EVEN 1 (R179). -/
def ownParity : Owner :=
  namedOwner (fun s => !s.line.evenParity) (fun b => setLineUnit (changeParity !b))

/-- STALL_TIMEOUT (R179). -/
def ownStallTimeout : Owner :=
  clampOwner 10 600 (fun s => s.line.stallTimeout) always (fun v => setLineUnit fun x => { x with stallTimeout := v })

/-! ### Commands -/

/-- SET_JOURNAL_POLICY (R25). -/
def execSetJournalPolicy (p : Port) (s : State) : Host.Outcome State Fault Refusal := .next (takeSetOf p .journalPolicy ownJournalPolicy s)
/-- SET_SYNC_A (R44, R45). -/
def execSetSyncA (p : Port) (s : State) : Host.Outcome State Fault Refusal := .next (takeSetOf p .syncA ownSyncA s)
/-- SET_SYNC_B (R44, R45). -/
def execSetSyncB (p : Port) (s : State) : Host.Outcome State Fault Refusal := .next (takeSetOf p .syncB ownSyncB s)
/-- SET_SYNC_F (R44, R45). -/
def execSetSyncF (p : Port) (s : State) : Host.Outcome State Fault Refusal := .next (takeSetOf p .syncF ownSyncF s)
/-- SET_BAND_EDGES (R72, R75). -/
def execSetBandEdges (p : Port) (s : State) : Host.Outcome State Fault Refusal := .next (takeSetOf p .bandEdges ownBandEdges s)
/-- SET_DIP_THRESHOLD (R81). -/
def execSetDipThreshold (p : Port) (s : State) : Host.Outcome State Fault Refusal := .next (takeSetOf p .dipThreshold ownDip s)
/-- SET_INTR_THRESHOLD (R81). -/
def execSetIntrThreshold (p : Port) (s : State) : Host.Outcome State Fault Refusal := .next (takeSetOf p .intrThreshold ownIntr s)
/-- SET_SWELL_THRESHOLD (R81). -/
def execSetSwellThreshold (p : Port) (s : State) : Host.Outcome State Fault Refusal := .next (takeSetOf p .swellThreshold ownSwell s)
/-- SET_HYSTERESIS (R81). -/
def execSetHysteresis (p : Port) (s : State) : Host.Outcome State Fault Refusal := .next (takeSetOf p .hysteresis ownHysteresis s)
/-- SET_HOLD_OFF (R81). -/
def execSetHoldOff (p : Port) (s : State) : Host.Outcome State Fault Refusal := .next (takeSetOf p .holdOff ownHoldOff s)
/-- SET_PRE_CYCLES (R82). -/
def execSetPreCycles (p : Port) (s : State) : Host.Outcome State Fault Refusal := .next (takeSetOf p .preCycles ownPreCycles s)
/-- SET_POST_CYCLES (R82). -/
def execSetPostCycles (p : Port) (s : State) : Host.Outcome State Fault Refusal := .next (takeSetOf p .postCycles ownPostCycles s)
/-- SET_INTERVAL_LENGTH (R114, R116). -/
def execSetIntervalLength (p : Port) (s : State) : Host.Outcome State Fault Refusal := .next (takeSetOf p .intervalLength ownIntervalLength s)
/-- SET_KEPT_ORDERS (R114, R116). -/
def execSetKeptOrders (p : Port) (s : State) : Host.Outcome State Fault Refusal := .next (takeSetOf p .keptOrders ownKeptOrders s)
/-- SET_RECORD_MASK (R114, R116). -/
def execSetRecordMask (p : Port) (s : State) : Host.Outcome State Fault Refusal := .next (takeSetOf p .recordMask ownRecordMask s)
/-- SET_FLAG_POLICY (R114, R116). -/
def execSetFlagPolicy (p : Port) (s : State) : Host.Outcome State Fault Refusal := .next (takeSetOf p .flagPolicy ownFlagPolicy s)
/-- SET_LIMIT (R115, R116). -/
def execSetLimit (p : Port) (s : State) : Host.Outcome State Fault Refusal := .next (takeSetOf p .limit ownLimit s)
/-- SET_SUPPLY (R136). -/
def execSetSupply (p : Port) (s : State) : Host.Outcome State Fault Refusal := .next (takeSetOf p .supply ownSupply s)
/-- SET_BAUD (R179). -/
def execSetBaud (p : Port) (s : State) : Host.Outcome State Fault Refusal := .next (takeSetOf p .baud ownBaud s)
/-- SET_PARITY (R179). -/
def execSetParity (p : Port) (s : State) : Host.Outcome State Fault Refusal := .next (takeSetOf p .parity ownParity s)
/-- SET_STALL_TIMEOUT (R179). -/
def execSetStallTimeout (p : Port) (s : State) : Host.Outcome State Fault Refusal := .next (takeSetOf p .stallTimeout ownStallTimeout s)

/-- What PROBE_SET changes, or none for BAD_VALUE (R130, R131). -/
def probeChange (v : ProbeValues) (s : State) : Option SetChange :=
  (checkEntry v).map fun (e, clamped) =>
    ⟨v.channel, clamped, probeWords (s.kit.entries.get v.channel), probeWords e, changeEntry v.channel e⟩

/-- PROBE_SET (R130, R131). -/
def execProbeSet (p : Port) (s : State) : Host.Outcome State Fault Refusal :=
  .next <| takeRequest p .probeSet (fun body s =>
    match readProbeSet body with
    | none => respond p .probeSet .badRequest [] s
    | some v => applyChange p .probeSet .probe (probeChange v s) s) s

/-! ### GET (R15) -/

/-- The words of an item's value in force, with the qualifier of PROBE and LIMIT; none when the qualifier is out of range. -/
def valueWords (i : Item) (q : Nat) (s : State) : Option (List Word) :=
  match i with
  | .journalPolicy => some [word (bit !(policyIsCapture s.journal))]
  | .syncA => some [s.link.syncA]
  | .syncB => some [s.link.syncB]
  | .syncF => some [s.link.syncF]
  | .bandEdges => some (s.hcu.edges.map word)
  | .dipThreshold => some [word s.det.dip]
  | .intrThreshold => some [word s.det.intr]
  | .swellThreshold => some [word s.det.swell]
  | .hysteresis => some [word s.det.hyst]
  | .holdOff => some [word s.det.holdOff]
  | .preCycles => some [word s.cap.pre]
  | .postCycles => some [word s.cap.post]
  | .intervalLength => some [word s.agg.length]
  | .keptOrders => some [word s.agg.kept]
  | .recordMask => some [word s.agg.mask.toNat]
  | .flagPolicy => some [word (bit s.agg.exclude)]
  | .limit => if 2 ≤ q ∧ q ≤ 50 then some [word (s.agg.limits.getD (q - 2) 0)] else none
  | .probe => if q < 8 then some (probeWords (s.kit.entries.get q) ++ [word (bit (s.kit.present.get q))]) else none
  | .supply => some [word (supplyCode s.kit.supplyOn)]
  | .baud => some (words32 s.line.baud)
  | .parity => some [word (bit s.line.evenParity)]
  | .stallTimeout => some [word s.line.stallTimeout]

/-- GET (R15). -/
def execGet (p : Port) (s : State) : Host.Outcome State Fault Refusal :=
  .next <| takeRequest p .get (fun body s =>
    match readGet body with
    | none => respond p .get .badRequest [] s
    | some (i, q) =>
      match valueWords i q s with
      | none => respond p .get .badValue [] s
      | some ws => respond p .get .ok ws s) s

end Sys2Proof.Machine
end

