-- ==== Sys2Proof/Machine/Dispatch.lean ====
section
/-! DEFINITION. One arm per command: each calls the command's own meaning. -/

namespace Sys2Proof.Machine

open Sys2Proof

def exec (i : Instr) (s : State) : Host.Outcome State Fault Refusal :=
  match i with
  | .powerOn => Sys2Proof.Machine.execPowerOn s
  | .resetPin => Sys2Proof.Machine.execResetPin s
  | .surveyClockTick => Sys2Proof.Machine.execSurveyClockTick s
  | .requestFrame p words select => Sys2Proof.Machine.execRequestFrame p words select s
  | .portReset period => Sys2Proof.Machine.execPortReset period s
  | .fetchFrame p clocked => Sys2Proof.Machine.execFetchFrame p clocked s
  | .fetchComplete p => Sys2Proof.Machine.execFetchComplete p s
  | .surveyStart p => Sys2Proof.Machine.execSurveyStart p s
  | .surveyStop p => Sys2Proof.Machine.execSurveyStop p s
  | .seqLimitStop => Sys2Proof.Machine.execSeqLimitStop s
  | .surveyClear p => Sys2Proof.Machine.execSurveyClear p s
  | .setTime p => Sys2Proof.Machine.execSetTime p s
  | .setJournalPolicy p => Sys2Proof.Machine.execSetJournalPolicy p s
  | .setSyncA p => Sys2Proof.Machine.execSetSyncA p s
  | .setSyncB p => Sys2Proof.Machine.execSetSyncB p s
  | .setSyncF p => Sys2Proof.Machine.execSetSyncF p s
  | .setBandEdges p => Sys2Proof.Machine.execSetBandEdges p s
  | .setDipThreshold p => Sys2Proof.Machine.execSetDipThreshold p s
  | .setIntrThreshold p => Sys2Proof.Machine.execSetIntrThreshold p s
  | .setSwellThreshold p => Sys2Proof.Machine.execSetSwellThreshold p s
  | .setHysteresis p => Sys2Proof.Machine.execSetHysteresis p s
  | .setHoldOff p => Sys2Proof.Machine.execSetHoldOff p s
  | .setPreCycles p => Sys2Proof.Machine.execSetPreCycles p s
  | .setPostCycles p => Sys2Proof.Machine.execSetPostCycles p s
  | .setIntervalLength p => Sys2Proof.Machine.execSetIntervalLength p s
  | .setKeptOrders p => Sys2Proof.Machine.execSetKeptOrders p s
  | .setRecordMask p => Sys2Proof.Machine.execSetRecordMask p s
  | .setFlagPolicy p => Sys2Proof.Machine.execSetFlagPolicy p s
  | .setLimit p => Sys2Proof.Machine.execSetLimit p s
  | .setSupply p => Sys2Proof.Machine.execSetSupply p s
  | .setBaud p => Sys2Proof.Machine.execSetBaud p s
  | .setParity p => Sys2Proof.Machine.execSetParity p s
  | .setStallTimeout p => Sys2Proof.Machine.execSetStallTimeout p s
  | .probeSet p => Sys2Proof.Machine.execProbeSet p s
  | .get p => Sys2Proof.Machine.execGet p s
  | .status p body => Sys2Proof.Machine.execStatus p body s
  | .live p => Sys2Proof.Machine.execLive p s
  | .counters p => Sys2Proof.Machine.execCounters p s
  | .readNext p => Sys2Proof.Machine.execReadNext p s
  | .seek p => Sys2Proof.Machine.execSeek p s
  | .postFrame p => Sys2Proof.Machine.execPostFrame p s
  | .noteBegin p => Sys2Proof.Machine.execNoteBegin p s
  | .notePart p => Sys2Proof.Machine.execNotePart p s
  | .printSubmit p => Sys2Proof.Machine.execPrintSubmit p s
  | .printCancel p => Sys2Proof.Machine.execPrintCancel p s
  | .printResume p => Sys2Proof.Machine.execPrintResume p s
  | .printList p => Sys2Proof.Machine.execPrintList p s
  | .supplyRestore p => Sys2Proof.Machine.execSupplyRestore p s
  | .selftestStart p => Sys2Proof.Machine.execSelftestStart p s
  | .selftestStop p => Sys2Proof.Machine.execSelftestStop p s
  | .portConfig p body => Sys2Proof.Machine.execPortConfig p body s
  | .append body test => Sys2Proof.Machine.execAppend body test s
  | .appendRefusalTaken => Sys2Proof.Machine.execAppendRefusalTaken s
  | .newRecordDivider p => Sys2Proof.Machine.execNewRecordDivider p s
  | .syncAMatch bit => Sys2Proof.Machine.execSyncAMatch bit s
  | .confirmWord bit => Sys2Proof.Machine.execConfirmWord bit s
  | .goodDataFrame bit => Sys2Proof.Machine.execGoodDataFrame bit s
  | .fillerFrame bit => Sys2Proof.Machine.execFillerFrame bit s
  | .badFrame bit => Sys2Proof.Machine.execBadFrame bit s
  | .lossOfLock bit => Sys2Proof.Machine.execLossOfLock bit s
  | .breakEntry => Sys2Proof.Machine.execBreakEntry s
  | .breakEnd => Sys2Proof.Machine.execBreakEnd s
  | .testFrame => Sys2Proof.Machine.execTestFrame s
  | .phaseChange => Sys2Proof.Machine.execPhaseChange s
  | .sampleSet => Sys2Proof.Machine.execSampleSet s
  | .halfCycleBoundary => Sys2Proof.Machine.execHalfCycleBoundary s
  | .hcuSourceLossNotice => Sys2Proof.Machine.execHcuSourceLossNotice s
  | .halfCycleValue => Sys2Proof.Machine.execHalfCycleValue s
  | .holdOffExpiry => Sys2Proof.Machine.execHoldOffExpiry s
  | .probeNotice => Sys2Proof.Machine.execProbeNotice s
  | .detectorSourceLossNotice => Sys2Proof.Machine.execDetectorSourceLossNotice s
  | .stopNoticeDetector => Sys2Proof.Machine.execStopNoticeDetector s
  | .trigger x => Sys2Proof.Machine.execTrigger x s
  | .triggerAnswer x => Sys2Proof.Machine.execTriggerAnswer x s
  | .ringSampleSet => Sys2Proof.Machine.execRingSampleSet s
  | .ringCycleComplete => Sys2Proof.Machine.execRingCycleComplete s
  | .captureSourceLossNotice => Sys2Proof.Machine.execCaptureSourceLossNotice s
  | .stopNoticeCapture => Sys2Proof.Machine.execStopNoticeCapture s
  | .endNotice x => Sys2Proof.Machine.execEndNotice x s
  | .eventOpeningNotice => Sys2Proof.Machine.execEventOpeningNotice s
  | .stopNoticeAggregator => Sys2Proof.Machine.execStopNoticeAggregator s
  | .stopNoticeGenerator => Sys2Proof.Machine.execStopNoticeGenerator s
  | .senseLineChange c high => Sys2Proof.Machine.execSenseLineChange c high s
  | .debounceExpiry c => Sys2Proof.Machine.execDebounceExpiry c s
  | .faultInputActive => Sys2Proof.Machine.execFaultInputActive s
  | .faultInputInactive => Sys2Proof.Machine.execFaultInputInactive s
  | .startRequest => Sys2Proof.Machine.execStartRequest s
  | .room => Sys2Proof.Machine.execRoom s
  | .clearToSendChange asserted => Sys2Proof.Machine.execClearToSendChange asserted s
  | .shiftRegisterByteEnd => Sys2Proof.Machine.execShiftRegisterByteEnd s
  | .byteReceived data parityBit reception => Sys2Proof.Machine.execByteReceived data parityBit reception s
  | .statusByte => Sys2Proof.Machine.execStatusByte s
  | .printerReadyChange active => Sys2Proof.Machine.execPrinterReadyChange active s
  | .inquiryTimerExpiry => Sys2Proof.Machine.execInquiryTimerExpiry s
  | .pollTimerExpiry => Sys2Proof.Machine.execPollTimerExpiry s
  | .stallTimerExpiry => Sys2Proof.Machine.execStallTimerExpiry s
  | .breakTimerExpiry => Sys2Proof.Machine.execBreakTimerExpiry s
  | .bitArrival bit => Sys2Proof.Machine.execBitArrival bit s

end Sys2Proof.Machine
end

