-- ==== Sys2Proof/Safety.lean ====
section
/-! DEFINITION. What holds in every state of a safe run, block by block, and the words the statements are written in: a request
that waits or has been answered, select periods, the settings of the part, the byte images of records, the lines of a report, which
job yields, a port's append, what an owner does with a changed setting. -/

namespace Sys2Proof.Machine

open Sys2Proof

/-! ### Requests -/

/-- A request of this kind and body waits at a port (R197). -/
abbrev waits (p : Port) (k : RequestKind) (body : List Word) (s : State) : Prop :=
  (s.port p).waiting = some ⟨k, body⟩

/-- The port's waiting request is withdrawn and its response stands in the response buffer (R197). -/
def answered (p : Port) (k : RequestKind) (code : ResultCode) (body : List Word) (s : State) : State :=
  s.modPort p fun u => { u with waiting := none, response := some ⟨code, body, some k, .nothing, false⟩ }

/-- The port's waiting request is withdrawn. -/
def withdrawn (p : Port) (s : State) : State := s.modPort p fun u => { u with waiting := none }

/-- The owner's response stands in the port's buffer. -/
def replied (p : Port) (k : RequestKind) (code : ResultCode) (body : List Word) (s : State) : State :=
  s.modPort p fun u => { u with response := some ⟨code, body, some k, .nothing, false⟩ }

/-- The port holds the response of a READ_NEXT that was refused, and so no snapshot (R34, notes/assumptions/46). -/
def refusedReadNext (u : PortUnit) : Bool :=
  match u.response with
  | some r => r.kind == some .readNext && r.code != .ok
  | none => false

/-- RUNNING with no stop pending (R1). -/
abbrev isRunning (s : State) : Prop := s.survey.state = .running ∧ s.survey.stopPending = .none

/-! ### Survey, stop sequence (R1 to R9) -/

/-- The four capture blocks have nothing open (R5, R97, R106, R127, R62). -/
def blockDone (s : State) : Blocks :=
  ⟨detectorDone s.det && !s.det.stopTaken, !s.cap.capturing, s.agg.current.isNone, !s.gen.running⟩

/-- Every block of the first set is in the second. -/
def Blocks.within (a b : Blocks) : Bool :=
  (!a.detector || b.detector) && (!a.capture || b.capture) && (!a.aggregator || b.aggregator) && (!a.generator || b.generator)

def Blocks.others (a : Blocks) : Blocks := ⟨!a.detector, !a.capture, !a.aggregator, !a.generator⟩

/-- Times of the table do not fall and do not pass the clock (R9). -/
def stepsSound : List TimeStep → Nat → Bool
  | [], _ => true
  | [e], now => decide (e.effect ≤ now)
  | e :: f :: rest, now => decide (e.effect ≤ f.effect) && stepsSound (f :: rest) now

/-- The survey's record: a stop is pending in RUNNING alone; with no stop pending no block is yet to finish; a block that has left
the set, and every block outside RUNNING, has nothing open; in IDLE the journal, the table and the clock are empty (R1, R5, R8,
R9, R19). -/
abbrev StopSound (s : State) : Prop :=
  (s.survey.stopPending ≠ .none → s.survey.state = .running) ∧
  (s.survey.stopPending = .none → s.survey.yetToFinish = .empty ∧ s.flight.stopNotices = .empty ∧ s.det.stopTaken = false) ∧
  (s.flight.stopNotices.within s.survey.yetToFinish = true) ∧
  (s.det.stopTaken = true → s.survey.yetToFinish.detector = true ∧ s.flight.stopNotices.detector = false) ∧
  (s.survey.stopPending ≠ .none → s.survey.yetToFinish.others.within (blockDone s) = true) ∧
  (s.survey.state ≠ .running → blockDone s = ⟨true, true, true, true⟩)

abbrev TimeSound (s : State) : Prop :=
  s.survey.clock ≤ 0xFFFFFFFF ∧ s.survey.steps.length ≤ 16 ∧ stepsSound s.survey.steps s.survey.clock = true ∧
  (s.survey.state = .idle → s.survey.clock = 0 ∧ s.survey.steps = []) ∧
  (s.survey.state ≠ .idle → (s.survey.steps.head?.map TimeStep.effect) = some 0)

/-! ### Journal, holds, cursors (R17, R19, R23, R24, R33) -/

/-- Slots that records occupy (R17). -/
def usedSlots (rs : List Record) : Nat := (rs.map Record.slots).sum

/-- The store's bookkeeping: consecutive numbers from tail to head, free plus used slots are 8192, the head slot follows the
records (R17, R19). -/
abbrev JournalSound (j : JournalUnit) : Prop :=
  1 ≤ j.tailSeq ∧ j.headSeq = j.tailSeq + j.records.length ∧
  j.records.map Record.seq = List.range' j.tailSeq j.records.length ∧
  j.free + usedSlots j.records = 8192 ∧
  j.tailSlot < 8192 ∧ j.headSlot = (j.tailSlot + usedSlots j.records) % 8192

/-- In IDLE the journal is empty (R19, R7). -/
abbrev IdleEmpty (s : State) : Prop :=
  s.survey.state = .idle → s.journal.records = [] ∧ s.journal.headSeq = 1 ∧ s.comp.queue = []

/-- No interval is current outside RUNNING, nor once the aggregator has left a stop sequence (R111, R127). -/
abbrev IntervalIdle (s : State) : Prop :=
  (s.survey.state ≠ .running → s.agg.current = none) ∧
  (s.survey.stopPending ≠ .none → s.survey.yetToFinish.aggregator = false → s.agg.current = none)

/-- Where a job's hold stands in its span: at the first record until the last copy, then at the record composed (R171). -/
def holdInPlace (j : Job) : Bool :=
  match j.hold with
  | none => true
  | some h =>
    decide (j.first ≤ h) && decide (h ≤ j.last) && (decide (j.copies ≤ j.current) || h == j.first)
      && match j.position with
        | .header => h == j.first
        | .record n => decide (h ≤ n) && decide (n ≤ j.last)
        | _ => true

/-- A job that waits behind the head job (R154, R158). -/
def queuedSound (j : Job) : Bool :=
  j.state == .queued && j.closing == .none && j.hold == some j.first && j.position == .header && !j.began

/-- The head job is not QUEUED, and it holds until its closing is set (R158, R173, R175). -/
def headSound (j : Job) : Bool := j.state != .queued && (j.hold.isNone == (j.closing != .none))

/-- A job's figures (R154, R155). -/
def jobSound (j : Job) : Bool :=
  decide (1 ≤ j.number) && decide (j.number ≤ 255) && decide (1 ≤ j.current) && decide (j.current ≤ j.copies)
    && decide (j.copies ≤ 3) && decide (j.first ≤ j.last) && holdInPlace j

/-- The print queue: at most eight jobs with numbers of their own, the front one at work, the others waiting; at most eight entries
in the end list (R154, R157 to R159). -/
abbrev QueueSound (c : ComposerUnit) : Prop :=
  c.queue.length ≤ 8 ∧ c.endList.length ≤ 8 ∧ c.lastJob ≤ 255 ∧ (c.queue.map Job.number).Nodup ∧
  c.queue.all jobSound = true ∧ c.queue.head?.all headSound = true ∧ c.queue.tail.all queuedSound = true

/-- Every hold lies from the tail sequence to the head sequence minus one, and so does the end of a span that is still held
(R24). -/
abbrev HoldsSound (s : State) : Prop :=
  ∀ j ∈ s.comp.queue, j.hold.isSome = true → s.journal.tailSeq ≤ j.hold.getD 0 ∧ j.last < s.journal.headSeq

/-- The records a READ_NEXT response delivers lie below the head (R35, R37). -/
def deliveryWithin (head : Nat) (u : PortUnit) : Bool :=
  match u.response with
  | some ⟨_, _, k, .readNext _ first count, _⟩ => k == some .readNext && decide (first + count ≤ head)
  | _ => true

/-- A port's cursor lies from the tail sequence to the head sequence (R23, R37). -/
abbrev CursorSound (s : State) : Prop :=
  ∀ p : Port, s.journal.tailSeq ≤ (s.port p).cursor ∧ (s.port p).cursor ≤ s.journal.headSeq ∧
    deliveryWithin s.journal.headSeq (s.port p) = true

/-! ### Appends (R21 to R29) -/

/-- The plan of an append of k slots: the n oldest records leave, each of them below the hold point, and no fewer would do (R22). -/
abbrev planIs (k n : Nat) (s : State) : Prop :=
  n ≤ s.journal.records.length ∧ k ≤ s.journal.free + usedSlots (s.journal.records.take n) ∧
  (∀ m < n, s.journal.free + usedSlots (s.journal.records.take m) < k) ∧
  (s.journal.records.take n).all (reclaimable (holdPoint s)) = true

/-- No plan gives k slots: the records that lie below the hold point do not hold enough (R22). -/
abbrev noPlan (k : Nat) (s : State) : Prop :=
  s.journal.free + usedSlots (s.journal.records.takeWhile (reclaimable (holdPoint s))) < k

/-- A port after a reclaim that leaves this tail sequence (R23). -/
def pushedPort (tail : Nat) (u : PortUnit) : PortUnit :=
  if u.cursor < tail then
    { u with
      cursor := tail, missed := min 0xFFFFFFFF (u.missed + (tail - u.cursor))
      flags := u.flags ||| 0x20, clearSet := u.clearSet &&& 0xDF }
  else u

/-- A port after the flags of a mask are raised on it (R202). -/
def flagsRaised (m : BitVec 8) (u : PortUnit) : PortUnit := { u with flags := u.flags ||| m, clearSet := u.clearSet &&& ~~~m }

/-- The low-space warning is raised by an append that leaves this many free slots (R32). -/
def lowRaised (free : Nat) (j : JournalUnit) : BitVec 8 := if free < 1024 ∧ j.armed then 0x80 else 0

/-- A port's record is appended under the plan that reclaims the n oldest records: cursors below the new tail are pushed, the record
takes the head sequence and slot, the low-space warning is checked, and each port is told of the append. It carries no MARK LOSS,
and the loss counters stay (R18, R20 to R23, R27, R29, R32, R205). -/
def portAppended (p : Port) (b : Body) (n : Nat) (s : State) : State :=
  let j := s.journal
  let gone := usedSlots (j.records.take n)
  let free := j.free + gone - bodySlots b
  let told := fun (u : PortUnit) =>
    { flagsRaised (lowRaised free j) (pushedPort (j.tailSeq + n) u) with arrivals := u.arrivals ++ [bodyKind b] }
  { s with
    journal := { j with
      records := j.records.drop n ++ [⟨j.headSeq, false, false, originOf p, s.survey.clock, s.survey.number, b⟩]
      tailSeq := j.tailSeq + n, tailSlot := (j.tailSlot + gone) % 8192
      headSeq := j.headSeq + 1, headSlot := (j.headSlot + bodySlots b) % 8192
      free := free, armed := decide (1024 ≤ free) }
    portA := told s.portA, portB := told s.portB }

/-- The record of a note's target, still stored, gains SUPERSEDED (R31). -/
def superseding (target : Option Nat) (s : State) : State :=
  { s with journal := { s.journal with
      records := s.journal.records.map fun r => if target = some r.seq then { r with superseded := true } else r } }

/-- The test at the end of an append event: in RUNNING with no stop pending, a head sequence at or above 0xFFFFFF00 begins a stop with
reason SEQ_LIMIT (R5, R6). -/
def limitTested (s : State) : State :=
  if isRunning s ∧ 0xFFFFFF00 ≤ s.journal.headSeq then
    { s with
      survey := { s.survey with stopPending := .seqLimit, yetToFinish := ⟨true, true, true, true⟩ }
      flight := { s.flight with stopNotices := ⟨true, true, true, true⟩ } }
  else s

/-! ### Records as they are read (R17, R35, R209, R210) -/

/-- A field of n bytes, most significant first. -/
def field (n v : Nat) : List Byte := (List.range n).map fun i => BitVec.ofNat 8 (v / 256 ^ (n - 1 - i))

/-- Fields one after another, each with its width in bytes and its value. -/
def fields (l : List (Nat × Nat)) : List Byte := l.flatMap fun x => field x.1 x.2

/-- A signed value in two bytes, in two's complement. -/
def signed (v : Int) : Nat := (v % 65536).toNat

/-- Bit i is the i-th flag. -/
def flagsValue (l : List Bool) : Nat := (l.zipIdx.map fun x => if x.1 then 2 ^ x.2 else 0).sum

/-- The fields of an EVENT body. -/
def eventImage (e : EventBody) : List Byte :=
  let f := e.flags
  fields [(1, match e.cls with | .dip => 1 | .intr => 2 | .swell => 3), (1, e.worst), (1, flagsValue e.involved.toList), (1, e.merges),
      (2, flagsValue [f.clipped, f.capped, f.test, f.cut, f.linkLost, f.probeChange, f.calOverdue, f.noWave, f.waveShared, f.wavePartial]),
      (1, flagsValue [e.capture.isSome, e.wave.isSome]), (1, 0), (4, e.startHc), (4, e.endHc), (4, e.duration), (4, e.startMs), (4, e.endMs),
      (2, e.frozen.limit), (2, e.frozen.intr), (2, e.frozen.hyst), (2, e.extreme)]
    ++ fields (e.extremes.toList.map fun x => (2, x.getD 0xFFFF)) ++ field 2 (e.capture.getD 0)
    ++ (match e.wave with | some (first, stored) => fields [(4, first), (2, stored)] | none => [])

/-- The fields of a WAVE body. -/
def waveImage (w : WaveBody) : List Byte :=
  fields [(2, w.capture), (2, signed w.index), (2, flagsValue [w.clipped, w.held]), (1, w.p), (1, w.q), (4, w.doneMs)]
    ++ w.samples.toList.flatMap fun channel => fields (channel.map fun v => (2, signed v))

/-- The fields of an INTERVAL body. -/
def intervalImage (b : IntervalBody) : List Byte :=
  let f := b.flags
  fields [(4, b.number), (2, b.length), (2, flagsValue [f.flagged, f.partialClose, f.split, f.calOverdue, f.test, f.more]), (4, b.first),
      (4, b.last), (2, b.aggregated), (2, b.excluded), (2, b.missing), (1, b.unpowered.toNat), (1, b.kept), (1, b.mask.toNat),
      (1, flagsValue (b.magnitudes.toList.map Option.isSome)), (1, flagsValue (b.thd.toList.map Option.isSome)), (1, b.exceed.length),
      (4, b.occupancy.one), (4, b.occupancy.two), (4, b.occupancy.threePlus), (4, b.closeMs), (4, b.exceedTotal)]
    ++ fields (b.thd.toList.map fun t => (2, t.getD 0))
    ++ b.magnitudes.toList.flatMap (fun m => fields ((m.getD []).map fun v => (2, v)))
    ++ b.exceed.flatMap fun e => fields [(1, e.channel), (1, e.order), (2, e.count)]

def kindNumber : RecordKind → Nat
  | .event => 1 | .wave => 2 | .interval => 3 | .note => 4 | .setting => 5 | .mark => 6

def originNumber : Origin → Nat
  | .detector => 1 | .capture => 2 | .aggregator => 3 | .kit => 4 | .survey => 5 | .portA => 6 | .portB => 7

/-- The fields of a NOTE body. -/
def noteImage (n : NoteBody) : List Byte :=
  fields [(1, n.author), (1, match n.category with | .site => 1 | .load => 2 | .weather => 3 | .probe => 4 | .other => 5),
      (1, flagsValue [n.observedGiven, n.truncated, n.supersedes.isSome, n.observedClamped]), (1, n.cites.length), (4, n.observed),
      (4, match n.supersedes with | some x => x.1 | none => 0), (4, match n.supersedes with | some x => x.2 | none => 0),
      (2, n.text.length), (2, n.received), (1, n.parts), (3, 0)]
    ++ n.cites.flatMap (fun c => fields [(4, c.seq), (4, c.surveyMs), (1, kindNumber c.kind), (1, originNumber c.origin),
      (1, flagsValue [c.test, c.superseded]), (1, 0), (4, c.reference)])
    ++ n.text

/-- The fields of a SETTING body. -/
def settingImage (b : SettingBody) : List Byte :=
  fields [(1, itemCode b.item), (1, b.qualifier), (1, if b.clamped then 1 else 0), (1, b.new.length)]
    ++ fields ((b.old ++ b.new).map fun w => (2, w.toNat))

/-- The fields of a MARK body; codes that the layout does not list are the model's (notes/assumptions/15). -/
def markImage (m : MarkBody) : List Byte :=
  let kind := fun (k : ProbeKind) => match k with | .none => 0 | .voltageLead => 1 | .clamp => 2 | .flex => 3
  let port := fun (p : Port) => match p with | .a => 1 | .b => 2
  let yes := fun (b : Bool) => if b then 1 else 0
  let supply := fun (on : Bool) => if on then 0 else 1
  match m with
  | .surveyStart site date ms freq present faulted enable =>
    fields [(1, 1), (1, site.length)] ++ site ++ List.replicate (16 - site.length) 0
      ++ fields [(2, date), (4, ms), (1, freq), (1, present.toNat), (1, yes faulted), (1, yes enable)]
  | .surveyStop (.request p) => fields [(1, 2), (1, 0), (1, port p)]
  | .surveyStop .seqLimit => fields [(1, 2), (1, 1), (1, 0)]
  | .timeStep oldDate oldMs newDate newMs => fields [(1, 3), (2, oldDate), (4, oldMs), (2, newDate), (4, newMs)]
  | .loss event wave interval mark => fields [(1, 4), (4, event), (4, wave), (4, interval), (4, mark)]
  | .linkUp filler total => fields [(1, 5), (1, yes filler), (4, total)]
  | .linkDown reason total instants =>
    fields [(1, 6), (1, match reason with | .badFrames => 0 | .syncChange => 1 | .brk => 2), (4, total), (4, instants)]
  | .frontendOff fromLocked => fields [(1, 7), (1, yes fromLocked)]
  | .selftestOn a b ka kb n replaced =>
    fields [(1, 8), (2, a), (2, b), (1, ka), (1, kb), (1, n),
      (1, match replaced with | .hunt => 0 | .confirm => 1 | .locked => 2 | .brk => 3 | .loopback => 4)]
  | .selftestOff reason n frames =>
    fields [(1, 9), (1, match reason with | .complete => 0 | .request => 1 | .surveyStop => 2), (1, n), (4, frames)]
  | .probeIn c k byEntry present => fields [(1, 10), (1, c), (1, kind k), (1, yes byEntry), (1, present.toNat)]
  | .probeOut c k byEntry present => fields [(1, 11), (1, c), (1, kind k), (1, yes byEntry), (1, present.toNat)]
  | .probeFault on already unpowered => fields [(1, 12), (1, supply on), (1, yes already), (1, unpowered.toNat)]
  | .supplyRestored p on enable => fields [(1, 13), (1, port p), (1, supply on), (1, yes enable)]

/-- The bytes of a body. -/
def bodyImage : Body → List Byte
  | .event e => eventImage e
  | .wave w => waveImage w
  | .interval b => intervalImage b
  | .note n => noteImage n
  | .setting b => settingImage b
  | .mark m => markImage m

/-- The bytes of a record: its 16-byte header and its body. -/
def recordImage (r : Record) : List Byte :=
  let body := bodyImage r.body
  fields [(4, r.seq), (1, kindNumber r.kind), (1, (16 + body.length + 63) / 64), (1, flagsValue [r.test, r.superseded]),
      (1, originNumber r.origin), (4, r.surveyMs), (2, r.surveyNumber), (2, body.length)] ++ body

/-- A record's copy in a snapshot: byte pairs, the earlier byte in the high half, a zero byte after an odd length. -/
def recordCopy (r : Record) : List Word :=
  let b := recordImage r
  (List.range ((b.length + 1) / 2)).map fun i => word (256 * (b.getD (2 * i) 0).toNat + (b.getD (2 * i + 1) 0).toNat)

/-! ### Ports (R194, R197, R200, R202, R205) -/

/-- A port's figures: the divider and its count, at most one of a waiting request and a response, a clear-on-fetch set of flags
that are still set, error counts of 16 bits, an answer held in a fetch frame alone. -/
abbrev PortSound (u : PortUnit) : Prop :=
  1 ≤ u.divider ∧ u.divider ≤ 15 ∧ u.recordCount < u.divider ∧
  (u.waiting = none ∨ u.response = none) ∧ (u.fetchDue = true → u.response ≠ none) ∧
  u.clearSet &&& ~~~u.flags = 0 ∧ u.missed ≤ 0xFFFFFFFF ∧
  u.framing ≤ 65535 ∧ u.parity ≤ 65535 ∧ u.overrun ≤ 65535 ∧
  (u.answer ≠ [] → u.intake.bind List.head? = some 0xFEFE)

/-- A select period with these words so far goes on with what the port's intake holds: nothing, or the words before (R195). -/
abbrev follows (words : List Word) (u : PortUnit) : Prop := (u.intake.all fun held => held == words.take held.length) = true

/-- A port after a select period of n words whose select is released: it is IDLE, and zeros have gone out (R195). -/
def periodEnded (n : Nat) (u : PortUnit) : PortUnit :=
  { discardResponse u with waiting := none, intake := none, answer := [], out := List.replicate n 0 }

/-- A port while a select period of these words is not yet released (R195). -/
def periodHeld (words : List Word) (u : PortUnit) : PortUnit :=
  { u with intake := some words, out := List.replicate words.length 0 }

/-! ### Settings (R12, R16) -/

/-- The value of every setting item. -/
structure Settings where
  policy : Policy
  syncA : Word
  syncB : Word
  syncF : Word
  edges : List Nat
  dip : Nat
  intr : Nat
  swell : Nat
  hyst : Nat
  holdOff : Nat
  pre : Nat
  post : Nat
  length : Nat
  kept : Nat
  mask : BitVec 8
  exclude : Bool
  limits : List Nat
  entries : Eight ProbeEntry
  supplyOn : Bool
  baud : Nat
  evenParity : Bool
  stallTimeout : Nat
deriving DecidableEq, Repr

def settingsOf (s : State) : Settings where
  policy := s.journal.policy
  syncA := s.link.syncA
  syncB := s.link.syncB
  syncF := s.link.syncF
  edges := s.hcu.edges
  dip := s.det.dip
  intr := s.det.intr
  swell := s.det.swell
  hyst := s.det.hyst
  holdOff := s.det.holdOff
  pre := s.cap.pre
  post := s.cap.post
  length := s.agg.length
  kept := s.agg.kept
  mask := s.agg.mask
  exclude := s.agg.exclude
  limits := s.agg.limits
  entries := s.kit.entries
  supplyOn := s.kit.supplyOn
  baud := s.line.baud
  evenParity := s.line.evenParity
  stallTimeout := s.line.stallTimeout

/-- The defaults of the owners' chapters (R25, R44, R72, R81, R82, R114, R115, R129, R136, R179). -/
def defaultSettings : Settings where
  policy := .captureFirst
  syncA := 0xC5A3
  syncB := 0x3A5C
  syncF := 0x3A99
  edges := [100, 400, 700, 900, 1000, 1100, 1200]
  dip := 900
  intr := 100
  swell := 1100
  hyst := 20
  holdOff := 4
  pre := 2
  post := 6
  length := 3000
  kept := 40
  mask := 0x77
  exclude := false
  limits := [20, 50, 10, 60, 5, 50, 5, 15, 5, 35, 5, 30, 5, 5, 5, 20, 5, 15, 5, 5, 5, 15, 5, 15] ++ List.replicate 25 0
  entries :=
    let lead := fun d => ProbeEntry.mk .voltageLead (some 20000) d false 0
    let clamp := ProbeEntry.mk .clamp none false false 0
    ⟨lead true, lead true, lead true, lead false, clamp, clamp, clamp, ⟨.none, none, false, false, 0⟩⟩
  supplyOn := false
  baud := 19200
  evenParity := false
  stallTimeout := 120

/-- The command that takes a SET of an item, or a PROBE_SET (R12). -/
def setCommand : Item → Port → Instr
  | .journalPolicy => .setJournalPolicy
  | .syncA => .setSyncA
  | .syncB => .setSyncB
  | .syncF => .setSyncF
  | .bandEdges => .setBandEdges
  | .dipThreshold => .setDipThreshold
  | .intrThreshold => .setIntrThreshold
  | .swellThreshold => .setSwellThreshold
  | .hysteresis => .setHysteresis
  | .holdOff => .setHoldOff
  | .preCycles => .setPreCycles
  | .postCycles => .setPostCycles
  | .intervalLength => .setIntervalLength
  | .keptOrders => .setKeptOrders
  | .recordMask => .setRecordMask
  | .flagPolicy => .setFlagPolicy
  | .limit => .setLimit
  | .probe => .probeSet
  | .supply => .setSupply
  | .baud => .setBaud
  | .parity => .setParity
  | .stallTimeout => .setStallTimeout

/-! ### What a SET does to the settings (R12) -/

/-- How many words a SET's value takes (R210, R211). -/
def valueLength : Item → Nat
  | .bandEdges => 7
  | .limit => 2
  | .baud => 2
  | _ => 1

/-- A value forced to the nearest end of its range, and whether it was moved. -/
def forced (lo hi : Nat) (w : Word) : Nat × Bool := (max lo (min hi w.toNat), max lo (min hi w.toNat) != w.toNat)

/-- A named value of two: the first or the second, any other refused. -/
def namedOf (w : Word) (x y : Settings) : Option (Settings × Bool) :=
  if w = 0 then some (x, false) else if w = 1 then some (y, false) else none

/-- A sync word: neither all zeros nor all ones, and unlike the other two (R44). -/
def syncAccepted (w : Word) (others : List Word) (x : Settings) : Option (Settings × Bool) :=
  if w = 0 ∨ w = 0xFFFF ∨ w ∈ others then none else some (x, false)

/-- A one-word value that clamps, then must pass its check. -/
def clamped (lo hi : Nat) (w : Word) (ok : Nat → Bool) (put : Nat → Settings) : Option (Settings × Bool) :=
  if ok (forced lo hi w).1 then some (put (forced lo hi w).1, (forced lo hi w).2) else none

/-- The owners' tables of range, clamp and refusal: the settings after a SET of an item to a value, and whether it was clamped; none
for BAD_VALUE (R25, R44, R72, R81, R82, R114, R115, R136, R179). -/
def accepts (i : Item) (v : List Word) (x : Settings) : Option (Settings × Bool) :=
  let w := v.getD 0 0
  match i with
  | .journalPolicy => namedOf w { x with policy := .captureFirst } { x with policy := .printFirst }
  | .syncA => syncAccepted w [x.syncB, x.syncF] { x with syncA := w }
  | .syncB => syncAccepted w [x.syncA, x.syncF] { x with syncB := w }
  | .syncF => syncAccepted w [x.syncA, x.syncB] { x with syncF := w }
  | .bandEdges =>
    let e := v.map BitVec.toNat
    if edgesValid e then some ({ x with edges := e }, false) else none
  | .dipThreshold => clamped 100 990 w (fun n => decide (x.intr < n)) fun n => { x with dip := n }
  | .intrThreshold => clamped 10 500 w (fun n => decide (n < x.dip)) fun n => { x with intr := n }
  | .swellThreshold => clamped 1010 1990 w (fun _ => true) fun n => { x with swell := n }
  | .hysteresis => clamped 0 100 w (fun _ => true) fun n => { x with hyst := n }
  | .holdOff => clamped 0 255 w (fun _ => true) fun n => { x with holdOff := n }
  | .preCycles => clamped 1 8 w (fun _ => true) fun n => { x with pre := n }
  | .postCycles => clamped 1 24 w (fun _ => true) fun n => { x with post := n }
  | .intervalLength => clamped 15 3000 w (fun _ => true) fun n => { x with length := n }
  | .keptOrders => clamped 2 50 w (fun n => decide (maskCount x.mask * n ≤ 400)) fun n => { x with kept := n }
  | .recordMask =>
    let m : BitVec 8 := w.setWidth 8
    if maskCount m * x.kept ≤ 400 then some ({ x with mask := m }, false) else none
  | .flagPolicy => namedOf w { x with exclude := false } { x with exclude := true }
  | .limit =>
    let y := v.getD 1 0
    if 2 ≤ w.toNat ∧ w.toNat ≤ 50 then
      some ({ x with limits := x.limits.set (w.toNat - 2) (min 1000 y.toNat) }, decide (1000 < y.toNat))
    else none
  | .probe => none
  | .supply => namedOf w { x with supplyOn := true } { x with supplyOn := false }
  | .baud =>
    let n := join32 w (v.getD 1 0)
    if n ∈ [9600, 19200, 38400, 115200] then some ({ x with baud := n }, false) else none
  | .parity => namedOf w { x with evenParity := false } { x with evenParity := true }
  | .stallTimeout => clamped 10 600 w (fun _ => true) fun n => { x with stallTimeout := n }

/-! ### Probe entries (R130, R210) -/

/-- The channel and the entry that a PROBE_SET's body gives, in four words or in six (notes/assumptions/12), after clamping and
disregarding; none where the body or its kind names none (R130). -/
def probeGiven (body : List Word) : Option (Nat × ProbeEntry) :=
  let entry := fun (kind : Nat) (d : Word) (inDetector high : Bool) (due : Word) =>
    (probeKindOfCode kind).map fun k =>
      let lead := k == .voltageLead
      ProbeEntry.mk k (if lead then some (max 1000 (min 32767 d.toNat)) else none) (lead && inDetector) high due.toNat
  match body with
  | [c, k, d, due] => (entry (k.toNat / 256) d (k.getLsbD 0) (k.getLsbD 1) due).map fun e => (c.toNat, e)
  | [c, k, d, inDetector, polarity, due] => (entry k.toNat d (inDetector != 0) (polarity == 0) due).map fun e => (c.toNat, e)
  | _ => none

/-! ### Settings in force -/

/-- The state with other settings, and nothing else changed. -/
def withSettings (x : Settings) (s : State) : State :=
  { s with
    journal := { s.journal with policy := x.policy }
    link := { s.link with syncA := x.syncA, syncB := x.syncB, syncF := x.syncF }
    hcu := { s.hcu with edges := x.edges }
    det := { s.det with dip := x.dip, intr := x.intr, swell := x.swell, hyst := x.hyst, holdOff := x.holdOff }
    cap := { s.cap with pre := x.pre, post := x.post }
    agg := { s.agg with length := x.length, kept := x.kept, mask := x.mask, exclude := x.exclude, limits := x.limits }
    kit := { s.kit with entries := x.entries, supplyOn := x.supplyOn }
    line := { s.line with
      baud := x.baud, evenParity := x.evenParity, stallTimeout := x.stallTimeout
      parityChanged := s.line.parityChanged || x.evenParity != s.line.evenParity } }

/-- A probe entry that its channel may have (R129). -/
def entrySound (c : Nat) (e : ProbeEntry) : Bool :=
  kindAllowed c e.kind
    && (match e.level with
      | some d => e.kind == .voltageLead && decide (1000 ≤ d) && decide (d ≤ 32767)
      | none => e.kind != .voltageLead)
    && (!e.inDetector || e.kind == .voltageLead) && decide (e.calDue ≤ 65535)

/-- The sync words are three different words, none of all zeros or all ones (R44). -/
abbrev SyncSound (a b f : Word) : Prop :=
  a ≠ b ∧ a ≠ f ∧ b ≠ f ∧ a ≠ 0 ∧ b ≠ 0 ∧ f ≠ 0 ∧ a ≠ 0xFFFF ∧ b ≠ 0xFFFF ∧ f ≠ 0xFFFF

/-- Every setting lies in its range (R44, R72, R81, R82, R114, R115, R129, R179). -/
abbrev SettingsSound (x : Settings) : Prop :=
  SyncSound x.syncA x.syncB x.syncF ∧ edgesValid x.edges = true ∧
  (100 ≤ x.dip ∧ x.dip ≤ 990 ∧ 10 ≤ x.intr ∧ x.intr ≤ 500 ∧ x.intr < x.dip) ∧
  (1010 ≤ x.swell ∧ x.swell ≤ 1990 ∧ x.hyst ≤ 100 ∧ x.holdOff ≤ 255) ∧
  (1 ≤ x.pre ∧ x.pre ≤ 8 ∧ 1 ≤ x.post ∧ x.post ≤ 24) ∧
  (15 ≤ x.length ∧ x.length ≤ 3000 ∧ 2 ≤ x.kept ∧ x.kept ≤ 50 ∧ maskCount x.mask * x.kept ≤ 400) ∧
  (x.limits.length = 49 ∧ x.limits.all (fun l => decide (l ≤ 1000)) = true) ∧
  ((List.range 8).all fun c => entrySound c (x.entries.get c)) = true ∧
  x.baud ∈ [9600, 19200, 38400, 115200] ∧ (10 ≤ x.stallTimeout ∧ x.stallTimeout ≤ 600)

/-! ### Kit lines (R132, R133, R136) -/

/-- The enable output is on exactly in the condition of R136, and an ACTIVE fault input means FAULTED (R137). -/
abbrev SupplySound (k : KitUnit) : Prop :=
  k.enable = (k.supplyOn && !k.faulted && !k.faultActive) ∧ (k.faultActive = true → k.faulted = true)

/-- A channel is present when its level has settled FITTED and it has a kind; its debounce timer runs while its line differs from
the settled level (R132, R133). -/
abbrev PresenceSound (k : KitUnit) : Prop :=
  ∀ c : Fin 8, k.present.get c = (k.settled.get c && (k.entries.get c).kind != .none) ∧
    ((k.timers.get c).isSome = (comparedLevel k c != k.settled.get c)) ∧ (k.timers.get c).getD 0 ≤ 50

/-! ### Sample link and generator (R42, R46, R60, R62) -/

/-- The receiver after a bit has been shifted in (R42). -/
def bitTaken (b : Bool) (l : LinkUnit) : LinkUnit :=
  { l with
    window := (l.window <<< 1) ||| (if b then 1 else 0)
    lowRun := if l.state = .loopback ∨ b then 0 else min 352 (l.lowRun + 1) }

/-- The eleven words are a good data frame under the receiver's sync words (R43). -/
abbrev isGoodFrame (l : LinkUnit) (words : List Word) : Prop :=
  words.length = 11 ∧ words.getD 0 0 = l.syncA ∧ words.getD 1 0 = l.syncB ∧
  (∀ w ∈ (words.drop 2).take 8, w ≠ 0x8000) ∧ words.getD 10 0 = ((words.drop 2).take 8).sum

/-- A sample set on its way to the Half-Cycle Unit and the capture (R47). -/
def setSent (samples : Eight Int) (held test : Bool) (s : State) : State :=
  let m := SourceMsg.set ⟨samples, held, test, s.link.losses⟩
  { s with flight := { s.flight with hcuIn := s.flight.hcuIn ++ [m], capIn := s.flight.capIn ++ [m] } }

/-- A source loss notice on its way (R47). -/
def lossSent (s : State) : State :=
  { s with
    link := { s.link with losses := s.link.losses + 1 }
    flight := { s.flight with hcuIn := s.flight.hcuIn ++ [.loss], capIn := s.flight.capIn ++ [.loss] } }

/-- LINK raised on both ports (R57). -/
def linkRaised (s : State) : State := s.bothPorts (flagsRaised 0x04)

/-- Where the receiver stands in a word and a frame, by state. -/
def linkPlace (l : LinkUnit) : Bool :=
  match l.state with
  | .confirm => decide (l.wordPos.getD 16 < 16) && l.frame.isEmpty
  | .locked => decide (l.wordPos.getD 16 < 16) && decide (l.frame.length ≤ 10)
  | _ => l.wordPos.isNone && l.frame.isEmpty

/-- The receiver's figures stay in their ranges, and it is in LOOPBACK exactly while the generator runs. -/
abbrev LinkSound (s : State) : Prop :=
  linkPlace s.link = true ∧ s.link.badRun ≤ 2 ∧ s.link.lowRun ≤ 352 ∧ s.link.badTotal ≤ 0xFFFFFFFF ∧
  s.link.instants ≤ 0xFFFFFFFF ∧ (s.gen.running = true ↔ s.link.state = .loopback)

/-! ### The Half-Cycle Unit's window (R65, R67) -/

/-- A channel's sum of squares is that of the samples in the window. -/
def sumSound (h : HalfCycleUnit) (c : Nat) : Bool :=
  h.sums.get c == (h.window.map fun w => square (w.c.get c)).sum

abbrev WindowSound (h : HalfCycleUnit) : Prop :=
  h.window.length ≤ 256 ∧ (∀ c : Fin 4, sumSound h c = true) ∧
  h.testCount = (h.window.filter WinSample.test).length ∧ h.since < 128 ∧ (h.window.length < 256 → h.since = 0)

/-! ### Interval accounting (R110 to R113, R117) -/

/-- While an interval is current, every window from its first to the highest taken is counted once: aggregated, excluded or
missing; with none current the figures are clear. -/
def intervalSound (a : AggregatorUnit) : Bool :=
  match a.current, a.curN, a.first, a.highest with
  | some k, some n, some f, some h =>
    decide (15 ≤ a.length) && n == a.length && decide (k * n ≤ f) && decide (f ≤ h) && decide (h + 1 < k * n + n)
      && a.aggregated + a.excluded + a.missing == h + 1 - f
  | some _, _, _, _ => false
  | none, n, f, _ =>
    decide (15 ≤ a.length) && n.isNone && f.isNone && a.aggregated == 0 && a.excluded == 0 && a.missing == 0 && !a.eventSeen && !a.testSeen
      && a.unpowered == 0

/-! ### Printer line (R180, R188 to R193) -/

/-- The FIFO holds at most 64 bytes; each timer runs only in its own state, and in INQUIRING and STALLED the inquiry or stall timer
runs until the job has left. -/
abbrev LineSound (l : LineUnit) : Prop :=
  l.fifo.length ≤ 64 ∧
  (l.inquiry ≠ none → l.state = .inquiring) ∧ (l.poll ≠ none → l.state = .stalled) ∧
  (l.stall ≠ none → l.state = .stalled) ∧ (l.brk ≠ none → l.state = .brk) ∧
  (l.state = .inquiring → l.leaving = false → l.inquiry ≠ none) ∧
  (l.state = .stalled → l.leaving = false → l.stall ≠ none) ∧ (l.state = .brk → l.brk = none → l.shift ≠ none) ∧
  (l.leaving = true → l.inquiry = none ∧ l.poll = none ∧ l.stall = none)

/-! ### Notes (R141, R143, R146) -/

/-- A note's figures: the text kept is what was received, up to 480 bytes, and TRUNCATED says that more came. -/
def noteDataSound (d : NoteData) : Bool :=
  decide (d.author ≤ 15) && decide (1 ≤ d.parts) && decide (d.parts ≤ 8) && decide (d.cites.length ≤ 4)
    && decide (d.lastPart < d.parts) && decide (d.received ≤ 64 * d.lastPart) && d.text.length == min 480 d.received
    && (d.truncated == decide (480 < d.received))

def noteSound : NoteCtx → Bool
  | .assembling d => noteDataSound d
  | _ => true

/-! ### The Half-Cycle Unit's samples (R43, R59, R61, R65) -/

/-- A set's samples lie from -32767 to 32767. -/
def setSound : SourceMsg → Bool
  | .set x => x.samples.toList.all fun v => decide (v.natAbs ≤ 32767)
  | .loss => true

/-- Every sample that is held or on its way lies from -32767 to 32767, and so does every generator level. -/
abbrev SamplesSound (s : State) : Prop :=
  (s.hcu.window.all fun w => w.c.toList.all fun v => decide (v.natAbs ≤ 32767)) = true ∧
  s.flight.hcuIn.all setSound = true ∧ s.flight.capIn.all setSound = true ∧
  (s.link.lastGood.toList.all fun v => decide (v.natAbs ≤ 32767)) = true ∧
  s.gen.levelA ≤ 32767 ∧ s.gen.levelB ≤ 32767

/-- A sample set completes a half cycle: it fills the window, or it is the 128th since the last value (R67). -/
def endsHalfCycle (h : HalfCycleUnit) : Bool := h.window.length == 255 || (h.window.length == 256 && h.since == 127)

/-! ### The detector's contexts (R84 to R97) -/

/-- A channel's value where it is a detector channel of a half-cycle value (R85). -/
def seen (v : HalfValue) (c : Nat) : Option ChanValue := (v.chans.get c).filter ChanValue.inDetector

/-- Some detector channel of the value satisfies f. -/
def someSeen (v : HalfValue) (f : ChanValue → Bool) : Bool :=
  (List.range 4).any fun c => match seen v c with | some y => f y | none => false

/-- A residual past a threshold: below it in LOW, above it in HIGH (R86, R89). -/
def beyond (x : DetCtx) (limit : Nat) (y : ChanValue) : Bool :=
  match x with
  | .low => decide (y.residual < limit)
  | .high => decide (limit < y.residual)

/-- The end test fails for a residual: below Td + H in LOW, above Ts - H in HIGH (R87, R89). -/
def unrecovered (x : DetCtx) (f : Frozen) (y : ChanValue) : Bool :=
  match x with
  | .low => decide (y.residual < f.limit + f.hyst)
  | .high => decide (f.limit - f.hyst < y.residual)

/-- The thresholds in force that a context freezes when it opens (R86, R89). -/
def inForce (x : DetCtx) (d : DetectorUnit) : Frozen :=
  match x with
  | .low => ⟨d.dip, d.intr, d.hyst⟩
  | .high => ⟨d.swell, 0, d.hyst⟩

/-- Some involved channel is overdue for calibration (R94). -/
def lateInvolved (s : State) (c : DetContext) : Bool := (List.range 4).any fun i => c.involved.get i && overdue s i

/-- A context after a reading of the calibration status (R94). -/
def calibrationRead (s : State) (c : DetContext) : DetContext :=
  { c with flags := { c.flags with calOverdue := c.flags.calOverdue || lateInvolved s c } }

/-- A context's bookkeeping of a value (R87, R88). -/
def valueNoted (v : HalfValue) (c : DetContext) : DetContext :=
  { c with lastValue := v.number, lastChannels := .ofFn fun i => (seen v i).isSome }

/-- PROBE_CHANGE is set where the value's detector channels differ from the last ones (R94). -/
def changeNoted (v : HalfValue) (c : DetContext) : DetContext :=
  { c with flags := { c.flags with probeChange :=
      c.flags.probeChange || ((List.range 4).any fun i => (seen v i).isSome != c.lastChannels.get i) } }

/-- A context after an OPEN value: joining, extremes, marks, bookkeeping (R87). -/
def openTaken (x : DetCtx) (v : HalfValue) (c : DetContext) : DetContext :=
  { valueNoted v c with
    involved := .ofFn fun i => c.involved.get i || (match seen v i with | some y => beyond x c.frozen.limit y | none => false)
    extremes := .ofFn fun i =>
      match seen v i, c.extremes.get i with
      | none, e => e
      | some y, none => some y.residual
      | some y, some e => some (match x with | .low => min e y.residual | .high => max e y.residual)
    flags := { c.flags with
      clipped := c.flags.clipped || someSeen v ChanValue.clipped
      capped := c.flags.capped || someSeen v ChanValue.capped
      test := c.flags.test || v.test } }

/-- A context that returns to IDLE has its event figures cleared; its pending records stay (R91), and so do its frozen thresholds
(notes/assumptions/41). -/
def figuresCleared (c : DetContext) : DetContext := { DetContext.reset c.frozen with pendingRecs := c.pendingRecs }

/-- A context that opens on a value (R86). -/
def contextOpened (x : DetCtx) (v : HalfValue) (s : State) : DetContext :=
  calibrationRead s { openTaken x v { figuresCleared (s.ctx x) with
    frozen := inForce x s.det, startHc := v.number, startMs := s.survey.clock } with state := .opened, link := .awaiting }

/-- The value opens an event of a context (R86, R89). -/
def opensOn (s : State) (v : HalfValue) (x : DetCtx) : Bool :=
  (s.ctx x).state == .idle && someSeen v (beyond x (inForce x s.det).limit)

/-- The value ends a context's event for good: no detector channel is left, the hold-off runs out, or the end test passes with
HOLD_OFF 0 (R87, R88, R95). -/
def dueOn (s : State) (v : HalfValue) (x : DetCtx) : Bool :=
  let c := s.ctx x
  match c.state with
  | .idle => false
  | .opened => !someSeen v (fun _ => true) || (!someSeen v (unrecovered x c.frozen) && s.det.holdOff == 0)
  | .closing => !someSeen v (fun _ => true) || (!someSeen v (beyond x c.frozen.limit) && decide (c.holdLeft ≤ 1))

/-- A context after a value that neither leaves it alone nor ends its event for good (R86 to R89). -/
def contextAfter (x : DetCtx) (v : HalfValue) (s : State) : DetContext :=
  let c := s.ctx x
  let c1 := changeNoted v c
  match c.state with
  | .idle => if opensOn s v x then contextOpened x v s else c
  | .opened =>
    let d := calibrationRead s (openTaken x v c1)
    if someSeen v (unrecovered x c.frozen) then d
    else { d with state := .closing, endHc := v.number, endMs := s.survey.clock, holdLeft := s.det.holdOff }
  | .closing =>
    if someSeen v (beyond x c.frozen.limit) then
      calibrationRead s (openTaken x v { c1 with
        state := .opened, endHc := 0, endMs := 0, holdLeft := 0, merges := min 255 (c.merges + 1) })
    else calibrationRead s { valueNoted v c1 with holdLeft := c.holdLeft - 1 }

/-- Records are appended in turn, each as an APPEND of its body (R91, R92). -/
def appendedInTurn : List PendingRec → State → State → Prop
  | [], s, t => t = s
  | r :: rest, s, t => ∃ u, exec (.append (.event (eventBody r)) r.flags.test) s = .next u ∧ appendedInTurn rest u t

/-- The settled records at the front of a context's pending list are appended in turn and leave it (R91). -/
def flushed (x : DetCtx) (s t : State) : Prop :=
  ∃ u, appendedInTurn ((s.ctx x).pendingRecs.takeWhile settledRec) s u ∧
    t = u.setCtx x { u.ctx x with pendingRecs := (s.ctx x).pendingRecs.dropWhile settledRec }

/-- The record of context x, which stands as c, falls due (R91). -/
def fallsDue (x : DetCtx) (c : DetContext) (s t : State) : Prop :=
  flushed x (s.setCtx x { figuresCleared c with
    pendingRecs := c.pendingRecs ++ [recordOf x (calibrationRead s c)] }) t

/-- A source loss notice at context x: an OPEN event ends at its last value, an OPEN or CLOSING one has LINK_LOST, and its record falls
due at once, or at the detector's stop notice while a stop is pending (R96). -/
def contextLost (x : DetCtx) (s t : State) : Prop :=
  let c := s.ctx x
  let lost := { c with flags := { c.flags with linkLost := true } }
  let ended := match c.state with
    | .opened => { lost with endHc := c.lastValue, endMs := s.survey.clock, ended := true }
    | _ => lost
  if c.state = .idle then t = s
  else if s.survey.stopPending ≠ .none then t = s.setCtx x ended
  else fallsDue x ended s t

/-! ### Stop sequence (R5) -/

/-- A block leaves the set of those yet to finish; the last to leave completes the stop: MARK SURVEY_STOP is appended, and the
survey is STOPPED with no stop pending (R5). -/
def blockLeaves (leave : Blocks → Blocks) (s t : State) : Prop :=
  let s1 := { s with survey := { s.survey with yetToFinish := leave s.survey.yetToFinish } }
  if leave s.survey.yetToFinish = ⟨false, false, false, false⟩ ∧ s.survey.stopPending ≠ .none then
    ∃ u, exec (.append (.mark (.surveyStop (match s.survey.stopPending with | .request p => .request p | _ => .seqLimit))) false)
        s1 = .next u ∧
      t = { u with survey := { u.survey with state := .stopped, stopPending := .none } }
  else t = s1

/-- The detector leaves the set in the first event in which it has taken the stop notice, both contexts are IDLE and both pending
lists are empty (R97). -/
def detectorReports (s t : State) : Prop :=
  if s.det.stopTaken = true ∧ s.det.low.state = .idle ∧ s.det.high.state = .idle ∧ s.det.low.pendingRecs = [] ∧
    s.det.high.pendingRecs = [] then
    blockLeaves (fun b => { b with detector := false }) { s with det := { s.det with stopTaken := false } } t
  else t = s

/-! ### The capture (R98 to R107) -/

/-- The ring and the cycle in progress: at most eight cycles of 64 samples, and every fourth sample set of the current cycle so far
(R98). -/
abbrev RingSound (c : CaptureUnit) : Prop :=
  c.ring.length ≤ 8 ∧ c.cur.count ≤ 255 ∧
  (∀ r ∈ c.ring, (r.samples.toList.all fun l => l.length == 64) = true) ∧
  (c.cur.samples.toList.all fun l => l.length == (c.cur.count + 3) / 4) = true

/-- A capture's cycle as a WAVE record (R103). -/
def waveOf (c : CaptureUnit) (index : Int) (r : RingCycle) : Body :=
  .wave ⟨c.number, index, r.clipped, r.held, c.p, c.q, r.doneMs, r.samples⟩

/-- Cycles are appended in turn while the capture is CAPTURING, unrefused, and no stop is pending (R100, R104, R106). -/
def wavesAppended : List (Int × RingCycle) → State → State → Prop
  | [], s, t => t = s
  | (i, r) :: rest, s, t =>
    if isRunning s ∧ s.cap.capturing = true ∧ s.cap.refused = false then
      ∃ u, exec (.append (waveOf s.cap i r) r.test) s = .next u ∧ wavesAppended rest u t
    else t = s

/-- The capture ends: IDLE, with an end notice to each linked context (R101, R104 to R107); the set of linked contexts is left as it
was (notes/assumptions/35). -/
def captureEnded (cut : Bool) (s : State) : State :=
  let n := fun (x : DetCtx) => EndNotice.mk x s.cap.number ⟨s.cap.firstWave, s.cap.stored, cut⟩
  { s with
    cap := { s.cap with capturing := false, refused := false }
    flight := { s.flight with ends := s.flight.ends ++
      ((if s.cap.linkedLow then [n .low] else []) ++ if s.cap.linkedHigh then [n .high] else []) } }

/-- The stop notice at one context (R97): CLOSING falls due with its end; OPEN has CUT, ends at its last value unless a source loss
notice has set its end, and falls due. The end survey ms of an OPEN event is not stated: it is free (notes/assumptions/13). -/
def contextStopped (x : DetCtx) (s t : State) : Prop :=
  let c := s.ctx x
  let cut := { c with flags := { c.flags with cut := true } }
  match c.state with
  | .idle => t = s
  | .closing => fallsDue x c s t
  | .opened =>
    if c.ended then fallsDue x cut s t
    else ∃ ms, fallsDue x { cut with endHc := c.lastValue, endMs := ms } { s with free := s.free + 1 } t

/-! ### Intervals (R109 to R128) -/

/-- The accumulators: a sum of squares is at most that of n_c full magnitudes, no window count and no exceedance count passes the
aggregated count (R120, R121). -/
abbrev AccumulatorsSound (a : AggregatorUnit) : Prop :=
  (∀ c : Fin 8, (a.sums.get c).length = 50 ∧ (a.sums.get c).all (fun n => decide (n ≤ a.nc.get c * 4294836225)) = true ∧
    a.nc.get c ≤ a.aggregated) ∧
  ∀ c : Fin 4, (a.exceed.get c).length = 49 ∧ (a.exceed.get c).all (fun n => decide (n ≤ a.aggregated)) = true

/-- The channel's magnitude of an order in a frame: 0 above the orders it carries (R109, R120). -/
def frameMagnitude (mask : BitVec 8) (orders : Nat) (mags : List Word) (c h : Nat) : Nat :=
  if h ≤ orders then
    (mags.getD (((List.range c).filter fun d => mask.getLsbD d).length * orders + (h - 1)) 0).toNat
  else 0

/-- A detector context is OPEN or CLOSING (R117). -/
def eventOpen (s : State) : Bool := s.det.low.state != .idle || s.det.high.state != .idle

/-- Channel c has no supply: FLEX with the enable output off (R119, R139). -/
def withoutSupply (k : KitUnit) (c : Nat) : Bool := (k.entries.get c).kind == .flex && !k.enable

/-- The aggregator after a frame is taken as a window of the current interval (R117, R119 to R121). -/
def windowCounted (i : Nat) (mask : BitVec 8) (orders : Nat) (mags : List Word) (s : State) : AggregatorUnit :=
  let a := { s.agg with
    highest := some i, testSeen := s.agg.testSeen || s.gen.running, eventSeen := s.agg.eventSeen || eventOpen s }
  if a.exclude && eventOpen s then { a with excluded := a.excluded + 1 }
  else
    let m := frameMagnitude mask orders mags
    let takes := fun (c : Nat) => mask.getLsbD c && a.mask.getLsbD c && !withoutSupply s.kit c
    { a with
      aggregated := a.aggregated + 1
      unpowered := a.unpowered ||| maskOf fun c => mask.getLsbD c && a.mask.getLsbD c && withoutSupply s.kit c
      nc := .ofFn fun c => if takes c then a.nc.get c + 1 else a.nc.get c
      sums := .ofFn fun c => if takes c then
          (a.sums.get c).mapIdx fun j sum => if j < a.kept then sum + m c (j + 1) * m c (j + 1) else sum
        else a.sums.get c
      exceed := .ofFn fun c => (a.exceed.get c).mapIdx fun j n =>
        let limit := a.limits.getD j 0
        if mask.getLsbD c = true ∧ j + 2 ≤ a.kept ∧ limit ≠ 0 ∧ m c 1 ≠ 0 ∧ limit * m c 1 < 1000 * m c (j + 2) then n + 1 else n }

/-- The interval that window i begins becomes current, and the windows below i that it counts missing (R112). -/
def intervalBegun (i : Nat) (a : AggregatorUnit) : AggregatorUnit × Nat :=
  let start := i / a.length * a.length
  let first := max start ((a.highest.map fun h => h + 1).getD start)
  ({ a with current := some (i / a.length), curN := some a.length, first := some first, missing := a.missing + (i - first) }, i - first)

/-- Interval k closes: its record is appended with the interval occupancy, which is zeroed; the figures return to their initial
values, the highest window stays (R122, R128). -/
def intervalClosed (cause : CloseCause) (k : Nat) (s t : State) : Prop :=
  ∃ u, exec (.append (.interval (intervalBody cause k s)) s.agg.testSeen)
      { s with hcu := { s.hcu with intervalOcc := ⟨0, 0, 0⟩ } } = .next u ∧
    t = { u with agg := { u.agg with
      current := none, curN := none, first := none, aggregated := 0, excluded := 0, missing := 0, unpowered := 0
      eventSeen := false, testSeen := false, sums := .all (List.replicate 50 0), nc := .all 0
      exceed := .all (List.replicate 49 0) } }

/-- The interval of window i is settled: the windows counted missing, and whether an interval closed (R112). -/
def intervalSettled (i : Nat) (s t : State) (missing : Nat) (closed : Bool) : Prop :=
  let a := s.agg
  match a.current with
  | none => t = { s with agg := (intervalBegun i a).1 } ∧ missing = (intervalBegun i a).2 ∧ closed = false
  | some k =>
    if k = i / a.length then
      missing = i - (a.highest.map fun h => h + 1).getD i ∧ t = { s with agg := { a with missing := a.missing + missing } } ∧
        closed = false
    else
      let last := k * a.curN.getD a.length + a.curN.getD a.length - 1
      let gap := last + 1 - (a.highest.map fun h => h + 1).getD (last + 1)
      ∃ u, intervalClosed .complete k { s with agg := { a with missing := a.missing + gap } } u ∧
        t = { u with agg := (intervalBegun i u.agg).1 } ∧ missing = gap + (intervalBegun i u.agg).2 ∧ closed = true

/-! ### Changes of settings and entries at their owners (R13, R45, R75, R116, R131, R136) -/

/-- A receiver in HUNT, with no word and no frame in progress. -/
def inHunt (l : LinkUnit) : LinkUnit := { l with state := .hunt, wordPos := none, frame := [] }

/-- What the owner of item i does when a SET in a survey leaves the settings x. A changed sync word returns CONFIRM to HUNT, and takes LOCKED to
HUNT with a source loss notice, LINK on both ports, and in RUNNING MARK LINK_DOWN of reason SYNC_CHANGE (R45, R57). Changed band
edges find the previous bands again (R75); a changed length, order count, mask or limit closes a current interval with SPLIT under
the old values (R116); SUPPLY works the enable output out again (R136). -/
def ownerActs (i : Item) (x : Settings) (s t : State) : Prop :=
  let u := withSettings x s
  let sync :=
    if x = settingsOf s then t = s
    else match s.link.state with
      | .confirm => t = { u with link := inHunt u.link }
      | .locked =>
        let v := linkRaised (lossSent { u with link := inHunt u.link })
        if isRunning s then exec (.append (.mark (.linkDown .syncChange s.link.badTotal s.link.instants)) false) v = .next t else t = v
      | _ => t = u
  let split :=
    match s.agg.current with
    | some k => if x = settingsOf s then t = s else ∃ v, intervalClosed .split k s v ∧ t = withSettings x v
    | none => t = u
  match i with
  | .syncA => sync
  | .syncB => sync
  | .syncF => sync
  | .intervalLength => split
  | .keptOrders => split
  | .recordMask => split
  | .limit => split
  | .bandEdges => t =
      if x = settingsOf s then s
      else { u with hcu := { u.hcu with
        edgesChanged := true
        prevBand := .ofFn fun c =>
          match s.hcu.prevBand.get c, s.hcu.latest with
          | some _, some y => (y.chans.get c).map fun z => (x.edges.filter fun e => decide (e ≤ z.residual)).length
          | _, _ => none } }
  | .supply => t = { u with kit := { u.kit with enable := x.supplyOn && !s.kit.faulted && !s.kit.faultActive } }
  | _ => t = u

/-- A detector channel by its entry and its presence (R131). -/
def detectorChannel (c : Nat) (present : Bool) (e : ProbeEntry) : Bool :=
  decide (c < 4) && present && e.kind == .voltageLead && e.inDetector

/-- The Kit Line Unit takes entry e for channel c. An equal entry changes nothing. Otherwise a changed polarity forms the compared
level again, which stops the debounce timer where it is the settled level and starts it at 50 ms where it is not; present follows
the settled level and the new kind; channels 0 to 3 send one probe notice; and a change of present raises PROBE on both ports and,
in RUNNING, appends its mark of cause ENTRY (R131 to R134). -/
def entryTaken (c : Nat) (e : ProbeEntry) (s t : State) : Prop :=
  let old := s.kit.entries.get c
  let fitted := s.kit.sense.get c == e.activeHigh
  let was := s.kit.present.get c
  let present := s.kit.settled.get c && e.kind != .none
  let k := { s.kit with
    entries := s.kit.entries.set c e, present := s.kit.present.set c present
    timers :=
      if e.activeHigh = old.activeHigh then s.kit.timers
      else s.kit.timers.set c (if fitted = s.kit.settled.get c then none else some 50) }
  let u := { s with
    kit := k
    flight := { s.flight with probeNotices := s.flight.probeNotices ++
      if c < 4 then [⟨c, detectorChannel c was old, detectorChannel c present e⟩] else [] } }
  let v := u.bothPorts (flagsRaised 0x40)
  let mark := if present then MarkBody.probeIn c e.kind true (maskOf k.present.get) else .probeOut c e.kind true (maskOf k.present.get)
  if e = old then t = s
  else if present = was then t = u
  else if isRunning s then exec (.append (.mark mark) false) v = .next t
  else t = v

/-! ### The lines of a report (R161 to R170) -/

/-- Texts with another between each two. -/
def joined (between : String) (l : List (List Byte)) : List Byte := (l.intersperse (ascii between)).flatten

/-- A value in per mille, in percent with one decimal. -/
def inPercent (v : Nat) : List Byte := decimal (v / 10) ++ ascii "." ++ decimal (v % 10)

/-- A text right-aligned in columns. -/
def rightAligned (columns : Nat) (b : List Byte) : List Byte := List.replicate (columns - b.length) 0x20 ++ b

def channelText (c : Nat) : List Byte := ascii (["L1", "L2", "L3", "NE", "I1", "I2", "I3"].getD c "IN")

/-- A set of channels: their names joined by commas, or a hyphen. -/
def channelsText (m : BitVec 8) : List Byte :=
  if m = 0 then ascii "-" else joined "," (((List.range 8).filter fun c => m.getLsbD c).map channelText)

/-- A line after a record's first, indented by four spaces. -/
def below (b : List Byte) : LineSpec := .text (ascii "    " ++ b)

def rule : LineSpec := .text (List.replicate 48 0x2D)

/-- The header of a copy; record first was made at survey ms (R163). -/
def headerSpec (s : State) (j : Job) (ms : Nat) : List LineSpec :=
  [.text (ascii "IVEPTA VIPWEL KC8 SURVEY REPORT"), .text (ascii "SITE " ++ s.survey.siteId),
   .text (ascii "SURVEY " ++ decimal s.survey.number ++ ascii " JOB " ++ decimal j.number ++ ascii " COPY " ++ decimal j.current
     ++ ascii " OF " ++ decimal j.copies),
   .text (ascii "SPAN " ++ decimal j.first ++ ascii " TO " ++ decimal j.last ++ ascii (if j.full then " FULL" else " SUMMARY")),
   .text (ascii "MISSING AT ACCEPTANCE " ++ decimal j.missing), .fromLine ms, rule]

/-- The FLAGS line, where a flag is set (R164). -/
def flagsSpec (l : List (String × Bool)) : List LineSpec :=
  match l.filter Prod.snd with
  | [] => []
  | set => [below (ascii "FLAGS " ++ joined " " (set.map fun x => ascii x.1))]

/-- The fields of an EVENT's first line, and its other lines (R165). -/
def eventSpec (full : Bool) (freq : Nat) (e : EventBody) : List Byte × List LineSpec :=
  let f := e.flags
  let pct := fun (v : Nat) => inPercent v ++ ascii "%"
  (ascii (match e.cls with | .dip => "DIP " | .intr => "INTR " | .swell => "SWELL ") ++ pct e.extreme ++ ascii " " ++ channelText e.worst,
   [below (ascii "DUR " ++ decimal ((e.duration * 1000 + freq) / (2 * freq)) ++ ascii " MS MERGES " ++ decimal e.merges)]
     ++ flagsSpec [("CL", f.clipped), ("CP", f.capped), ("CU", f.cut), ("LL", f.linkLost), ("PC", f.probeChange), ("CO", f.calOverdue),
       ("TS", f.test), ("NW", f.noWave), ("WS", f.waveShared), ("WP", f.wavePartial)]
     ++ if full then
         [below (match e.cls with
           | .swell => ascii "TS " ++ pct e.frozen.limit ++ ascii " H " ++ pct e.frozen.hyst
           | _ => ascii "TD " ++ pct e.frozen.limit ++ ascii " TI " ++ pct e.frozen.intr ++ ascii " H " ++ pct e.frozen.hyst),
          below (ascii "START HC " ++ decimal e.startHc ++ ascii " END HC " ++ decimal e.endHc)]
         ++ ((List.range 4).filter e.involved.get).map (fun c => below (channelText c ++ ascii (match e.cls with | .swell => " MAX " | _ => " MIN ")
             ++ pct ((e.extremes.get c).getD 0)))
         ++ [below (match e.wave with
             | some (first, stored) => ascii "WAVEFORM " ++ decimal stored ++ ascii " CYCLES FROM #" ++ decimal first
             | none => ascii "WAVEFORM NONE")]
       else [])

/-- The fields of an INTERVAL's first line, and its other lines (R166). -/
def intervalSpec (full : Bool) (b : IntervalBody) : List Byte × List LineSpec :=
  let f := b.flags
  (ascii "INTERVAL " ++ decimal b.number,
   [below (ascii "N " ++ decimal b.length ++ ascii " AGG " ++ decimal b.aggregated ++ ascii " EXC " ++ decimal b.excluded
      ++ ascii " MISS " ++ decimal b.missing),
    below (ascii "THD" ++ (List.range 4).flatMap fun c => ascii " " ++ channelText c ++ ascii " "
      ++ match b.thd.get c with | some t => inPercent t ++ ascii "%" | none => ascii "-")]
     ++ flagsSpec [("FG", f.flagged), ("PA", f.partialClose), ("SP", f.split), ("CO", f.calOverdue), ("TS", f.test), ("MO", f.more)]
     ++ [below (ascii "EXCEEDANCES " ++ decimal b.exceedTotal)]
     ++ b.exceed.map (fun e => below (channelText e.channel ++ ascii " H" ++ decimal e.order ++ ascii " " ++ decimal e.count))
     ++ if full then
         [below (ascii "OCC 1:" ++ decimal b.occupancy.one ++ ascii " 2:" ++ decimal b.occupancy.two ++ ascii " 3+:"
           ++ decimal b.occupancy.threePlus)]
         ++ (if b.unpowered = 0 then [] else [below (ascii "UNPOWERED " ++ channelsText b.unpowered)])
         ++ (List.range 8).flatMap fun c => [(0, "01"), (5, "06"), (10, "11")].flatMap fun x =>
             match ((((b.magnitudes.get c).getD []).take 15).drop x.1).take 5 with
             | [] => []
             | part => [below (channelText c ++ ascii (" H" ++ x.2) ++ part.flatMap fun v => rightAligned 6 (decimal v))]
       else [])

/-- The lines a note's text is wrapped into, the first of this width, the later ones of 44: the remainder where it fits; else up to
the last space within the width that is not the line's first byte; else the width (R167). -/
inductive Wrapped : Nat → List Byte → List (List Byte) → Prop where
  | fits (w : Nat) (t : List Byte) : t.length ≤ w → Wrapped w t [t]
  | atSpace (w i : Nat) (t : List Byte) (more : List (List Byte)) : w < t.length → 0 < i → i < w → t[i]? = some 0x20 →
      (∀ k, i < k → k < w → t[k]? ≠ some 0x20) → Wrapped 44 (t.drop (i + 1)) more → Wrapped w t (t.take i :: more)
  | cut (w : Nat) (t : List Byte) (more : List (List Byte)) : w < t.length → (∀ k, 0 < k → k < w → t[k]? ≠ some 0x20) →
      Wrapped 44 (t.drop w) more → Wrapped w t (t.take w :: more)

/-- A note's lines after its first, of which the first of its text stands at column 1 (R167). -/
def noteSpec (r : Record) (n : NoteBody) (tail : Nat) (lines : List LineSpec) : Prop :=
  let ref := fun (name : String) (seq : Nat) =>
    below (ascii name ++ ascii " #" ++ decimal seq ++ if seq < tail then ascii " NO LONGER HELD" else [])
  ∃ text : List (List Byte), (if n.text = [] then text = [] else Wrapped 48 n.text text) ∧
    lines = (text.take 1).map LineSpec.text ++ (text.drop 1).map below
      ++ (if n.truncated then [below (ascii "(TEXT TRUNCATED)")] else [])
      ++ (match n.supersedes with | some (target, _) => [ref "REPLACES" target] | none => [])
      ++ n.cites.map (fun c => ref "CITES" c.seq)
      ++ if r.superseded then [below (ascii "(REPLACED BY A LATER NOTE)")] else []

/-- A setting's item as the report names it (R168). -/
def itemText (i : Item) : List Byte :=
  ascii (["JOURNAL_POLICY", "SYNC_A", "SYNC_B", "SYNC_F", "BAND_EDGES", "DIP_THRESHOLD", "INTR_THRESHOLD", "SWELL_THRESHOLD", "HYSTERESIS",
    "HOLD_OFF", "PRE_CYCLES", "POST_CYCLES", "INTERVAL_LENGTH", "KEPT_ORDERS", "RECORD_MASK", "FLAG_POLICY", "LIMIT", "PROBE", "SUPPLY",
    "BAUD", "PARITY"].getD (itemCode i - 1) "STALL_TIMEOUT")

def probeKindText : ProbeKind → List Byte
  | .none => ascii "NONE" | .voltageLead => ascii "VOLTAGE_LEAD" | .clamp => ascii "CLAMP" | .flex => ascii "FLEX"

/-- A setting's value as the report prints it (R168); the parts of a PROBE value separated by single spaces
(notes/assumptions/33). -/
def settingValueText (b : SettingBody) (v : List Word) : List Byte :=
  let w := v.headD 0
  let oneOf := fun (x y : String) => ascii (if w = 0 then x else y)
  let pct := inPercent w.toNat ++ ascii "%"
  let orHyphen := fun (n : Word) => if n = 0 then ascii "-" else decimal n.toNat
  match b.item with
  | .dipThreshold => pct
  | .intrThreshold => pct
  | .swellThreshold => pct
  | .hysteresis => pct
  | .limit => ascii "H" ++ decimal b.qualifier ++ ascii " " ++ pct
  | .bandEdges => joined " " (v.map fun e => decimal e.toNat)
  | .journalPolicy => oneOf "CAPTURE_FIRST" "PRINT_FIRST"
  | .flagPolicy => oneOf "INCLUDE" "EXCLUDE"
  | .supply => oneOf "ON" "OFF"
  | .parity => oneOf "NONE" "EVEN"
  | .recordMask => channelsText (w.setWidth 8)
  | .probe => probeKindText ((probeKindOfCode (w.toNat / 256)).getD .none) ++ ascii " " ++ orHyphen (v.getD 1 0)
      ++ ascii (if w.getLsbD 0 then " DET" else " -") ++ ascii (if w.getLsbD 1 then " HI " else " LO ") ++ orHyphen (v.getD 2 0)
  | .baud => decimal (65536 * w.toNat + (v.getD 1 0).toNat)
  | _ => decimal w.toNat

/-- The subkind of a MARK and its detail lines (R169, notes/assumptions/33). -/
def markSpec (m : MarkBody) : String × List (List Byte) :=
  let on := fun (b : Bool) => ascii (if b then "ON" else "OFF")
  let port := fun (p : Port) => ascii (match p with | .a => "A" | .b => "B")
  let probe := fun (c : Nat) (k : ProbeKind) (byEntry : Bool) =>
    [channelText c ++ ascii " " ++ probeKindText k ++ ascii (if byEntry then " ENTRY" else " SENSE")]
  match m with
  | .surveyStart site _ _ freq present faulted enable => ("SURVEY_START",
      [ascii "SITE " ++ site ++ ascii " " ++ decimal freq ++ ascii " HZ", ascii "PRESENT " ++ channelsText present,
       ascii (if faulted then "SUPPLY FAULTED OUTPUT " else "SUPPLY NORMAL OUTPUT ") ++ on enable])
  | .surveyStop (.request p) => ("SURVEY_STOP", [ascii "REQUEST PORT " ++ port p])
  | .surveyStop .seqLimit => ("SURVEY_STOP", [ascii "SEQ_LIMIT"])
  | .timeStep od om nd nm => ("TIME_STEP",
      [ascii "FROM " ++ dateText od ++ ascii " " ++ timeText om, ascii "TO " ++ dateText nd ++ ascii " " ++ timeText nm])
  | .loss e w i m => ("LOSS",
      [ascii "LOST EVENT " ++ decimal e ++ ascii " WAVE " ++ decimal w, ascii "LOST INTERVAL " ++ decimal i ++ ascii " MARK " ++ decimal m])
  | .linkUp filler total => ("LINK_UP", [ascii (if filler then "FILLER BAD FRAMES " else "DATA BAD FRAMES ") ++ decimal total])
  | .linkDown reason total instants => ("LINK_DOWN",
      [ascii (match reason with | .badFrames => "REASON BAD_FRAMES" | .syncChange => "REASON SYNC_CHANGE" | .brk => "REASON BREAK"),
       ascii "BAD FRAMES " ++ decimal total ++ ascii " INSTANTS " ++ decimal instants])
  | .frontendOff fromLocked => ("FRONTEND_OFF", [ascii (if fromLocked then "FROM LOCKED" else "FROM HUNT")])
  | .selftestOn a b ka kb n _ => ("SELFTEST_ON",
      [ascii "A " ++ decimal a ++ ascii " KA " ++ decimal ka ++ ascii " B " ++ decimal b ++ ascii " KB " ++ decimal kb ++ ascii " X " ++ decimal n])
  | .selftestOff reason n frames => ("SELFTEST_OFF",
      [ascii (match reason with | .complete => "COMPLETE" | .request => "REQUEST" | .surveyStop => "SURVEY_STOP")
        ++ ascii " REPEATS " ++ decimal n ++ ascii " FRAMES " ++ decimal frames])
  | .probeIn c k byEntry _ => ("PROBE_IN", probe c k byEntry)
  | .probeOut c k byEntry _ => ("PROBE_OUT", probe c k byEntry)
  | .probeFault supplyOn already unpowered => ("PROBE_FAULT",
      [ascii "SUPPLY " ++ on supplyOn ++ ascii (if already then " AGAIN UNPOWERED " else " UNPOWERED ") ++ channelsText unpowered])
  | .supplyRestored p supplyOn enable => ("SUPPLY_RESTORED",
      [ascii "PORT " ++ port p ++ ascii " SUPPLY " ++ on supplyOn ++ ascii " OUTPUT " ++ on enable])

/-- The lines of a record that prints (R164 to R169). -/
def recordSpec (r : Record) (full : Bool) (freq tail : Nat) (lines : List LineSpec) : Prop :=
  match r.body with
  | .event e => lines = .dated r.seq r.surveyMs (eventSpec full freq e).1 :: (eventSpec full freq e).2
  | .wave _ => lines = []
  | .interval b => lines = .dated r.seq r.surveyMs (intervalSpec full b).1 :: (intervalSpec full b).2
  | .note n => ∃ rest, noteSpec r n tail rest ∧
      lines = .dated r.seq n.observed (ascii (match n.category with
        | .site => "NOTE SITE A" | .load => "NOTE LOAD A" | .weather => "NOTE WEATHER A" | .probe => "NOTE PROBE A" | .other => "NOTE OTHER A")
        ++ decimal n.author) :: rest
  | .setting b => lines =
      [.dated r.seq r.surveyMs (ascii "SET " ++ itemText b.item ++ if b.item = .probe then ascii " " ++ channelText b.qualifier else []),
       below (ascii (if r.origin = .portB then "BY PORT B" else "BY PORT A") ++ ascii (if b.clamped then " CLAMPED" else "")),
       below (ascii "FROM " ++ settingValueText b b.old), below (ascii "TO " ++ settingValueText b b.new)]
  | .mark m => lines = .dated r.seq r.surveyMs (ascii ("MARK " ++ (markSpec m).1)) :: (markSpec m).2.map below

/-- The footer of a copy of n printed records, with the feed and the cut after it (R170). -/
def footerSpec (h : HalfCycleUnit) (n : Nat) : List LineSpec :=
  let counted := (List.range 4).filter fun c => (h.bandCounts.get c).any fun k => k != 0
  let share := fun (c k : Nat) => rightAligned 7 (inPercent (k * 1000 / (h.bandCounts.get c).sum))
  [rule, .text (ascii "RECORDS PRINTED " ++ decimal n), .text (ascii "BAND RESIDENCY % OF HALF CYCLES"),
   .text (ascii "EDGES" ++ h.edges.flatMap fun e => ascii " " ++ inPercent e)]
    ++ (if counted = [] then [.text (ascii "NO RESIDENCY DATA")]
       else counted.flatMap fun c =>
         [.text (channelText c ++ ascii " 0-3" ++ ((h.bandCounts.get c).take 4).flatMap (share c)),
          .text (ascii "   4-7" ++ ((h.bandCounts.get c).drop 4).flatMap (share c))])
    ++ (if h.edgesChanged then [.text (ascii "BAND EDGES CHANGED DURING SURVEY")] else [])
    ++ [.text (ascii "DOWN 1 " ++ decimal h.surveyOcc.one), .text (ascii "DOWN 2 " ++ decimal h.surveyOcc.two),
        .text (ascii "DOWN 3+ " ++ decimal h.surveyOcc.threePlus), .lastLine (ascii "END OF REPORT"), .command [0x02, 4, 0x03]]

/-- A number in decimal: at least k digits that stand for it, with leading zeros only to make up k of them (R162). -/
def decimalOf (k n : Nat) (b : List Byte) : Prop :=
  (∀ d ∈ b, 48 ≤ d.toNat ∧ d.toNat ≤ 57) ∧ b.foldl (fun v d => 10 * v + (d.toNat - 48)) 0 = n ∧ k ≤ b.length ∧
  (b.head? = some 48 → b.length = k)

/-- A leap year of the Gregorian calendar. -/
def leapYear (y : Nat) : Bool := y % 4 == 0 && (y % 100 != 0 || y % 400 == 0)

/-- The days of month m of year y. -/
def daysInMonth (y m : Nat) : Nat := [31, if leapYear y then 29 else 28, 31, 30, 31, 30, 31, 31, 30, 31, 30, 31].getD (m - 1) 0

/-- The number of a date of the Gregorian calendar, 2000-01-01 being day 0: years of 365 days, a day more for each year since 2000 that
4 divides, a day less for each that 100 divides, a day more for each that 400 divides, then the months and the days (R162). -/
def dayNumber (y m d : Nat) : Nat :=
  let n := y - 2000
  365 * n + (n + 3) / 4 - (n + 99) / 100 + (n + 399) / 400 + ((List.range' 1 (m - 1)).map (daysInMonth y)).sum + (d - 1)

/-- A wall date as it prints: 2024-08-22 (R162). -/
def dateSpec (day : Nat) (b : List Byte) : Prop :=
  ∃ y m d yy mm dd, 2000 ≤ y ∧ 1 ≤ m ∧ m ≤ 12 ∧ 1 ≤ d ∧ d ≤ daysInMonth y m ∧ dayNumber y m d = day ∧
    decimalOf 4 y yy ∧ decimalOf 2 m mm ∧ decimalOf 2 d dd ∧ b = yy ++ ascii "-" ++ mm ++ ascii "-" ++ dd

/-- A wall time of day as it prints: 09:59:10.000 (R162). -/
def timeSpec (ms : Nat) (b : List Byte) : Prop :=
  ∃ h m s f hh mm ss ff, ms = ((h * 60 + m) * 60 + s) * 1000 + f ∧ m < 60 ∧ s < 60 ∧ f < 1000 ∧
    decimalOf 2 h hh ∧ decimalOf 2 m mm ∧ decimalOf 2 s ss ∧ decimalOf 3 f ff ∧
    b = hh ++ ascii ":" ++ mm ++ ascii ":" ++ ss ++ ascii "." ++ ff

/-- A sequence number as it prints: #7003 (R162). -/
def seqSpec (n : Nat) (b : List Byte) : Prop := ∃ digits, decimalOf 1 n digits ∧ b = ascii "#" ++ digits

/-! ### Printing (R154 to R176, R181, R193) -/

/-- An entry joins the back of the end list, the oldest of eight leaving first (R159). -/
def endListed (e : EndEntry) (l : List EndEntry) : List EndEntry := (l ++ [e]).drop (l.length + 1 - 8)

/-- The end-list entry of a job (R159). -/
def entryOf (j : Job) (e : JobEnd) (at_ : Option Position) : EndEntry :=
  ⟨j.number, j.surveyNumber, j.port, e, j.first, j.last, j.missing, j.copies, j.completed, at_⟩

/-- The controller stops serving a head job that has left (R193, notes/assumptions/19, 20). -/
def lineReleased (hasNext : Bool) (l : LineUnit) : LineUnit :=
  let l1 := { l with inquiry := none, poll := none, stall := none, reason := none }
  let l2 := if l.state = .sending then l1 else { l1 with fifo := [] }
  if l.state = .brk then { l1 with leaving := true }
  else if l.state = .idle ∨ (l.state = .sending ∧ hasNext = true) then l1
  else if l.shift = none then { l2 with state := .idle }
  else { l2 with leaving := true }

/-- The head job has left with this end-list entry: the next job, if any, is the head job, PRINTING, and asks for a start; PRINT is
raised on both ports; the controller stops serving (R158, R159, R193). -/
def headLeft (entry : EndEntry) (s : State) : State :=
  let next := match s.comp.queue.tail with
    | [] => []
    | k :: more => { k with state := JobState.printing } :: more
  { s with
    comp := { s.comp with
      queue := next, endList := endListed entry s.comp.endList, buffer := [], todo := [], lastDate := none
      asked := !next.isEmpty }
    line := lineReleased (!next.isEmpty) s.line
    portA := flagsRaised 0x08 s.portA, portB := flagsRaised 0x08 s.portB }

/-! ### Yields (R26, R175) -/

/-- Of the jobs that hold, this one is asked first to yield: the lowest hold, the front of the queue first among equals (R26). -/
def yieldsFirst (before : List Job) (j : Job) (after : List Job) (s : State) : Prop :=
  s.comp.queue = before ++ j :: after ∧ ∃ h, j.hold = some h ∧
    (∀ i ∈ before, ∀ k, i.hold = some k → h < k) ∧ ∀ i ∈ after, ∀ k, i.hold = some k → h ≤ k

/-- A job yields: behind the head it leaves at once, YIELDED; the head job drops its hold, its closing becomes YIELD with PRINT raised
on both ports, and it closes by its state: SUSPENDED it leaves, PRINTING its closing line follows the lines of its position (R174 to
R176; the feed and cut of a footer under way: notes/assumptions/17). -/
def yielded (before : List Job) (j : Job) (after : List Job) (s : State) : State :=
  let where_ := if j.began then some j.position else none
  let print := fun (t : State) => t.bothPorts (flagsRaised 0x08)
  if before ≠ [] then
    print { s with comp := { s.comp with
      queue := before ++ after, endList := endListed (entryOf j .yielded where_) s.comp.endList } }
  else
    let s1 := { s with comp := { s.comp with queue := { j with hold := none, closing := .yield, decided := where_ } :: after } }
    if j.state = .suspended then headLeft (entryOf j .yielded where_) s1
    else if j.state = .printing ∧ s.line.state = .sending ∧ s.comp.asked = false then
      print { s1 with comp := { s1.comp with
        todo := s.comp.todo.filter (fun l => match l with | .command _ => false | _ => true)
          ++ [.closingLine (ascii "REPORT CUT: JOURNAL SPACE NEEDED"), .command [0x02, 4, 0x03]] } }
    else print s1

/-- A port's append of k slots under CAPTURE_FIRST: while no plan gives them, the holding job that is asked first yields, and the
command goes on as it would from there (R26, R27). -/
def yieldsFor (c : Instr) (k : Nat) (s : State) : Prop :=
  ∀ (before : List Job) (j : Job) (after : List Job),
    s.journal.policy = .captureFirst → JournalSound s.journal → QueueSound s.comp → noPlan k s → yieldsFirst before j after s →
    exec c s = exec c (yielded before j after s)

/-! ### The printer line -/

/-- The front byte of the FIFO moves into an empty shift register when clear-to-send is ASSERTED, no break holds the line, and HEAD_HOT
does not pause sending (R179, R181; an INQUIRE still there when a HEAD_HOT byte ends the start: notes/assumptions/44). -/
def byteMoved (l : LineUnit) : LineUnit :=
  match l.fifo with
  | [] => l
  | b :: rest =>
    if l.shift = none ∧ l.cts = true ∧ l.state ≠ .brk ∧ ¬ (l.state = .sending ∧ l.held.headHot = true) then
      { l with fifo := rest, shift := some ⟨b, l.baud, l.evenParity⟩ }
    else l

/-- An INQUIRE alone in the FIFO, which moves on when it may (R183, R188). -/
def inquirySent (l : LineUnit) : LineUnit := byteMoved { l with fifo := [0x01] }

/-- A poll, made when printer-ready is ACTIVE (R190). -/
def polled (l : LineUnit) : LineUnit := if l.ready then { inquirySent l with poll := some 1000 } else l

/-- The head job in another state, PRINT raised on both ports (R158). -/
def headIn (st : JobState) (s : State) : State :=
  { s with
    comp := { s.comp with queue := match s.comp.queue with | [] => [] | j :: rest => { j with state := st } :: rest }
    portA := flagsRaised 0x08 s.portA, portB := flagsRaised 0x08 s.portB }

/-- The line and its job enter STALLED: the FIFO and the composer's bytes are flushed, the stall timer starts, a poll is made (R185,
R189, R190; notes/assumptions/21). -/
def stalled (reason : StallReason) (s : State) : State :=
  headIn .stalled { s with
    line := polled { s.line with
      state := .stalled, fifo := [], outstanding := false, reason := some reason, inquiry := none, poll := none
      stall := some (s.line.stallTimeout * 1000) }
    comp := { s.comp with buffer := [], todo := [], asked := false } }

/-- A start: it fails at once with NO_PRINTER when printer-ready is INACTIVE; otherwise an inquiry begins (R188). -/
def startBegun (s : State) : State :=
  if s.line.ready then
    { s with line := inquirySent { s.line with state := .inquiring, inquiry := some 500 } }
  else stalled .noPrinter s

/-- A line of at most 48 bytes and its line feed, bytes outside 0x20 to 0x7E as question marks (R161). -/
def printedLine (b : List Byte) : List Byte :=
  (b.take 48).map (fun x => if 0x20 ≤ x.toNat ∧ x.toNat ≤ 0x7E then x else 0x3F) ++ [0x0A]

/-- The record prints in this job (R160). -/
def prints (j : Job) (r : Record) : Bool :=
  match r.kind with
  | .event => j.sections.events
  | .wave => false
  | .interval => j.sections.intervals
  | .note => j.sections.notes && !(r.superseded && j.latestOnly)
  | .setting => j.sections.settings
  | .mark => j.sections.marks

/-- The composer passes on to record n: to the first record from n to the span's last that prints, or to the footer when none does;
in the last copy the hold follows (R160, R170, R171). -/
def passesOn (n : Nat) (j : Job) (rest : List Job) (s t : State) : Prop :=
  let span := s.journal.records.filter fun r => decide (n ≤ r.seq) && decide (r.seq ≤ j.last)
  let holdAt := fun (r : Record) => if j.current = j.copies then j.hold.map fun _ => r.seq else j.hold
  match span.find? (prints j) with
  | some r =>
    t = { s with comp := { s.comp with
      queue := { j with position := .record r.seq, hold := holdAt r, printed := j.printed + 1 } :: rest
      working := some r, buffer := [], todo := recordLines r j.full s.survey.freq s.journal.tailSeq } }
  | none =>
    t = { s with comp := { s.comp with
      queue := { j with position := .footer, hold := (span.getLast?.map holdAt).getD j.hold } :: rest
      working := if span = [] then s.comp.working else span.getLast?
      buffer := [], todo := footerLines s.hcu j.printed } }

/-- What the head job composes when printing begins (R160, R174, R176): the closing line alone under a closing; the header at the
start of a copy; "(continued)" and its position from the start after a stall or a suspension, where a record that no longer prints
is passed. -/
def printingBegins (fresh : Bool) (s t : State) : Prop :=
  match s.comp.queue with
  | [] => t = s
  | j :: rest =>
    let composes := fun (j1 : Job) (working : Option Record) (lines : List LineSpec) =>
      { s with comp := { s.comp with queue := j1 :: rest, working := working, buffer := [], todo := lines } }
    let again := fun (lines : List LineSpec) => if fresh then lines else .text (ascii "(continued)") :: lines
    let header := again (headerLines s j (((s.journal.records.find? fun r => r.seq == j.first).map Record.surveyMs).getD 0))
    if j.closing ≠ .none then
      t = composes j s.comp.working [.closingLine (ascii (match j.closing with
        | .yield => "REPORT CUT: JOURNAL SPACE NEEDED"
        | _ => "REPORT CANCELLED")), .command [0x02, 4, 0x03]]
    else if fresh ∨ j.position = .header ∨ j.position = .closing then
      t = composes { j with began := true } s.comp.working header
    else
      match j.position with
      | .record n =>
        match s.journal.records.find? fun r => r.seq == n with
        | some r =>
          if prints j r then t = composes j (some r) (again (recordLines r j.full s.survey.freq s.journal.tailSeq))
          else JournalSound s.journal → j.last < s.journal.headSeq →
            ∃ u, passesOn (n + 1) j rest { s with comp := { s.comp with working := some r } } u ∧
              t = { u with comp := { u.comp with todo := again u.comp.todo } }
        | none => t = composes j none (again [])
      | _ => t = composes j s.comp.working (again (footerLines s.hcu j.printed))

end Sys2Proof.Machine
end

