-- ==== Sys2Proof/Certificates/Slice0/Obligations.lean ====
section
/-! DEFINITION. The statements for the provers: what each command does and what it leaves alone, what every command keeps, and what
every step keeps. A frame is written as an equation: a state equal to the one before but for the parts it names. -/

open Sys2Proof Sys2Proof.Machine

/-! ### The queue and the step -/

/-- A step takes the command at the front of the queue and runs it on the state with the queue's rest. The model's choice
(notes/assumptions/9): on an empty queue the block idles. -/
def Obligations.StepRunsFrontCommand : Prop :=
  (∀ (c : Instr) (rest : List Instr) (s : State), s.pending = c :: rest → step s = exec c { s with pending := rest }) ∧
  (∀ s : State, s.pending = [] → step s = .next s)

/-- Every command has a next state, and none touches the queue of waiting commands: the manual names no fault of the part. -/
def Obligations.EveryCommandCompletes : Prop :=
  ∀ (c : Instr) (s : State), ∃ t, exec c s = .next t ∧ t.pending = s.pending

/-! ### Surveys and the survey clock (01) -/

/-- POWER_ON and RESET_PIN return every block to its power-on values. The input pins keep their levels and are read: a FITTED line
starts its debounce timer, an ACTIVE fault input is an activation (R132, R137, R180). That the pins keep their levels is the
model's choice (notes/assumptions/1). -/
def Obligations.ResetReturnsEveryBlock : Prop :=
  ∀ (c : Instr) (s : State), c = .powerOn ∨ c = .resetPin →
    let timer := fun (high : Bool) => if high then none else some 50
    let probe : BitVec 8 := if s.kit.faultActive then 0x40 else 0
    exec c s = .next { State.reset with
      kit := { KitUnit.reset with
        sense := s.kit.sense
        timers := ⟨timer s.kit.sense.c0, timer s.kit.sense.c1, timer s.kit.sense.c2, timer s.kit.sense.c3, timer s.kit.sense.c4,
          timer s.kit.sense.c5, timer s.kit.sense.c6, timer s.kit.sense.c7⟩
        faulted := s.kit.faultActive, faultActive := s.kit.faultActive }
      line := { LineUnit.reset with ready := s.line.ready, cts := s.line.cts }
      portA := { PortUnit.reset with flags := probe }
      portB := { PortUnit.reset with flags := probe }
      free := s.free, pending := s.pending }

/-- SURVEY_CLOCK_TICK is one millisecond: the survey clock holds in IDLE, counts and saturates in RUNNING and STOPPED; every
running timer loses one millisecond; nothing else changes. One tick a millisecond for the timers too is the model's choice
(notes/assumptions/10). The survey clock moves at a tick alone, or returns to 0 by SURVEY_START, SURVEY_CLEAR, power-on or the
reset pin; it stays at 0 in IDLE and never steps back otherwise. -/
def Obligations.SurveyClockCountsAndIsNeverStepped : Prop :=
  (∀ s : State,
     let down := Option.map fun n : Nat => n - 1
     let t := s.kit.timers
     exec .surveyClockTick s = .next { s with
       survey := { s.survey with
         clock := if s.survey.state = .idle then s.survey.clock else min 0xFFFFFFFF (s.survey.clock + 1) }
       kit := { s.kit with
         timers := ⟨down t.c0, down t.c1, down t.c2, down t.c3, down t.c4, down t.c5, down t.c6, down t.c7⟩ }
       line := { s.line with
         inquiry := down s.line.inquiry, poll := down s.line.poll, stall := down s.line.stall, brk := down s.line.brk } }) ∧
  (∀ (c : Instr) (s t : State), TimeSound s → exec c s = .next t →
     (c = .surveyClockTick ∧ t.survey.clock = if s.survey.state = .idle then 0 else min 0xFFFFFFFF (s.survey.clock + 1)) ∨
     (((∃ p, c = .surveyStart p ∨ c = .surveyClear p) ∨ c = .powerOn ∨ c = .resetPin) ∧ t.survey.clock = 0) ∨
     (c ≠ .surveyClockTick ∧ t.survey.clock = s.survey.clock))

/-- The survey state changes on four events alone: an accepted SURVEY_START, the completion of a stop sequence, an accepted
SURVEY_CLEAR, power-on and the reset pin. -/
def Obligations.SurveyStateChangesOnFourEvents : Prop :=
  ∀ (c : Instr) (s t : State), StopSound s → exec c s = .next t → t.survey.state ≠ s.survey.state →
    ((∃ p, c = .surveyStart p) ∧ s.survey.state ≠ .running ∧ t.survey.state = .running ∧ t.survey.stopPending = .none) ∨
    (s.survey.state = .running ∧ s.survey.stopPending ≠ .none ∧ t.survey.state = .stopped ∧ t.survey.stopPending = .none ∧
      t.survey.yetToFinish = ⟨false, false, false, false⟩ ∧ blockDone t = ⟨true, true, true, true⟩) ∨
    ((∃ p, c = .surveyClear p) ∧ s.survey.state = .stopped ∧ t.survey.state = .idle) ∨
    ((c = .powerOn ∨ c = .resetPin) ∧ t.survey = ⟨.idle, .none, 0, [], 0, 0, 50, ⟨false, false, false, false⟩, 0, []⟩)

/-- SURVEY_START: the checks of R2 in their order, each refusal changing nothing but the port's answer; a body that is not a byte
count, that many bytes of site id in pairs, and the four words of a date, a time and a frequency is BAD_REQUEST, and so is a site
id of more than 16 bytes. An accepted SURVEY_START does the nine steps of R3 as one event: the
journal, the survey's record, the counters, the aggregator, the capture's context (R99) and the ports (R194) as written out; the
settings, the sample link, the detector, the ring, the kit, the notes, the print queue and the line stay. (What it leaves on its
way between blocks, and what becomes of a refused READ_NEXT's response, is in StopsBeginTheStopSequence.) -/
def Obligations.SurveyStartChecksThenBegins : Prop :=
  ((∀ (p : Port) (s : State) (body : List Word), waits p .surveyStart body s →
     body.length ≠ 1 + ((body.headD 0).toNat + 1) / 2 + 4 ∨ 16 < (body.headD 0).toNat →
     exec (.surveyStart p) s = .next (answered p .surveyStart .badRequest [] s)) ∧
   ∀ (p : Port) (s : State) (site : List Byte) (date h l freq : Word), site.length < 65536 →
     waits p .surveyStart (textWords site ++ [date, h, l, freq]) s →
     (16 < site.length → exec (.surveyStart p) s = .next (answered p .surveyStart .badRequest [] s)) ∧
     (site.length ≤ 16 →
       (s.survey.state = .running → exec (.surveyStart p) s = .next (answered p .surveyStart .wrongState [] s)) ∧
       (s.survey.state = .stopped → s.comp.queue ≠ [] →
         exec (.surveyStart p) s = .next (answered p .surveyStart .printActive [] s)) ∧
       (s.survey.state ≠ .running → (s.survey.state = .stopped → s.comp.queue = []) →
         (freq ≠ 50 ∧ freq ≠ 60) ∨ 86399999 < join32 h l →
         exec (.surveyStart p) s = .next (answered p .surveyStart .badValue [] s)))) ∧
  (∀ (p : Port) (s : State) (site : List Byte) (date h l freq : Word),
     waits p .surveyStart (textWords site ++ [date, h, l, freq]) s → site.length ≤ 16 → s.survey.state ≠ .running →
     (s.survey.state = .stopped → s.comp.queue = []) → (freq = 50 ∨ freq = 60) → join32 h l ≤ 86399999 →
     let number := (s.survey.number + 1) % 65536
     ∃ t, exec (.surveyStart p) s = .next t ∧
       let port := fun (q : Port) =>
         let u := s.port q
         let readNext := u.response.map Response.kind == some (some .readNext)
         let left := refusedReadNext u
         { u with
           waiting := if q = p then none else u.waiting
           response := if q = p then some ⟨.ok, [], some .surveyStart, .nothing, false⟩
             else if left then (t.port q).response else if readNext then none else u.response
           fetchDue := if left then (t.port q).fetchDue else if readNext then false else u.fetchDue
           cursor := 1, missed := 0, missedToClear := 0, arrivals := u.arrivals ++ [.mark] }
       t = { s with
       survey := { s.survey with
         state := .running, stopPending := .none, number := number, siteId := site
         startDate := date.toNat, startTime := join32 h l, freq := freq.toNat, clock := 0
         steps := [⟨0, date.toNat, join32 h l⟩] }
       journal := { s.journal with
         records := [⟨1, false, false, .survey, 0, number,
           .mark (.surveyStart site date.toNat (join32 h l) freq.toNat (maskOf s.kit.present.get) s.kit.faulted s.kit.enable)⟩]
         tailSeq := 1, tailSlot := 0, headSeq := 2, headSlot := 1, free := 8191
         lossEvent := 0, lossWave := 0, lossInterval := 0, lossMark := 0, armed := true }
       hcu := { s.hcu with
         halfNo := 0, prevBand := .all none, bandCounts := .all (List.replicate 8 0), entryCounts := .all (List.replicate 8 0)
         surveyOcc := ⟨0, 0, 0⟩, intervalOcc := ⟨0, 0, 0⟩, edgesChanged := false }
       agg := { s.agg with
         current := none, curN := none, first := none, highest := none, aggregated := 0, excluded := 0, missing := 0, unpowered := 0
         eventSeen := false, testSeen := false, sums := .all (List.replicate 50 0), nc := .all 0, exceed := .all (List.replicate 49 0) }
       cap := { s.cap with
         capturing := false, number := 0, linkedLow := false, linkedHigh := false, cycle0 := none, postDone := 0, firstWave := none
         stored := 0, stopTaken := false, refused := false }
       comp := { s.comp with lastPrinted := 0 }
       portA := port .a, portB := port .b, flight := t.flight })

/-- SURVEY_STOP: taken in RUNNING with no stop pending, it begins the stop sequence: every capture block is yet to finish and is
sent its notice. Otherwise WRONG_STATE. Neither changes anything else. SEQ_LIMIT_STOP: in RUNNING with no stop pending, a head
sequence at or above 0xFFFFFF00 begins a stop with reason SEQ_LIMIT (R6); otherwise nothing changes. The model's choices: the
limit test is a command of its own (notes/assumptions/5); a SURVEY_STOP or SURVEY_CLEAR with a body is BAD_REQUEST before its
other checks (notes/assumptions/36); SURVEY_START and SURVEY_CLEAR leave the messages between blocks on their way
(notes/assumptions/42); accepted, they discard the response of a refused READ_NEXT, which holds no snapshot, with the others of
its kind (notes/assumptions/46). -/
def Obligations.StopsBeginTheStopSequence : Prop :=
  (∀ (p : Port) (s : State) (body : List Word), waits p .surveyStop body s →
     (body ≠ [] → exec (.surveyStop p) s = .next (answered p .surveyStop .badRequest [] s)) ∧
     (body = [] → isRunning s → exec (.surveyStop p) s = .next (answered p .surveyStop .ok [] { s with
       survey := { s.survey with stopPending := .request p, yetToFinish := ⟨true, true, true, true⟩ }
       flight := { s.flight with stopNotices := ⟨true, true, true, true⟩ } })) ∧
     (body = [] → ¬ isRunning s → exec (.surveyStop p) s = .next (answered p .surveyStop .wrongState [] s))) ∧
  (∀ s : State,
     (isRunning s → 0xFFFFFF00 ≤ s.journal.headSeq → exec .seqLimitStop s = .next { s with
       survey := { s.survey with stopPending := .seqLimit, yetToFinish := ⟨true, true, true, true⟩ }
       flight := { s.flight with stopNotices := ⟨true, true, true, true⟩ } }) ∧
     (¬ (isRunning s ∧ 0xFFFFFF00 ≤ s.journal.headSeq) → exec .seqLimitStop s = .next s)) ∧
  (∀ (p : Port) (s : State) (body : List Word), waits p .surveyClear body s → body ≠ [] →
     exec (.surveyClear p) s = .next (answered p .surveyClear .badRequest [] s)) ∧
  ∀ (p : Port) (s t : State), exec (.surveyStart p) s = .next t ∨ exec (.surveyClear p) s = .next t →
     t.flight = s.flight ∧
     (t.survey.state ≠ s.survey.state → ∀ q : Port, refusedReadNext (s.port q) = true →
       (q ≠ p → (t.port q).response = none) ∧ (t.port q).fetchDue = false)

/-- SURVEY_CLEAR: taken in STOPPED with an empty print queue, where a body is BAD_REQUEST; refused with WRONG_STATE in IDLE and
RUNNING and with PRINT_ACTIVE in STOPPED with a job queued, a refusal changing nothing; an accepted clear does the five steps of
R7 as one event and keeps the rest, the counters, the settings and the ports' own figures (R194) among it. (What becomes of the
response of a refused READ_NEXT is in StopsBeginTheStopSequence.) -/
def Obligations.SurveyClearEmptiesTheSurvey : Prop :=
  (∀ (p : Port) (s : State) (body : List Word), waits p .surveyClear body s → body ≠ [] → s.survey.state = .stopped →
    s.comp.queue = [] → exec (.surveyClear p) s = .next (answered p .surveyClear .badRequest [] s)) ∧
  ∀ (p : Port) (s : State), waits p .surveyClear [] s →
    (s.survey.state ≠ .stopped → exec (.surveyClear p) s = .next (answered p .surveyClear .wrongState [] s)) ∧
    (s.survey.state = .stopped → s.comp.queue ≠ [] →
      exec (.surveyClear p) s = .next (answered p .surveyClear .printActive [] s)) ∧
    (s.survey.state = .stopped → s.comp.queue = [] →
      ∃ t, exec (.surveyClear p) s = .next t ∧
        let port := fun (q : Port) =>
          let u := s.port q
          let readNext := u.response.map Response.kind == some (some .readNext)
          let left := refusedReadNext u
          { u with
            waiting := if q = p then none else u.waiting
            response := if q = p then some ⟨.ok, [], some .surveyClear, .nothing, false⟩
              else if left then (t.port q).response else if readNext then none else u.response
            fetchDue := if left then (t.port q).fetchDue else if readNext then false else u.fetchDue
            cursor := 1, missed := 0, missedToClear := 0 }
        t = { s with
        journal := { s.journal with
          records := [], tailSeq := 1, tailSlot := 0, headSeq := 1, headSlot := 0, free := 8192
          lossEvent := 0, lossWave := 0, lossInterval := 0, lossMark := 0, armed := true }
        survey := { s.survey with state := .idle, clock := 0, steps := [] }
        hcu := { s.hcu with halfNo := 0 }
        comp := { s.comp with lastPrinted := 0 }
        portA := port .a, portB := port .b, flight := t.flight })

/-- The wall time at survey ms t is derived from the last entry of the table whose effect time is not above t; with an empty table
there is no current survey day (R11). SET_TIME: the checks of R10 in their order; an accepted step takes its entry and appends its
mark as one event: the n oldest records of its plan are reclaimed, cursors are pushed, the low-space warning is checked, each port
is told of the MARK, and the sequence limit is tested (R6, R22, R23, R32, R205); under CAPTURE_FIRST jobs yield until a plan gives
the slot (R26). An old wall date above 65535 does not fit the mark and is a free value (notes/assumptions/14). -/
def Obligations.WallTimeFollowsItsTable : Prop :=
  ((∀ (before after : List TimeStep) (e : TimeStep) (t : Nat), e.effect ≤ t → (∀ x ∈ after, t < x.effect) →
     wallTime (before ++ e :: after) t =
       some (e.date + (e.ms + (t - e.effect)) / 86400000, (e.ms + (t - e.effect)) % 86400000)) ∧
   (∀ (s : State) (day ms : Nat), wallTime s.survey.steps s.survey.clock = some (day, ms) → surveyDay s = some day) ∧
   ∀ s : State, s.survey.steps = [] → surveyDay s = none) ∧
  ((∀ (p : Port) (s : State) (body : List Word), waits p .setTime body s → body.length ≠ 3 →
     exec (.setTime p) s = .next (answered p .setTime .badRequest [] s)) ∧
   ∀ (p : Port) (s : State) (date h l : Word), waits p .setTime [date, h, l] s →
     (s.survey.state = .idle → exec (.setTime p) s = .next (answered p .setTime .noSurvey [] s)) ∧
     (s.survey.state ≠ .idle →
       (86399999 < join32 h l → exec (.setTime p) s = .next (answered p .setTime .badValue [] s)) ∧
       (join32 h l ≤ 86399999 → 0xFFFFFF00 ≤ s.journal.headSeq →
         exec (.setTime p) s = .next (answered p .setTime .wrongState [] s)) ∧
       (join32 h l ≤ 86399999 → s.journal.headSeq < 0xFFFFFF00 → 16 ≤ s.survey.steps.length →
         exec (.setTime p) s = .next (answered p .setTime .tableFull [] s)) ∧
       (join32 h l ≤ 86399999 → s.journal.headSeq < 0xFFFFFF00 → s.survey.steps.length < 16 → makeRoom 1 s = none →
         exec (.setTime p) s = .next (answered p .setTime .journalHeld [] s)) ∧
       (join32 h l ≤ 86399999 → s.journal.headSeq < 0xFFFFFF00 → s.survey.steps.length < 16 →
         (makeRoom 1 s).isSome = true → ∃ t od om, exec (.setTime p) s = .next t ∧
           t.survey.steps = s.survey.steps ++ [⟨s.survey.clock, date.toNat, join32 h l⟩] ∧
           (∀ d m, wallTime s.survey.steps s.survey.clock = some (d, m) → om = m ∧ (d ≤ 65535 → od = d)) ∧
           t.journal.records.getLast? = some ⟨s.journal.headSeq, false, false, originOf p, s.survey.clock, s.survey.number,
             .mark (.timeStep od om date.toNat (join32 h l))⟩ ∧
           t.journal.headSeq = s.journal.headSeq + 1 ∧
           (t.port p).waiting = none ∧ (t.port p).response = some ⟨.ok, [], some .setTime, .nothing, false⟩ ∧
           (t.survey.clock = s.survey.clock ∧ settingsOf t = settingsOf s) ∧
           t = { s with
             survey := t.survey, journal := t.journal, comp := t.comp, line := t.line, portA := t.portA, portB := t.portB
             flight := { s.flight with stopNotices := t.flight.stopNotices }, free := t.free } ∧
           ∀ n, planIs 1 n s → t = replied p .setTime .ok [] (limitTested
             (portAppended p (.mark (.timeStep od om date.toNat (join32 h l))) n { withdrawn p s with
               survey := { s.survey with steps := s.survey.steps ++ [⟨s.survey.clock, date.toNat, join32 h l⟩] }
               free := t.free }))) ∧
       (join32 h l ≤ 86399999 → s.journal.headSeq < 0xFFFFFF00 → s.survey.steps.length < 16 → yieldsFor (.setTime p) 1 s)))

/-! ### The journal (02) -/

/-- APPEND with no loss pending, when a plan gives the record its slots: the n oldest records are reclaimed, cursors below the new
tail are pushed, the record takes the head sequence and slot with its header filled in (R18), the low-space warning is checked,
each port is told of the append, the head sequence is tested against the reserve (R6), and the capture takes the answer to a WAVE
of the capture in progress. Nothing else changes. APPEND outside RUNNING, or of a record that is no block's own, is not that
command: nothing changes (the model's choice, notes/assumptions/6). -/
def Obligations.AppendReclaimsThenPlaces : Prop :=
  (∀ (b : Body) (test : Bool) (s : State) (n : Nat),
     s.survey.state = .running → hardwareBody b = true → lossPending s.journal = false → planIs (bodySlots b) n s →
     let j := s.journal
     let gone := usedSlots (j.records.take n)
     let free := j.free + gone - bodySlots b
     let ms := match b with | .event e => e.startMs | _ => s.survey.clock
     let port := fun (u : PortUnit) =>
       let u1 := flagsRaised (lowRaised free j) (pushedPort (j.tailSeq + n) u)
       { u1 with arrivals := u.arrivals ++ [bodyKind b] }
     ∃ t, exec (.append b test) s = .next t ∧
       t.journal = { j with
         records := j.records.drop n ++ [⟨j.headSeq, test, false, hardwareOrigin b, ms, s.survey.number, b⟩]
         tailSeq := j.tailSeq + n, tailSlot := (j.tailSlot + gone) % 8192
         headSeq := j.headSeq + 1, headSlot := (j.headSlot + bodySlots b) % 8192
         free := free, armed := decide (1024 ≤ free) } ∧
       t.portA = port s.portA ∧ t.portB = port s.portB ∧
       (0xFFFFFF00 ≤ j.headSeq + 1 ∧ s.survey.stopPending = .none →
         t.survey = { s.survey with stopPending := .seqLimit, yetToFinish := ⟨true, true, true, true⟩ } ∧
         t.flight = { s.flight with stopNotices := ⟨true, true, true, true⟩ }) ∧
       (¬ (0xFFFFFF00 ≤ j.headSeq + 1 ∧ s.survey.stopPending = .none) → t.survey = s.survey ∧ t.flight = s.flight) ∧
       (∀ w, b = .wave w → s.cap.capturing = true → s.cap.number = w.capture →
         t.cap = { s.cap with firstWave := some (s.cap.firstWave.getD j.headSeq), stored := s.cap.stored + 1 }) ∧
       ((∀ w, b = .wave w → s.cap.capturing = true → s.cap.number ≠ w.capture) → t.cap = s.cap) ∧
       t = { s with
         survey := t.survey, journal := t.journal, flight := t.flight, cap := t.cap, portA := t.portA, portB := t.portB }) ∧
  (∀ (b : Body) (test : Bool) (s : State), s.survey.state ≠ .running ∨ hardwareBody b = false →
     exec (.append b test) s = .next s)

/-- APPEND under PRINT_FIRST when no plan gives the slots: the record is dropped and counted under its kind, LOSS is raised on
both ports, the capture is told when its WAVE was refused, and nothing else changes: no record is reclaimed, no cursor moves. (The
capture takes that refusal as an event of its own: notes/assumptions/7.) APPEND with losses pending, when a plan gives one slot
more than the record needs: the MARK LOSS takes the head sequence with the four counts as they stood, the record takes the next
number, and the counters are zero; the rest is as for an append that carries no mark. Under PRINT_FIRST with a plan for the record
and none for one slot more, the record is appended as with no loss pending, and the counters keep their counts. -/
def Obligations.LossesAreCountedThenMarked : Prop :=
  (∀ (b : Body) (test : Bool) (s : State),
     s.survey.state = .running → hardwareBody b = true → s.journal.policy = .printFirst → noPlan (bodySlots b) s →
     s.journal.headSeq < 0xFFFFFF00 →
     let j := s.journal
     let up := fun (n : Nat) => min 0xFFFFFFFF (n + 1)
     let refusedHere := match b with | .wave w => s.cap.capturing && s.cap.number == w.capture | _ => false
     exec (.append b test) s = .next { s with
       journal := match bodyKind b with
         | .event => { j with lossEvent := up j.lossEvent }
         | .wave => { j with lossWave := up j.lossWave }
         | .interval => { j with lossInterval := up j.lossInterval }
         | _ => { j with lossMark := up j.lossMark }
       portA := flagsRaised 0x20 s.portA, portB := flagsRaised 0x20 s.portB
       cap := { s.cap with refused := s.cap.refused || refusedHere } }) ∧
  (∀ (b : Body) (test : Bool) (s : State) (n : Nat),
     s.survey.state = .running → hardwareBody b = true → lossPending s.journal = true → planIs (bodySlots b + 1) n s →
     let j := s.journal
     let gone := usedSlots (j.records.take n)
     let free := j.free + gone - (bodySlots b + 1)
     let ms := match b with | .event e => e.startMs | _ => s.survey.clock
     let port := fun (u : PortUnit) =>
       let u1 := flagsRaised (lowRaised free j) (pushedPort (j.tailSeq + n) u)
       { u1 with arrivals := u.arrivals ++ [.mark, bodyKind b] }
     ∃ t, exec (.append b test) s = .next t ∧
       t.journal = { j with
         records := j.records.drop n ++
           [⟨j.headSeq, false, false, .survey, s.survey.clock, s.survey.number,
             .mark (.loss j.lossEvent j.lossWave j.lossInterval j.lossMark)⟩,
            ⟨j.headSeq + 1, test, false, hardwareOrigin b, ms, s.survey.number, b⟩]
         tailSeq := j.tailSeq + n, tailSlot := (j.tailSlot + gone) % 8192
         headSeq := j.headSeq + 2, headSlot := (j.headSlot + 1 + bodySlots b) % 8192
         free := free, armed := decide (1024 ≤ free), lossEvent := 0, lossWave := 0, lossInterval := 0, lossMark := 0 } ∧
       t.portA = port s.portA ∧ t.portB = port s.portB ∧
       (0xFFFFFF00 ≤ j.headSeq + 2 ∧ s.survey.stopPending = .none →
         t.survey = { s.survey with stopPending := .seqLimit, yetToFinish := ⟨true, true, true, true⟩ } ∧
         t.flight = { s.flight with stopNotices := ⟨true, true, true, true⟩ }) ∧
       (¬ (0xFFFFFF00 ≤ j.headSeq + 2 ∧ s.survey.stopPending = .none) → t.survey = s.survey ∧ t.flight = s.flight) ∧
       (∀ w, b = .wave w → s.cap.capturing = true → s.cap.number = w.capture →
         t.cap = { s.cap with firstWave := some (s.cap.firstWave.getD (j.headSeq + 1)), stored := s.cap.stored + 1 }) ∧
       ((∀ w, b = .wave w → s.cap.capturing = true → s.cap.number ≠ w.capture) → t.cap = s.cap) ∧
       t = { s with
         survey := t.survey, journal := t.journal, flight := t.flight, cap := t.cap, portA := t.portA, portB := t.portB }) ∧
  ∀ (b : Body) (test : Bool) (s : State) (n : Nat),
     s.survey.state = .running → hardwareBody b = true → lossPending s.journal = true → s.journal.policy = .printFirst →
     noPlan (bodySlots b + 1) s → planIs (bodySlots b) n s →
     let j := s.journal
     ∃ u, exec (.append b test) { s with
         journal := { j with lossEvent := 0, lossWave := 0, lossInterval := 0, lossMark := 0 } } = .next u ∧
       exec (.append b test) s = .next { u with journal := { u.journal with
         lossEvent := j.lossEvent, lossWave := j.lossWave, lossInterval := j.lossInterval, lossMark := j.lossMark } }

/-- Under CAPTURE_FIRST an append always succeeds: jobs yield until the record fits, and no loss is counted. While no plan gives
the slots (one more with a loss pending), the job with the lowest hold yields, the front of the queue first among equals (R26):
its hold is dropped; a queued job leaves as YIELDED; the head job's closing becomes YIELD, or it leaves from SUSPENDED (R175). The
append then goes on as it would from there. A footer's feed and cut under way: notes/assumptions/17; the line when a suspended job
leaves: 19. -/
def Obligations.CaptureFirstAlwaysAppends : Prop :=
  (∀ (b : Body) (test : Bool) (s : State),
    s.survey.state = .running → hardwareBody b = true → s.journal.policy = .captureFirst →
    JournalSound s.journal → QueueSound s.comp →
    ∃ t r, exec (.append b test) s = .next t ∧ t.journal.records.getLast? = some r ∧ r.body = b ∧ r.test = test ∧
      r.origin = hardwareOrigin b ∧ r.seq + 1 = t.journal.headSeq ∧ s.journal.headSeq ≤ r.seq ∧
      (t.journal.lossEvent = 0 ∧ t.journal.lossWave = 0 ∧ t.journal.lossInterval = 0 ∧ t.journal.lossMark = 0) ∧
      t.journal.free + usedSlots t.journal.records = 8192) ∧
  ∀ (b : Body) (test : Bool) (s : State) (before : List Job) (j : Job) (after : List Job),
    s.survey.state = .running → hardwareBody b = true → s.journal.policy = .captureFirst →
    JournalSound s.journal → QueueSound s.comp →
    noPlan (bodySlots b + if lossPending s.journal then 1 else 0) s → yieldsFirst before j after s →
    exec (.append b test) s = exec (.append b test) (yielded before j after s)

/-- A stored record changes in one field only: SUPERSEDED may be set, on a NOTE, by NOTE_PART (R18, R31). Under PRINT_FIRST no
command but SURVEY_START, SURVEY_CLEAR, power-on and the reset pin takes away a record at or above the hold point; the record's
body stays as it was stored. -/
def Obligations.StoredRecordsStay : Prop :=
  (∀ (c : Instr) (s t : State) (r : Record), JournalSound s.journal → r ∈ s.journal.records → exec c s = .next t →
     ((∃ p, c = .surveyStart p ∨ c = .surveyClear p) ∨ c = .powerOn ∨ c = .resetPin) ∨
     r ∈ t.journal.records ∨ r.seq < t.journal.tailSeq ∨
       (r.kind = .note ∧ (∃ p, c = .notePart p) ∧ { r with superseded := true } ∈ t.journal.records)) ∧
  (∀ (c : Instr) (s t : State) (h : Nat) (r : Record),
     s.journal.policy = .printFirst → holdPoint s = some h → r ∈ s.journal.records → h ≤ r.seq → exec c s = .next t →
     (∃ p, c = .surveyStart p ∨ c = .surveyClear p) ∨ c = .powerOn ∨ c = .resetPin ∨
       ∃ r' ∈ t.journal.records, r'.seq = r.seq ∧ r'.body = r.body ∧ r'.surveyMs = r.surveyMs ∧ r'.origin = r.origin)

/-- A port's cursor is moved by SEEK, by a reclaim that passes it, by the completed fetch of a READ_NEXT response, and by
SURVEY_START, SURVEY_CLEAR, power-on and the reset pin, and by nothing else (R33). A flag is cleared only by the complete fetch of
a STATUS response that reported it, by power-on and by the reset pin. -/
def Obligations.CursorsAndFlagsChangeOnlyByTheirRules : Prop :=
  (∀ (c : Instr) (s t : State) (p : Port), CursorSound s → exec c s = .next t → (t.port p).cursor ≠ (s.port p).cursor →
     c = .seek p ∨ c = .fetchComplete p ∨
     ((t.port p).cursor = t.journal.tailSeq ∧ s.journal.tailSeq < t.journal.tailSeq) ∨
     (((∃ q, c = .surveyStart q ∨ c = .surveyClear q) ∨ c = .powerOn ∨ c = .resetPin) ∧ (t.port p).cursor = 1)) ∧
  (∀ (c : Instr) (s t : State) (p : Port) (f : Flag), exec c s = .next t → flagSet (s.port p) f = true →
     flagSet (t.port p) f = false →
     c = .powerOn ∨ c = .resetPin ∨
       (c = .fetchComplete p ∧ (s.port p).clearSet.getLsbD (flagIndex f) = true ∧
         ∃ r, (s.port p).response = some r ∧ r.delivered = false ∧ ∃ x y z, r.delivery = .status x y z))

/-- READ_NEXT: a body that is not one word is BAD_REQUEST, a count outside 1 to 32 BAD_VALUE (R34); otherwise the response carries
the preamble of R35 and whole records from the cursor upward, each as its bytes are laid out (R209, R210; codes of MARK bodies
that the layout does not list: notes/assumptions/15), and the cursor and missed count stay. SEEK sets the port's cursor: to a
number, clamped to the tail and the head; to the tail; to the head (R38). Its answer carries the cursor set, the tail and the
head, in words of the model's choice (notes/assumptions/11); a malformed body, an unknown form among them (notes/assumptions/12),
is BAD_REQUEST and moves nothing. The missed count stays. -/
def Obligations.ReadNextAndSeek : Prop :=
  (∀ (p : Port) (s : State) (body : List Word), waits p .readNext body s →
     (body.length ≠ 1 → exec (.readNext p) s = .next (answered p .readNext .badRequest [] s)) ∧
     ∀ n : Word, body = [n] →
       (n.toNat = 0 ∨ 32 < n.toNat → exec (.readNext p) s = .next (answered p .readNext .badValue [] s)) ∧
       (1 ≤ n.toNat → n.toNat ≤ 32 → ∃ rs more : List Record,
         s.journal.records.filter (fun r => decide ((s.port p).cursor ≤ r.seq)) = rs ++ more ∧
         let bytes := fun (r : Record) => 2 * (recordCopy r).length
         rs.length ≤ n.toNat ∧ (rs.map bytes).sum ≤ 2032 ∧
         (rs.length = n.toNat ∨ more = [] ∨ ∃ r, more.head? = some r ∧ 2032 < (rs.map bytes).sum + bytes r) ∧
         exec (.readNext p) s = .next (s.modPort p fun u => { u with
           waiting := none
           response := some ⟨.ok,
             [word rs.length] ++ words32 s.journal.tailSeq ++ words32 s.journal.headSeq ++ words32 u.missed
               ++ [word s.journal.free] ++ rs.flatMap recordCopy,
             some .readNext, .readNext u.cursor ((rs.head?.map Record.seq).getD u.cursor) rs.length, false⟩ }))) ∧
  (∀ (p : Port) (s : State) (body : List Word), waits p .seek body s →
     let moved := fun (c : Nat) (code : ResultCode) => Host.Outcome.next
       ((answered p .seek code (words32 c ++ words32 s.journal.tailSeq ++ words32 s.journal.headSeq) s).modPort p
         fun u => { u with cursor := c })
     (∀ h l : Word, body = [0, h, l] →
       let n := join32 h l
       (n < s.journal.tailSeq → s.journal.tailSeq ≤ s.journal.headSeq →
         exec (.seek p) s = moved s.journal.tailSeq .okClamped) ∧
       (s.journal.tailSeq ≤ n → n ≤ s.journal.headSeq → exec (.seek p) s = moved n .ok) ∧
       (s.journal.headSeq < n → s.journal.tailSeq ≤ s.journal.headSeq →
         exec (.seek p) s = moved s.journal.headSeq .okClamped)) ∧
     (body = [1] → exec (.seek p) s = moved s.journal.tailSeq .ok) ∧
     (body = [2] → exec (.seek p) s = moved s.journal.headSeq .ok) ∧
     (body.length ≠ (if body.headD 0 = 0 then 3 else 1) ∨ 2 < (body.headD 0).toNat →
       exec (.seek p) s = .next (answered p .seek .badRequest [] s)))

/-! ### Master ports (11) -/

/-- REQUEST_FRAME: the release of a request frame discards the port's response and withdraws its waiting request. A well-formed
frame of a known kind then waits for its owner (STATUS and PORT_CONFIG are taken at once, in statements of their own); one of an
unknown kind is answered BAD_REQUEST; a malformed one makes nothing. The KC8 clocks out zeros. A frame whose select is not
released is held in the intake and has no other effect; while it is held no other period begins on that port; a released period of
no word and no bit has no effect (R195). The model's choices: a period's words so far are given by one command after another, and
a period whose first word is the FETCH or the reset word is another row's (notes/assumptions/30); REQUEST_FRAME does what the rows
STATUS and PORT_CONFIG do with the frame's body (notes/assumptions/3). -/
def Obligations.RequestFrameReachesThePort : Prop :=
  (∀ (p : Port) (s : State) (words : List Word) (extra : Fin 16),
     frameWf words extra.val = true → follows words (s.port p) →
     let ended := periodEnded words.length
     (∀ (h : Word) (body : List Word) (k : RequestKind), words = h :: body → extra = 0 → body.length = h.toNat % 256 →
       requestOfCode (h.toNat / 256) = some k → k ≠ .status → k ≠ .portConfig →
       exec (.requestFrame p words (.released extra)) s = .next (s.modPort p fun u => { ended u with waiting := some ⟨k, body⟩ })) ∧
     (∀ (h : Word) (body : List Word), words = h :: body → extra = 0 → body.length = h.toNat % 256 →
       requestOfCode (h.toNat / 256) = none →
       exec (.requestFrame p words (.released extra)) s = .next (s.modPort p fun u =>
         { ended u with response := some ⟨.badRequest, [], none, .nothing, false⟩ })) ∧
     ((words = [] ∨ extra ≠ 0 ∨ ∃ h body, words = h :: body ∧ body.length ≠ h.toNat % 256) →
       exec (.requestFrame p words (.released extra)) s = .next (s.modPort p ended))) ∧
  (∀ (p : Port) (s : State) (words : List Word),
     words.head? ≠ some 0xFEFE → words.head? ≠ some 0xFFFF → follows words (s.port p) →
     exec (.requestFrame p words .asserted) s = .next (s.modPort p (periodHeld words)) ∧
     (words = [] → exec (.requestFrame p words (.released 0)) s = .next (s.modPort p fun u =>
       { u with intake := none, answer := [], out := [] }))) ∧
  (∀ (p : Port) (s : State) (words : List Word) (select : Select),
     ¬ follows words (s.port p) ∨ words.head? = some 0xFEFE ∨ words.head? = some 0xFFFF →
     exec (.requestFrame p words select) s = .next s) ∧
  (∀ (p : Port) (s : State) (body : List Word), body.length ≤ 255 →
     exec (.requestFrame p (word (256 * 7 + body.length) :: body) (.released 0)) s = exec (.status p body) s ∧
     exec (.requestFrame p (word (256 * 23 + body.length) :: body) (.released 0)) s = exec (.portConfig p body) s)

/-- STATUS: with a body BAD_REQUEST; otherwise the response carries the figures of R207 as they stand, group by group, the
clear-on-fetch set becomes the flags then set and the missed count to clear the missed count then reported; nothing else changes.
While another select period holds the intake the frame does not come about. The words of the body are the model's choice
(notes/assumptions/11), and so is the row for the frame (notes/assumptions/3, 30). -/
def Obligations.StatusReportsAndMarksForClearing : Prop :=
  ∀ (p : Port) (s : State) (body : List Word),
    let frame := word (256 * 7 + body.length) :: body
    let ended := periodEnded (body.length + 1)
    let flag := fun (b : Bool) => if b then (1 : Word) else 0
    let mask := fun (f : Nat → Bool) => word (((List.range 8).map fun c => if f c then 2 ^ c else 0).sum)
    let context := fun (c : DetContext) => match c.state with | .idle => (0 : Word) | .opened => 1 | .closing => 2
    let late := fun (c : Nat) =>
      let e := s.kit.entries.get c
      match wallTime s.survey.steps s.survey.clock with
      | some (day, _) => e.kind != .none && e.calDue != 0 && decide (e.calDue < day)
      | none => false
    (¬ follows frame (s.port p) → exec (.status p body) s = .next s) ∧
    (follows frame (s.port p) → body ≠ [] → exec (.status p body) s = .next (s.modPort p fun u =>
      { ended u with response := some ⟨.badRequest, [], some .status, .nothing, false⟩ })) ∧
    (follows frame (s.port p) → body = [] → exec (.status p body) s = .next (s.modPort p fun u => { ended u with
      clearSet := u.flags, missedToClear := u.missed
      response := some ⟨.ok,
        [word ((if (holdPoint s).isSome then 1 else 0) + if s.comp.queue = [] then 0 else 2),
          (match s.survey.state with | .idle => 0 | .running => 1 | .stopped => 2),
          (match s.survey.stopPending with | .none => 0 | .request _ => 1 | .seqLimit => 2), word s.survey.number]
          ++ textWords s.survey.siteId ++ [word s.survey.freq]
          ++ words32 s.journal.tailSeq ++ words32 s.journal.headSeq ++ [word s.journal.free]
          ++ (match holdPoint s with | some h => words32 h | none => [])
          ++ words32 s.journal.lossEvent ++ words32 s.journal.lossWave ++ words32 s.journal.lossInterval ++ words32 s.journal.lossMark
          ++ words32 u.cursor ++ words32 u.missed ++ [u.flags.setWidth 16, u.enable.setWidth 16, u.kinds.setWidth 16, word u.divider]
          ++ [(match s.link.state with | .hunt => 0 | .confirm => 1 | .locked => 2 | .brk => 3 | .loopback => 4)]
          ++ words32 s.link.badTotal ++ [context s.det.low, context s.det.high, flag s.cap.capturing]
          ++ [mask s.kit.present.get, mask late, flag s.kit.faulted, flag (!s.kit.supplyOn), flag s.kit.enable, flag s.kit.faultActive,
            mask fun c => (s.kit.entries.get c).kind == .flex && !s.kit.enable]
          ++ (match s.comp.queue with
            | [] => []
            | j :: _ => [word j.number, match j.state with | .queued => 0 | .printing => 1 | .stalled => 2 | .suspended => 3])
          ++ [(match s.line.state with
              | .idle => 0 | .inquiring => 1 | .sending => 2 | .stalled => 3 | .suspended => 4 | .brk => 5),
            word (flagsValue [s.line.held.paperLow, s.line.held.paperOut, s.line.held.coverOpen, s.line.held.headHot,
              s.line.held.bufferFull]), flag s.line.ready, flag s.line.cts]
          ++ [word u.framing, word u.parity, word u.overrun],
        some .status, .status u.framing u.parity u.overrun, false⟩ }))

/-- PORT_CONFIG stores the enable mask, the kind mask and the divider, clamped to 1 to 15, sets the record count to 0, and answers
with the values stored; a body that is not three words is BAD_REQUEST. The flags and the other port stay. PORT_RESET: the intake
is IDLE, the waiting request is withdrawn, the response discarded, the clear-on-fetch set and the missed count to clear are empty,
this port's note context is EMPTY; everything else stays, on both ports; zeros go out for every word of the period, which is held
until its release and keeps any other from its port (R195). NEW_RECORD_DIVIDER: a port takes the append of a record: of a kind in
its mask, the count rises, and at the divider NEW_RECORD is raised and the count returns to 0; of another kind, nothing counts
(R205). The model's choices: the words of PORT_CONFIG's answer (notes/assumptions/11), mask bits beyond the members
(notes/assumptions/12), the words of a period (notes/assumptions/30), the row for an append at a port (notes/assumptions/8). -/
def Obligations.PortConfigAndPortReset : Prop :=
  (∀ (p : Port) (s : State) (body : List Word),
     let frame := word (256 * 23 + body.length) :: body
     let ended := periodEnded (body.length + 1)
     (¬ follows frame (s.port p) → exec (.portConfig p body) s = .next s) ∧
     (follows frame (s.port p) → body.length ≠ 3 → exec (.portConfig p body) s = .next (s.modPort p fun u =>
       { ended u with response := some ⟨.badRequest, [], some .portConfig, .nothing, false⟩ })) ∧
     ∀ e k d : Word, body = [e, k, d] → follows frame (s.port p) →
       let divider := max 1 (min 15 d.toNat)
       exec (.portConfig p body) s = .next (s.modPort p fun u => { ended u with
         enable := e.setWidth 8, kinds := k.setWidth 6, divider := divider, recordCount := 0
         response := some ⟨if divider = d.toNat then .ok else .okClamped,
           [word (e.setWidth 8 : BitVec 8).toNat, word (k.setWidth 6 : BitVec 6).toNat, word divider],
           some .portConfig, .nothing, false⟩ })) ∧
  (∀ (p : Port) (more : Nat) (s : State),
     let words := 0xFFFF :: List.replicate more 0
     (¬ follows words (s.port p) → ∀ released, exec (.portReset ⟨p, more, released⟩) s = .next s) ∧
     (follows words (s.port p) →
       exec (.portReset ⟨p, more, false⟩) s = .next (s.modPort p (periodHeld words)) ∧
       exec (.portReset ⟨p, more, true⟩) s = .next ((s.modPort p fun u => { u with
         intake := none, waiting := none, response := none, fetchDue := false, clearSet := 0, missedToClear := 0, answer := []
         out := List.replicate (more + 1) 0 }).setNote p .empty))) ∧
  ∀ (p : Port) (s : State) (k : RecordKind) (rest : List RecordKind), (s.port p).arrivals = k :: rest →
     let wanted := (s.port p).kinds.getLsbD (kindCode k - 1)
     (wanted = true → (s.port p).recordCount + 1 < (s.port p).divider →
       exec (.newRecordDivider p) s = .next (s.modPort p fun u =>
         { u with arrivals := rest, recordCount := u.recordCount + 1 })) ∧
     (wanted = true → (s.port p).divider ≤ (s.port p).recordCount + 1 →
       exec (.newRecordDivider p) s = .next (s.modPort p fun u =>
         { u with arrivals := rest, recordCount := 0, flags := u.flags ||| 1, clearSet := u.clearSet &&& 0xFE })) ∧
     (wanted = false → exec (.newRecordDivider p) s = .next (s.modPort p fun u => { u with arrivals := rest }))

/-- FETCH_FRAME: the port clocks out NONE, PENDING, or READY with the result code, the body's length and the body, as many words
as the master clocks, zeros after the last. The answer is read at the frame's start and kept until its release; the fetch is
complete when the answer's last word is out (notes/assumptions/24), and changes nothing else. An unreleased frame holds the intake
(R195, notes/assumptions/30). FETCH_COMPLETE: the first complete fetch of a response applies its delivery and marks it delivered.
READ_NEXT: the missed count falls by the delivered records that pushes passed over, and the cursor becomes the larger of its value
and the last delivered number plus one. STATUS: the flags still in the clear-on-fetch set, the missed count to clear, and the
reported printer errors are taken away. Any other response, a later fetch, or no complete fetch: nothing. -/
def Obligations.FetchesDeliverOnce : Prop :=
  (∀ (p : Port) (n : Nat) (released : Bool) (s : State),
     let u := s.port p
     let words := 0xFEFE :: List.replicate n 0
     let answer : List Word :=
       if u.answer ≠ [] then u.answer
       else if u.waiting ≠ none then [0x0100]
       else match u.response with
         | none => [0x0000]
         | some r => word (0x0200 + resultCode r.code) :: word r.body.length :: r.body
     let before := match u.intake with | none => 0 | some held => held.length - 1
     let whole := decide (2 ≤ answer.length ∧ u.response ≠ none ∧ before < answer.length ∧ answer.length ≤ n)
     (¬ follows words u → exec (.fetchFrame p ⟨n, released⟩) s = .next s) ∧
     (follows words u → exec (.fetchFrame p ⟨n, released⟩) s = .next (s.modPort p fun u => { u with
       intake := if released then none else some words
       answer := if released then [] else answer
       out := (answer ++ List.replicate n 0).take n, fetchDue := u.fetchDue || whole }))) ∧
  ((∀ (p : Port) (s : State), (s.port p).fetchDue = false → exec (.fetchComplete p) s = .next s) ∧
   ∀ (p : Port) (s : State) (r : Response), (s.port p).response = some r → (s.port p).fetchDue = true →
     let done := some { r with delivered := true }
     (r.delivered = true ∨ r.delivery = .nothing →
       exec (.fetchComplete p) s = .next (s.modPort p fun u => { u with response := done, fetchDue := false })) ∧
     (∀ cursor first count, r.delivered = false → r.delivery = .readNext cursor first count →
       exec (.fetchComplete p) s = .next (s.modPort p fun u => { u with
         response := done, fetchDue := false
         missed := u.missed - ((List.range count).filter fun i =>
           decide (cursor ≤ first + i) && decide (first + i < u.cursor)).length
         cursor := if count = 0 then u.cursor else max u.cursor (first + count) })) ∧
     ∀ f q o, r.delivered = false → r.delivery = .status f q o →
       exec (.fetchComplete p) s = .next (s.modPort p fun u => { u with
         response := done, fetchDue := false
         flags := u.flags &&& ~~~u.clearSet, clearSet := 0, missed := u.missed - u.missedToClear, missedToClear := 0
         framing := u.framing - f, parity := u.parity - q, overrun := u.overrun - o }))

/-- A port's attention line is asserted while at least one flag in its enable mask is set, and deasserted otherwise. A flag
outside the enable mask is kept and asserts the line once it is enabled; the other port's flags and mask do not matter.
(NEW_RECORD's divider is in PortConfigAndPortReset.) -/
def Obligations.AttentionFollowsEnabledFlags : Prop :=
  ∀ u : PortUnit, attentionLine u = true ↔
     ∃ f : Flag, u.flags.getLsbD (flagIndex f) = true ∧ u.enable.getLsbD (flagIndex f) = true

/-! ### Settings (01, and each owner's chapter) -/

/-- SET in IDLE, for every item but PROBE: a body of the wrong length is BAD_REQUEST; a value its owner refuses is BAD_VALUE; an
accepted value is stored, clamped where the item clamps, with OK or OK_CLAMPED, and nothing else changes: no record, no counter.
(A receiver in CONFIRM or LOCKED whose sync word changes, the enable output after SUPPLY: statements of their own.) A SET that
names no item, or PROBE, is BAD_REQUEST whichever SET row takes it; a SET of another item is another row's. The model's choices:
that reading of the rows (notes/assumptions/12), and the item word, which is the SETTING record's item code
(notes/assumptions/45). -/
def Obligations.SetInIdleStoresTheValue : Prop :=
  (∀ (i : Item) (p : Port) (s : State) (v : List Word), i ≠ .probe →
     waits p .set (word (itemCode i) :: v) s → s.survey.state = .idle → IntervalIdle s →
     (v.length ≠ valueLength i → exec (setCommand i p) s = .next (answered p .set .badRequest [] s)) ∧
     (v.length = valueLength i →
       (accepts i v (settingsOf s) = none → exec (setCommand i p) s = .next (answered p .set .badValue [] s)) ∧
       ∀ x c, accepts i v (settingsOf s) = some (x, c) → i ≠ .supply →
         (settingsOf s = x ∨ (s.link.state ≠ .confirm ∧ s.link.state ≠ .locked) ∨ (i ≠ .syncA ∧ i ≠ .syncB ∧ i ≠ .syncF)) →
         exec (setCommand i p) s = .next (answered p .set (if c then .okClamped else .ok) [] (withSettings x s)))) ∧
  (∀ (i : Item) (p : Port) (s : State) (body : List Word), i ≠ .probe → waits p .set body s →
     ((body = [] ∨ itemOfCode (body.headD 0).toNat = none ∨ itemOfCode (body.headD 0).toNat = some .probe) →
       exec (setCommand i p) s = .next (answered p .set .badRequest [] s)) ∧
     ∀ (k : Item) (v : List Word), body = word (itemCode k) :: v → k ≠ i → k ≠ .probe → exec (setCommand i p) s = .next s)

/-- SET in a survey, for every item but PROBE: in the sequence reserve WRONG_STATE; a refused value BAD_VALUE; no room for the
record JOURNAL_HELD; each changes nothing but the answer. An accepted SET changes the setting and appends its SETTING record with
the old and the new value, as GET gives them, as one event: the append with its reclaim, pushes, low-space warning and arrivals
(R22, R23, R32, R205), then what the owner does with a change: a changed sync word returns CONFIRM to HUNT and takes LOCKED to
HUNT, with the source loss notice, LINK and, in RUNNING, MARK LINK_DOWN of reason SYNC_CHANGE (R45, R57), and so on for each item,
then the limit test (R6). PROBE_SET in a survey runs the same checks, stores its entry with a SETTING record of item PROBE, and
has the effects of R131 to R134: the debounce timer, present, the probe notice, PROBE, and in RUNNING the mark of cause ENTRY.
Under CAPTURE_FIRST jobs yield until a plan gives the slot (R26). The model's choices: the four-word form of PROBE_SET's body,
bits 2 to 7 of whose second word are disregarded (notes/assumptions/12; its six-word form: SyncProbeAndSupplySetInIdle), the kind
that a probe mark carries (25), the bad-frame run that a sync word change keeps (28), a split while a stop is pending (38), and
the item word's code (45). -/
def Obligations.SetInASurveyIsJournaled : Prop :=
  (∀ (i : Item) (p : Port) (s : State) (v : List Word), i ≠ .probe →
     waits p .set (word (itemCode i) :: v) s → s.survey.state ≠ .idle → v.length = valueLength i →
     (0xFFFFFF00 ≤ s.journal.headSeq → exec (setCommand i p) s = .next (answered p .set .wrongState [] s)) ∧
     (s.journal.headSeq < 0xFFFFFF00 →
       (accepts i v (settingsOf s) = none → exec (setCommand i p) s = .next (answered p .set .badValue [] s)) ∧
       ∀ x c, accepts i v (settingsOf s) = some (x, c) →
         (makeRoom 1 s = none → exec (setCommand i p) s = .next (answered p .set .journalHeld [] s)) ∧
         ((makeRoom 1 s).isSome = true → JournalSound s.journal → SettingsSound (settingsOf s) →
           ∃ t old new, exec (setCommand i p) s = .next t ∧ settingsOf t = x ∧
             (t.port p).waiting = none ∧
             (t.port p).response = some ⟨if c then .okClamped else .ok, [], some .set, .nothing, false⟩ ∧
             valueWords i (v.getD 0 0).toNat s = some old ∧ valueWords i (v.getD 0 0).toNat t = some new ∧
             (⟨s.journal.headSeq, false, false, originOf p, s.survey.clock, s.survey.number,
               .setting ⟨i, if i = .limit then (v.getD 0 0).toNat else 0, c, old, new⟩⟩ : Record) ∈ t.journal.records ∧
             (t.det = (withSettings x s).det ∧ t.cap = (withSettings x s).cap ∧ t.gen = s.gen ∧ t.noteA = s.noteA ∧
               t.noteB = s.noteB ∧ t.survey.clock = s.survey.clock ∧ t.survey.steps = s.survey.steps) ∧
             ∀ n, planIs 1 n s → IntervalIdle s →
               let record := Body.setting ⟨i, if i = .limit then (v.getD 0 0).toNat else 0, c, old, new⟩
               ∃ u, ownerActs i x (portAppended p record n (withdrawn p s)) u ∧
                 t = replied p .set (if c then .okClamped else .ok) [] (limitTested u)) ∧
         yieldsFor (setCommand i p) 1 s)) ∧
  ∀ (p : Port) (s : State) (c k d due : Word), waits p .probeSet [c, k, d, due] s → s.survey.state ≠ .idle →
    (0xFFFFFF00 ≤ s.journal.headSeq → exec (.probeSet p) s = .next (answered p .probeSet .wrongState [] s)) ∧
    (s.journal.headSeq < 0xFFFFFF00 →
      (7 < c.toNat ∨ probeKindOfCode (k.toNat / 256) = none ∨
          (∃ kind, probeKindOfCode (k.toNat / 256) = some kind ∧ kindAllowed c.toNat kind = false) →
        exec (.probeSet p) s = .next (answered p .probeSet .badValue [] s)) ∧
      ∀ kind, c.toNat ≤ 7 → probeKindOfCode (k.toNat / 256) = some kind → kindAllowed c.toNat kind = true →
        let lead := kind == .voltageLead
        let level := max 1000 (min 32767 d.toNat)
        let entry := ProbeEntry.mk kind (if lead then some level else none) (lead && k.getLsbD 0) (k.getLsbD 1) due.toNat
        let clamped := lead && level != d.toNat
        let fields := fun (e : ProbeEntry) =>
          [word (256 * probeKindCode e.kind + (if e.inDetector then 1 else 0) + if e.activeHigh then 2 else 0),
            word (e.level.getD 0), word e.calDue]
        (makeRoom 1 s = none → exec (.probeSet p) s = .next (answered p .probeSet .journalHeld [] s)) ∧
        ((makeRoom 1 s).isSome = true → JournalSound s.journal → ∃ t, exec (.probeSet p) s = .next t ∧
          settingsOf t = { settingsOf s with entries := s.kit.entries.set c.toNat entry } ∧
          t.kit.present = s.kit.present.set c.toNat
            (if entry = s.kit.entries.get c.toNat then s.kit.present.get c.toNat
             else s.kit.settled.get c.toNat && kind != .none) ∧
          (t.kit.settled = s.kit.settled ∧ t.kit.sense = s.kit.sense ∧ t.kit.enable = s.kit.enable ∧ t.link = s.link ∧
            t.hcu = s.hcu ∧ t.det = s.det ∧ t.agg = s.agg ∧ t.survey.clock = s.survey.clock) ∧
          (t.port p).waiting = none ∧
          (t.port p).response = some ⟨if clamped then .okClamped else .ok, [], some .probeSet, .nothing, false⟩ ∧
          let record := Body.setting ⟨.probe, c.toNat, clamped, fields (s.kit.entries.get c.toNat), fields entry⟩
          (⟨s.journal.headSeq, false, false, originOf p, s.survey.clock, s.survey.number, record⟩ : Record) ∈ t.journal.records ∧
          ∀ n, planIs 1 n s → ∃ u, entryTaken c.toNat entry (portAppended p record n (withdrawn p s)) u ∧
            t = replied p .probeSet (if clamped then .okClamped else .ok) [] (limitTested u)) ∧
        yieldsFor (.probeSet p) 1 s)

/-- A changed sync word in IDLE acts on the receiver (R45): from CONFIRM it returns to HUNT; from LOCKED it leaves for HUNT, with
a source loss notice and LINK on both ports; no mark is appended in IDLE. PROBE_SET and SET SUPPLY in IDLE. SUPPLY stores its
value and works the enable output out again. PROBE_SET stores a whole entry, its level clamped to 1000 to 32767 on a VOLTAGE_LEAD
and absent on any other kind, in-detector clear on any other kind; an unknown channel or kind, or a kind its channel may not have,
is BAD_VALUE; an equal entry is no change; a change has the effects of R131 to R134, the debounce timer after a changed polarity
among them. A PROBE_SET of six words does, in any survey state, what the one of four words with the
same values does. The model's choices: the two forms, the bits disregarded, and what counts as in-detector and as ACTIVE_LOW
(notes/assumptions/12); the bad-frame run that a sync word change keeps (notes/assumptions/28); the item word's code
(notes/assumptions/45). -/
def Obligations.SyncProbeAndSupplySetInIdle : Prop :=
  (∀ (i : Item) (p : Port) (s : State) (w : Word) (x : Settings), i = .syncA ∨ i = .syncB ∨ i = .syncF →
     waits p .set [word (itemCode i), w] s → s.survey.state = .idle → accepts i [w] (settingsOf s) = some (x, false) →
     x ≠ settingsOf s →
     let l := { (withSettings x s).link with state := LinkState.hunt, wordPos := none, frame := [] }
     (s.link.state = .confirm →
       exec (setCommand i p) s = .next (answered p .set .ok [] { s with link := l })) ∧
     (s.link.state = .locked →
       exec (setCommand i p) s = .next ((answered p .set .ok [] { s with
         link := { l with losses := s.link.losses + 1 }
         flight := { s.flight with hcuIn := s.flight.hcuIn ++ [.loss], capIn := s.flight.capIn ++ [.loss] } }).bothPorts
           (flagsRaised 0x04)))) ∧
  ((∀ (p : Port) (s : State) (w : Word), waits p .set [word 19, w] s → s.survey.state = .idle → w = 0 ∨ w = 1 →
     exec (.setSupply p) s = .next (answered p .set .ok [] { s with
       kit := { s.kit with supplyOn := w == 0, enable := w == 0 && !s.kit.faulted && !s.kit.faultActive } })) ∧
   (∀ (p : Port) (s : State) (body : List Word), waits p .probeSet body s → body.length ≠ 4 → body.length ≠ 6 →
     exec (.probeSet p) s = .next (answered p .probeSet .badRequest [] s)) ∧
   (∀ (p : Port) (s : State) (c k d inDetector polarity due : Word), waits p .probeSet [c, k, d, inDetector, polarity, due] s →
     let entry := word (256 * min 255 k.toNat + (if inDetector = 0 then 0 else 1) + if polarity = 0 then 2 else 0)
     exec (.probeSet p) s =
       exec (.probeSet p) (s.modPort p fun u => { u with waiting := some ⟨.probeSet, [c, entry, d, due]⟩ })) ∧
   ∀ (p : Port) (s : State) (c k d due : Word), waits p .probeSet [c, k, d, due] s → s.survey.state = .idle →
     (7 < c.toNat ∨ probeKindOfCode (k.toNat / 256) = none ∨
         (∃ kind, probeKindOfCode (k.toNat / 256) = some kind ∧ kindAllowed c.toNat kind = false) →
       exec (.probeSet p) s = .next (answered p .probeSet .badValue [] s)) ∧
     ∀ kind, c.toNat ≤ 7 → probeKindOfCode (k.toNat / 256) = some kind → kindAllowed c.toNat kind = true →
       let lead := kind == .voltageLead
       let level := max 1000 (min 32767 d.toNat)
       let entry := ProbeEntry.mk kind (if lead then some level else none) (lead && k.getLsbD 0) (k.getLsbD 1) due.toNat
       let code := if lead && level != d.toNat then ResultCode.okClamped else .ok
       ∃ t, entryTaken c.toNat entry (withdrawn p s) t ∧ exec (.probeSet p) s = .next (replied p .probeSet code [] t))

/-- A SET of INTERVAL_LENGTH, KEPT_ORDERS, RECORD_MASK or LIMIT that changes its value while an interval is current closes that
interval with SPLIT under the old values; its record follows the SETTING record; no interval is then current and the highest
window stays (R116). BAND_EDGES changed in a survey sets the edges-changed flag and finds each previous band that is not none
again, for the latest residual under the new edges; the counters stay. Edges set to what they were change nothing (R75, R12). The
item word's code is the model's choice (notes/assumptions/45). -/
def Obligations.ChangedSettingsActOnTheirOwners : Prop :=
  (∀ (i : Item) (p : Port) (s : State) (v : List Word) (x : Settings) (c : Bool) (k n first high : Nat),
     i = .intervalLength ∨ i = .keptOrders ∨ i = .recordMask ∨ i = .limit →
     waits p .set (word (itemCode i) :: v) s → v.length = valueLength i → isRunning s → s.journal.headSeq < 0xFFFFFEFE →
     accepts i v (settingsOf s) = some (x, c) → x ≠ settingsOf s → SettingsSound (settingsOf s) →
     s.agg.current = some k → s.agg.curN = some n → s.agg.first = some first → s.agg.highest = some high →
     lossPending s.journal = false → 32 ≤ s.journal.free →
     ∃ t setting interval body, exec (setCommand i p) s = .next t ∧ settingsOf t = x ∧
       t.journal.records = s.journal.records ++ [setting, interval] ∧
       setting.kind = .setting ∧ setting.seq = s.journal.headSeq ∧
       interval.seq = s.journal.headSeq + 1 ∧ interval.body = .interval body ∧ interval.test = s.agg.testSeen ∧
       (body.number = k ∧ body.length = n ∧ body.first = first ∧ body.last = high ∧ body.aggregated = s.agg.aggregated ∧
         body.excluded = s.agg.excluded ∧ body.missing = s.agg.missing ∧ body.kept = s.agg.kept ∧ body.mask = s.agg.mask ∧
         body.occupancy = s.hcu.intervalOcc ∧ body.flags.split = true ∧ body.flags.partialClose = false ∧
         body.flags.flagged = s.agg.eventSeen) ∧
       t.agg.current = none ∧ t.agg.highest = some high ∧ t.agg.aggregated = 0 ∧ t.agg.excluded = 0 ∧ t.agg.missing = 0 ∧
       t.hcu = { s.hcu with intervalOcc := ⟨0, 0, 0⟩ }) ∧
  (∀ (p : Port) (s : State) (v : List Word),
     waits p .set (word 5 :: v) s → v.length = 7 → edgesValid (v.map BitVec.toNat) = true →
     s.survey.state ≠ .idle → s.journal.headSeq < 0xFFFFFF00 → (makeRoom 1 s).isSome = true →
     ∃ t, exec (.setBandEdges p) s = .next t ∧
       (v.map BitVec.toNat = s.hcu.edges → t.hcu = s.hcu) ∧
       (v.map BitVec.toNat ≠ s.hcu.edges → t.hcu = { s.hcu with
         edges := v.map BitVec.toNat, edgesChanged := true
         prevBand := .ofFn fun c =>
           match s.hcu.prevBand.get c, s.hcu.latest with
           | some _, some y => (y.chans.get c).map fun z => (v.filter fun e => decide (e.toNat ≤ z.residual)).length
           | _, _ => none }))

/-- GET answers with the value in force, in the form SET takes, with the present state for PROBE, and changes nothing; an unknown
item or a malformed body is BAD_REQUEST, a channel or order out of range BAD_VALUE (R15). That the present state is a fourth word,
0 or 1, is the model's choice (notes/assumptions/11), and so is the item word, the SETTING record's item code
(notes/assumptions/45). -/
def Obligations.GetReportsTheValueInForce : Prop :=
  ∀ (p : Port) (s : State) (i : Item) (q : Word),
    let whole : State → List Word → Prop := fun s ws => exec (.get p) s = .next (answered p .get .ok ws s)
    (∀ body, waits p .get body s → (body = [] ∨ 2 < body.length ∨ itemOfCode (body.headD 0).toNat = none) →
      exec (.get p) s = .next (answered p .get .badRequest [] s)) ∧
    (waits p .get [word (itemCode i)] s → i = .probe ∨ i = .limit →
      exec (.get p) s = .next (answered p .get .badRequest [] s)) ∧
    (waits p .get [word (itemCode i), q] s → i ≠ .probe → i ≠ .limit →
      exec (.get p) s = .next (answered p .get .badRequest [] s)) ∧
    (i ≠ .probe → i ≠ .limit → waits p .get [word (itemCode i)] s →
      ∃ ws, whole s ws ∧ ws.length = valueLength i ∧
        (SettingsSound (settingsOf s) → accepts i ws (settingsOf s) = some (settingsOf s, false))) ∧
    (waits p .get [word 17, q] s →
      (2 ≤ q.toNat → q.toNat ≤ 50 → whole s [word (s.agg.limits.getD (q.toNat - 2) 0)]) ∧
      ((q.toNat < 2 ∨ 50 < q.toNat) → exec (.get p) s = .next (answered p .get .badValue [] s))) ∧
    (waits p .get [word 18, q] s →
      (∀ e, q.toNat ≤ 7 → s.kit.entries.get q.toNat = e → whole s
        [word (256 * probeKindCode e.kind + (if e.inDetector then 1 else 0) + if e.activeHigh then 2 else 0),
          word (e.level.getD 0), word e.calDue, if s.kit.present.get q.toNat then 1 else 0]) ∧
      (7 < q.toNat → exec (.get p) s = .next (answered p .get .badValue [] s)))

/-- The settings survive SURVEY_START, SURVEY_STOP, SURVEY_CLEAR and a port reset, power-on and the reset pin return every item to
its default, and nothing but the row that sets an item changes any (R16): a SET to a value its owner accepts, a PROBE_SET to the
entry its body gives on a channel that may have it (the body's forms: notes/assumptions/12; the item word's code:
notes/assumptions/45). -/
def Obligations.SettingsChangeOnlyBySets : Prop :=
  ∀ (c : Instr) (s t : State), exec c s = .next t →
    ((c = .powerOn ∨ c = .resetPin) → settingsOf t = defaultSettings) ∧
    (c ≠ .powerOn → c ≠ .resetPin → (∀ i p, c ≠ setCommand i p) → settingsOf t = settingsOf s) ∧
    (∀ i p, c = setCommand i p → i ≠ .probe → settingsOf t = settingsOf s ∨
      ∃ body, waits p .set (word (itemCode i) :: body) s ∧ ∃ y, accepts i body (settingsOf s) = some (settingsOf t, y)) ∧
    ∀ p, c = .probeSet p → settingsOf t = settingsOf s ∨
      ∃ body n e, waits p .probeSet body s ∧ probeGiven body = some (n, e) ∧ n ≤ 7 ∧ kindAllowed n e.kind = true ∧
        settingsOf t = { settingsOf s with entries := s.kit.entries.set n e }

/-! ### The sample link and the test frame generator (03). A mark "in RUNNING" is written as the APPEND that makes it. -/

/-- BIT_ARRIVAL that completes nothing: the bit window shifts, the low run counts zeros; in CONFIRM and LOCKED the word position
moves on, and a whole word joins the frame in progress; in LOOPBACK the low run is held at 0. Nothing else changes. A row that
names one kind of arrival does nothing on an arrival of another kind (the model's choice, notes/assumptions/3): here, in BREAK on
a zero bit and in LOOPBACK on any. -/
def Obligations.BitArrivalShiftsTheWindow : Prop :=
  (∀ (b : Bool) (s : State),
     let l := bitTaken b s.link
     (s.link.state = .loopback → s.link.wordPos = none → exec (.bitArrival b) s = .next { s with link := l }) ∧
     (s.link.state = .hunt → s.link.wordPos = none → l.window ≠ l.syncA → l.lowRun < 352 →
       exec (.bitArrival b) s = .next { s with link := l }) ∧
     (s.link.state = .brk → s.link.wordPos = none → b = false → exec (.bitArrival b) s = .next { s with link := l }) ∧
     ∀ n, s.link.wordPos = some n →
       (n < 15 → (s.link.state = .confirm ∨ (s.link.state = .locked ∧ l.lowRun < 352)) →
         exec (.bitArrival b) s = .next { s with link := { l with wordPos := some (n + 1) } }) ∧
       (n = 15 → s.link.state = .locked → l.lowRun < 352 → s.link.frame.length < 10 →
         (s.link.frame.length ≠ 1 ∨ l.window ≠ l.syncF) →
         exec (.bitArrival b) s = .next { s with link := { l with wordPos := some 0, frame := s.link.frame ++ [l.window] } })) ∧
  (∀ (b : Bool) (s : State), s.link.state = .loopback ∨ (s.link.state = .brk ∧ b = false) →
     exec (.syncAMatch b) s = .next s ∧ exec (.confirmWord b) s = .next s ∧ exec (.goodDataFrame b) s = .next s ∧
     exec (.fillerFrame b) s = .next s ∧ exec (.badFrame b) s = .next s ∧ exec (.lossOfLock b) s = .next s ∧
     exec .breakEntry s = .next s)

/-- SYNC_A_MATCH: in HUNT, a bit window equal to SYNC_A enters CONFIRM and fixes the alignment; LINK is not raised. CONFIRM_WORD:
the next word decides. SYNC_B and SYNC_F enter LOCKED, with the bad-frame run and the instants at 0, LINK on both ports, and in
RUNNING MARK LINK_UP; any other word returns to HUNT, and to CONFIRM at once if it is SYNC_A. -/
def Obligations.SyncWordsLockTheReceiver : Prop :=
  ∀ (b : Bool) (s : State),
    let l := bitTaken b s.link
    (s.link.state = .hunt → l.lowRun < 352 → l.window = l.syncA →
      exec (.syncAMatch b) s = .next { s with link := { l with state := .confirm, wordPos := some 0, frame := [] } } ∧
      exec (.bitArrival b) s = exec (.syncAMatch b) s) ∧
    (s.link.state = .confirm → s.link.wordPos = some 15 →
      exec (.bitArrival b) s = exec (.confirmWord b) s ∧
      (∀ filler, (filler = false ∧ l.window = l.syncB) ∨ (filler = true ∧ l.window = l.syncF ∧ l.window ≠ l.syncB) →
        let t := linkRaised { s with link := { l with
          state := .locked, wordPos := some 0, frame := if filler then [] else [l.syncA, l.syncB], badRun := 0, instants := 0 } }
        (¬ isRunning s → exec (.confirmWord b) s = .next t) ∧
        (isRunning s → exec (.confirmWord b) s = exec (.append (.mark (.linkUp filler s.link.badTotal)) false) t)) ∧
      (l.window ≠ l.syncB → l.window ≠ l.syncF → exec (.confirmWord b) s = .next { s with link :=
        if l.window = l.syncA then { l with state := .confirm, wordPos := some 0, frame := [] }
        else { l with state := .hunt, wordPos := none, frame := [] } }))

/-- GOOD_DATA_FRAME delivers its eight samples without HELD or TEST; they become the last good set, the bad-frame run is 0, the
instants rise by one. FILLER_FRAME, good, delivers nothing and leaves the counts. The next frame begins at the next arrival. -/
def Obligations.GoodFramesDeliverTheirSamples : Prop :=
  ∀ (b : Bool) (s : State), s.link.state = .locked → s.link.wordPos = some 15 →
    let l := bitTaken b s.link
    let words := s.link.frame ++ [l.window]
    l.lowRun < 352 →
    (isGoodFrame l words →
      let samples : Eight Int := .ofFn fun c => (words.getD (c + 2) 0).toInt
      exec (.goodDataFrame b) s = .next (setSent samples false false { s with link := { l with
        wordPos := some 0, frame := [], lastGood := samples, badRun := 0, instants := min 0xFFFFFFFF (l.instants + 1) } }) ∧
      exec (.bitArrival b) s = exec (.goodDataFrame b) s) ∧
    (words = [l.syncA, l.syncF] →
      exec (.fillerFrame b) s = .next { s with link := { l with wordPos := some 0, frame := [] } } ∧
      exec (.bitArrival b) s = exec (.fillerFrame b) s)

/-- BAD_FRAME, the first or second in a row: the bad-frame total and run rise by one; a data frame delivers the last good set
marked HELD and counts as an instant, a filler delivers nothing. LOSS_OF_LOCK, the third: it is counted, the run is 0, the
receiver leaves for HUNT, with the source loss notice, LINK on both ports and in RUNNING MARK LINK_DOWN, and compares the window
with SYNC_A at once. BREAK_ENTRY: the zero bit that brings the low run to 352 in HUNT or LOCKED enters BREAK, with the bad-frame
run at 0, LINK on both ports and, in RUNNING, MARK FRONTEND_OFF; from LOCKED also the source loss notice and, before that mark,
MARK LINK_DOWN. BREAK_END: the first one bit goes to HUNT, or to CONFIRM if the window is SYNC_A, with LINK on both ports and no
mark. -/
def Obligations.BadFramesAndBreakLoseLock : Prop :=
  (∀ (b data : Bool) (s : State), s.link.state = .locked → s.link.wordPos = some 15 →
     let l := bitTaken b s.link
     let words := s.link.frame ++ [l.window]
     let total := min 0xFFFFFFFF (l.badTotal + 1)
     l.lowRun < 352 →
     (data = true ∧ words.length = 11 ∧ ¬ isGoodFrame l words) ∨
       (data = false ∧ ∃ w, words = [w, l.syncF] ∧ w ≠ l.syncA) →
     (s.link.badRun < 2 →
       exec (.badFrame b) s = .next (
         if data then setSent s.link.lastGood true false { s with link := { l with
           wordPos := some 0, frame := [], badTotal := total, badRun := l.badRun + 1, instants := min 0xFFFFFFFF (l.instants + 1) } }
         else { s with link := { l with wordPos := some 0, frame := [], badTotal := total, badRun := l.badRun + 1 } }) ∧
       exec (.bitArrival b) s = exec (.badFrame b) s) ∧
     (2 ≤ s.link.badRun →
       let t := linkRaised (lossSent { s with link := { l with
         state := .hunt, wordPos := none, frame := [], badTotal := total, badRun := 0 } })
       exec (.bitArrival b) s = exec (.lossOfLock b) s ∧
       ∃ u, (if isRunning s then exec (.append (.mark (.linkDown .badFrames total l.instants)) false) t else .next t) = .next u ∧
         exec (.lossOfLock b) s = .next { u with link :=
           if l.window = l.syncA then { u.link with state := .confirm, wordPos := some 0, frame := [] } else u.link })) ∧
  (∀ s : State,
     (let l := bitTaken false s.link
      let l1 := { l with state := LinkState.brk, wordPos := none, frame := [], badRun := 0 }
      l.lowRun = 352 → s.link.state = .hunt ∨ s.link.state = .locked →
       exec (.bitArrival false) s = exec .breakEntry s ∧
       (s.link.state = .hunt →
         let t := linkRaised { s with link := l1 }
         exec .breakEntry s = if isRunning s then exec (.append (.mark (.frontendOff false)) false) t else .next t) ∧
       (s.link.state = .locked →
         let t := linkRaised (lossSent { s with link := l1 })
         (¬ isRunning s → exec .breakEntry s = .next t) ∧
         (isRunning s → ∃ u, exec (.append (.mark (.linkDown .brk s.link.badTotal s.link.instants)) false) t = .next u ∧
           exec .breakEntry s = exec (.append (.mark (.frontendOff true)) false) u))) ∧
     (let l := bitTaken true s.link
      s.link.state = .brk →
       exec .breakEnd s = .next (linkRaised { s with link :=
         if l.window = l.syncA then { l with state := .confirm, wordPos := some 0, frame := [] }
         else { l with state := .hunt, wordPos := none, frame := [] } }) ∧
       exec (.bitArrival true) s = exec .breakEnd s))

/-- SELFTEST_START: outside RUNNING, with a stop pending or with the generator running WRONG_STATE; a body that is not five words
BAD_REQUEST. Otherwise the program is kept after clamping, the receiver enters LOOPBACK from whatever state it was in (with a
source loss notice from LOCKED), LINK is raised on both ports, and MARK SELFTEST_ON is appended. The bad-frame run that LOOPBACK
keeps from LOCKED is the model's choice (notes/assumptions/28). -/
def Obligations.SelftestStartEntersLoopback : Prop :=
  ∀ (p : Port) (s : State) (body : List Word), waits p .selftestStart body s →
    (body.length ≠ 5 → exec (.selftestStart p) s = .next (answered p .selftestStart .badRequest [] s)) ∧
    ∀ a b ka kb n : Word, body = [a, b, ka, kb, n] →
      (¬ isRunning s ∨ s.gen.running = true →
        exec (.selftestStart p) s = .next (answered p .selftestStart .wrongState [] s)) ∧
      (isRunning s → s.gen.running = false →
        let count := fun (w : Word) => max 1 (min 255 w.toNat)
        let level := fun (w : Word) => min 32767 w.toNat
        let unmoved := level a = a.toNat ∧ level b = b.toNat ∧ count ka = ka.toNat ∧ count kb = kb.toNat ∧ count n = n.toNat
        let s1 := { withdrawn p s with gen := { s.gen with
          running := true, levelA := level a, levelB := level b, ka := count ka, kb := count kb, repeats := count n
          phaseB := false, halfLeft := count ka, repeatsDone := 0, k := 0, frames := 0 } }
        let l := { s.link with state := LinkState.loopback, wordPos := none, frame := [], lowRun := 0 }
        let t := linkRaised (if s.link.state = .locked then lossSent { s1 with link := l }
          else { s1 with link := { l with badRun := 0 } })
        ∃ u, exec (.append (.mark (.selftestOn (level a) (level b) (count ka) (count kb) (count n) s.link.state)) false) t = .next u ∧
          exec (.selftestStart p) s =
            .next (replied p .selftestStart (if unmoved then .ok else .okClamped) [] u))

/-- The generator stops (R62), on SELFTEST_STOP (R63) and on its stop notice (R5): it is OFF, MARK SELFTEST_OFF is appended, also
while a stop is pending, and the receiver returns from LOOPBACK to HUNT with a source loss notice and LINK on both ports.
SELFTEST_STOP with the generator OFF is WRONG_STATE; the notice then finds nothing to close. (The generator as the last block to
leave: StopNoticesFinishTheBlocks.) The model's choices: the generator reports itself finished at its notice alone
(notes/assumptions/31); a SELFTEST_STOP with a body is BAD_REQUEST before its other check (notes/assumptions/36). -/
def Obligations.GeneratorStopsIntoHunt : Prop :=
  ∀ (s : State),
    let off := fun (reason : OffReason) (u t : State) =>
      ∃ v, exec (.append (.mark (.selftestOff reason s.gen.repeatsDone s.gen.frames)) false)
          { u with gen := { u.gen with running := false } } = .next v ∧
        t = linkRaised (lossSent { v with link := { v.link with
          state := .hunt, wordPos := none, frame := [], lowRun := 0 } })
    (∀ p body, waits p .selftestStop body s → body ≠ [] →
      exec (.selftestStop p) s = .next (answered p .selftestStop .badRequest [] s)) ∧
    (∀ p, waits p .selftestStop [] s →
      (s.gen.running = false → exec (.selftestStop p) s = .next (answered p .selftestStop .wrongState [] s)) ∧
      (s.gen.running = true → s.link.state = .loopback → s.survey.state = .running → ∃ t, off .request (withdrawn p s) t ∧
        exec (.selftestStop p) s = .next (replied p .selftestStop .ok [] t))) ∧
    (s.flight.stopNotices.generator = true →
      (s.survey.yetToFinish.detector = true ∨ s.survey.yetToFinish.capture = true ∨ s.survey.yetToFinish.aggregator = true) →
      let u := { s with flight := { s.flight with stopNotices := { s.flight.stopNotices with generator := false } } }
      let leaves := fun (t : State) =>
        { t with survey := { t.survey with yetToFinish := { t.survey.yetToFinish with generator := false } } }
      (s.gen.running = false → exec .stopNoticeGenerator s = .next (leaves u)) ∧
      (s.gen.running = true → s.link.state = .loopback → s.survey.state = .running → s.survey.stopPending ≠ .none →
        ∃ t, off .surveyStop u t ∧ exec .stopNoticeGenerator s = .next (leaves t)))

/-- TEST_FRAME: one frame of the running generator: channels 0 to 2 carry floor(L × S[(k + offset) mod 256] / 32768) with offsets
0, 85 and 171, the others 0; the set carries TEST and not HELD; the receiver changes as for a good frame; k and the frames rise by
one; after 128 frames a half cycle of the phase is complete. PHASE_CHANGE is the frame that ends a phase: A becomes B; B counts a
repeat and becomes A; at the last repeat the program is complete and the generator stops. That the row PHASE_CHANGE does nothing
on a frame that ends no phase, and TEST_FRAME does the whole event, is the model's choice (notes/assumptions/3). -/
def Obligations.TestFramesFollowTheProgram : Prop :=
  ∀ s : State, s.gen.running = true →
    let g := s.gen
    let level : Int := if g.phaseB then g.levelB else g.levelA
    let wave := fun (offset : Nat) => Int.fdiv (level * sine ((g.k + offset) % 256)) 32768
    let samples : Eight Int := ⟨wave 0, wave 85, wave 171, 0, 0, 0, 0, 0⟩
    let sent := setSent samples false true { s with link := { s.link with
      lastGood := samples, badRun := 0, instants := min 0xFFFFFFFF (s.link.instants + 1) } }
    let g1 := { g with k := (g.k + 1) % 65280, frames := g.frames + 1 }
    ((g.frames + 1) % 128 ≠ 0 →
      exec .testFrame s = .next { sent with gen := g1 } ∧ exec .phaseChange s = .next s) ∧
    ((g.frames + 1) % 128 = 0 → 1 < g.halfLeft →
      exec .testFrame s = .next { sent with gen := { g1 with halfLeft := g.halfLeft - 1 } } ∧
      exec .phaseChange s = .next s) ∧
    ((g.frames + 1) % 128 = 0 → g.halfLeft ≤ 1 →
      exec .phaseChange s = exec .testFrame s ∧
      (g.phaseB = false → exec .phaseChange s = .next { sent with gen := { g1 with phaseB := true, halfLeft := g.kb } }) ∧
      (g.phaseB = true → g.repeatsDone + 1 < g.repeats → exec .phaseChange s = .next { sent with gen :=
        { g1 with phaseB := false, halfLeft := g.ka, repeatsDone := g.repeatsDone + 1 } }) ∧
      (g.phaseB = true → g.repeats ≤ g.repeatsDone + 1 → s.survey.state = .running → s.link.state = .loopback →
        ∃ v, exec (.append (.mark (.selftestOff .complete (g.repeatsDone + 1) (g.frames + 1))) false) { sent with gen :=
            { g1 with running := false, halfLeft := 0, repeatsDone := g.repeatsDone + 1 } } = .next v ∧
          exec .phaseChange s = .next (linkRaised (lossSent { v with link := { v.link with
            state := .hunt, wordPos := none, frame := [], lowRun := 0 } }))))

/-! ### The Half-Cycle Unit (04) -/

/-- SAMPLE_SET: the set's channels 0 to 3 join the window, the oldest of 256 samples leaving it; the sums of squares, the TEST
count and the full-scale ages follow; the count since the last value rises, and returns to 0 at a boundary (the set that fills the
window, then every 128th). A set that is no boundary changes nothing else, and HALF_CYCLE_BOUNDARY then does nothing
(notes/assumptions/3). -/
def Obligations.SampleSetsMoveTheWindow : Prop :=
  ∀ (x : SampleSet) (rest : List SourceMsg) (s : State), s.flight.hcuIn = .set x :: rest → WindowSound s.hcu →
    let new : WinSample := ⟨⟨x.samples.c0, x.samples.c1, x.samples.c2, x.samples.c3⟩, x.test⟩
    ∃ t, exec .sampleSet s = .next t ∧ WindowSound t.hcu ∧
      t.hcu.window = (s.hcu.window ++ [new]).drop (s.hcu.window.length + 1 - 256) ∧
      (t.hcu.since = if endsHalfCycle s.hcu ∨ s.hcu.window.length < 256 then 0 else s.hcu.since + 1) ∧
      (∀ c : Fin 4, t.hcu.ages.get c =
        if (new.c.get c).natAbs = 32767 then some 0 else (s.hcu.ages.get c).bind fun a => if a + 1 < 256 then some (a + 1) else none) ∧
      (endsHalfCycle s.hcu = false →
        t = { s with
          hcu := { s.hcu with
            window := t.hcu.window, since := t.hcu.since, sums := t.hcu.sums, ages := t.hcu.ages, testCount := t.hcu.testCount }
          flight := { s.flight with hcuIn := rest } } ∧
        exec .halfCycleBoundary s = .next s) ∧
      (endsHalfCycle s.hcu = true → exec .halfCycleBoundary s = exec .sampleSet s)

/-- HALF_CYCLE_BOUNDARY: the boundary's sample set forms a half-cycle value: its number, TEST, and for each admitted channel the
residual by R68 with its marks. In RUNNING with no stop pending the value is counted by band, entry and occupancy; otherwise every
previous band becomes none. It becomes the latest value and goes to the detector. -/
def Obligations.BoundariesFormAndCountAValue : Prop :=
  ∀ (x : SampleSet) (rest : List SourceMsg) (s : State), s.flight.hcuIn = .set x :: rest → WindowSound s.hcu → SamplesSound s →
    endsHalfCycle s.hcu = true →
    ∃ t v, exec .halfCycleBoundary s = .next t ∧ t.hcu.latest = some v ∧ t.hcu.halfNo = v.number ∧
      (v.number = if isRunning s then min 0xFFFFFFFF (s.hcu.halfNo + 1) else s.hcu.halfNo) ∧
      (v.test = true ↔ ∃ w ∈ t.hcu.window, w.test = true) ∧ v.dip = s.det.dip ∧
      (∀ c : Fin 4, ∀ d, s.kit.present.get c = true → (s.kit.entries.get c).kind = .voltageLead →
        (s.kit.entries.get c).level = some d →
        let raw := Nat.sqrt ((t.hcu.window.map fun w => (w.c.get c).natAbs ^ 2).sum / 256) * 1000 / d
        v.chans.get c =
          some ⟨min 1999 raw, (t.hcu.ages.get c).isSome, decide (2000 ≤ raw), (s.kit.entries.get c).inDetector⟩) ∧
      (∀ c : Fin 4, (s.kit.present.get c = false ∨ (s.kit.entries.get c).kind ≠ .voltageLead) → v.chans.get c = none) ∧
      (∀ c : Fin 4, t.hcu.prevBand.get c = if isRunning s then
          (v.chans.get c).map fun y => (s.hcu.edges.filter fun e => decide (e ≤ y.residual)).length
        else none) ∧
      (∀ c : Fin 4, match t.hcu.prevBand.get c with
        | some b =>
          t.hcu.bandCounts.get c = (s.hcu.bandCounts.get c).modify b (fun n => min 0xFFFFFFFF (n + 1)) ∧
          t.hcu.entryCounts.get c = if s.hcu.prevBand.get c = some b then s.hcu.entryCounts.get c
            else (s.hcu.entryCounts.get c).modify b (fun n => min 0xFFFFFFFF (n + 1))
        | none => t.hcu.bandCounts.get c = s.hcu.bandCounts.get c ∧ t.hcu.entryCounts.get c = s.hcu.entryCounts.get c) ∧
      (let down := ((List.range 4).filter fun c => match seen v c with | some y => decide (y.residual < s.det.dip) | none => false).length
       let risen := fun (o : Occupancy) =>
         match down with
         | 0 => o
         | 1 => { o with one := min 0xFFFFFFFF (o.one + 1) }
         | 2 => { o with two := min 0xFFFFFFFF (o.two + 1) }
         | _ => { o with threePlus := min 0xFFFFFFFF (o.threePlus + 1) }
       (isRunning s → t.hcu.surveyOcc = risen s.hcu.surveyOcc ∧ t.hcu.intervalOcc = risen s.hcu.intervalOcc) ∧
       (¬ isRunning s → t.hcu.surveyOcc = s.hcu.surveyOcc ∧ t.hcu.intervalOcc = s.hcu.intervalOcc)) ∧
      t = { s with
        hcu := { t.hcu with edges := s.hcu.edges, edgesChanged := s.hcu.edgesChanged }
        flight := { s.flight with hcuIn := rest, values := s.flight.values ++ [⟨v, x.era⟩] } }

/-- LIVE and COUNTERS: with a body BAD_REQUEST; otherwise OK, with the figures of R78 and R79 as they stand; nothing else changes.
The model's choices: the words of the bodies (notes/assumptions/11); that a LIVE taken between the end of a lock and the Half-Cycle
Unit's source loss notice reports the window fill and the latest value as they still stand (notes/assumptions/39). -/
def Obligations.LiveAndCountersReport : Prop :=
  let flag := fun (b : Bool) => if b then (1 : Word) else 0
  let occ := fun (o : Occupancy) => words32 o.one ++ words32 o.two ++ words32 o.threePlus
  ∀ (p : Port) (s : State) (body : List Word),
    (waits p .live body s →
      (body ≠ [] → exec (.live p) s = .next (answered p .live .badRequest [] s)) ∧
      (body = [] → exec (.live p) s = .next (answered p .live .ok
        ([word (match s.link.state with | .hunt => 0 | .confirm => 1 | .locked => 2 | .brk => 3 | .loopback => 4),
            word s.hcu.window.length, flag s.hcu.latest.isSome]
          ++ match s.hcu.latest with
            | none => []
            | some v => words32 v.number ++ [flag v.test] ++ (List.range 4).flatMap fun c =>
                match v.chans.get c with
                | none => [0]
                | some y => [1, word y.residual, flag y.clipped, flag y.capped, flag y.inDetector,
                    word (s.hcu.edges.filter fun e => decide (e ≤ y.residual)).length]) s))) ∧
    (waits p .counters body s →
      (body ≠ [] → exec (.counters p) s = .next (answered p .counters .badRequest [] s)) ∧
      (body = [] → exec (.counters p) s = .next (answered p .counters .ok
        ([word s.survey.number] ++ words32 s.hcu.halfNo ++ s.hcu.edges.map word ++ [flag s.hcu.edgesChanged]
          ++ ((List.range 4).flatMap fun c =>
            (s.hcu.bandCounts.get c).flatMap words32 ++ (s.hcu.entryCounts.get c).flatMap words32)
          ++ occ s.hcu.surveyOcc ++ occ s.hcu.intervalOcc) s)))

/-! ### The detector and the capture (05) -/

/-- HALF_CYCLE_VALUE: outside RUNNING, or with a stop pending, the value has no effect on either context; in RUNNING each context
takes it by R86 to R89 (opening, OPEN value and end test, resumption, countdown), and a context whose event ends for good is IDLE
again. An opening sends its trigger and its notice and raises EVENT_OPEN. With no record due, nothing else changes.
HOLD_OFF_EXPIRY is such a value that runs out a hold-off, and does nothing on any other: the model's choice (notes/assumptions/3).
The value is taken once the source loss notices sent before it are (notes/assumptions/4); the thresholds that an IDLE context
keeps are notes/assumptions/41. -/
def Obligations.ValuesDriveTheContexts : Prop :=
  ∀ (v : HalfValue) (rest : List ValueMsg) (s : State), s.flight.values = ⟨v, s.det.losses⟩ :: rest →
    (¬ isRunning s → exec .halfCycleValue s = .next { s with flight := { s.flight with values := rest } } ∧
      exec .holdOffExpiry s = .next s) ∧
    (isRunning s → ∃ t, exec .halfCycleValue s = .next t ∧
      (∀ x, if dueOn s v x then (t.ctx x).state = .idle ∧ (t.ctx x).link = .none ∧ (t.ctx x).result = none ∧
            (t.ctx x).involved = ⟨false, false, false, false⟩
          else t.ctx x = contextAfter x v s) ∧
      (let opened := [DetCtx.low, .high].filter (opensOn s v)
       t.flight.values = rest ∧ t.flight.openings = s.flight.openings ++ opened ∧
       t.flight.triggers = s.flight.triggers ++ opened.map (fun x => ⟨x, s.det.losses⟩) ∧
       (opened ≠ [] → ∀ p, flagSet (t.port p) .eventOpen = true) ∧
       (dueOn s v .low = false → dueOn s v .high = false → t = { s with
          det := t.det, flight := { s.flight with values := rest, triggers := t.flight.triggers, openings := t.flight.openings }
          portA := if opened = [] then s.portA else flagsRaised 0x02 s.portA
          portB := if opened = [] then s.portB else flagsRaised 0x02 s.portB })) ∧
      (let expires := fun (x : DetCtx) => (s.ctx x).state = .closing ∧ dueOn s v x = true ∧ someSeen v (fun _ => true) = true
       (expires .low ∨ expires .high → exec .holdOffExpiry s = exec .halfCycleValue s) ∧
       (¬ expires .low → ¬ expires .high → exec .holdOffExpiry s = .next s)))

/-- A value on which one context's record falls due, the other context being IDLE and not opening: the record joins the pending
list with its class, its duration and the calibration status read once more, and what is settled at the front of the list is
appended; an OPEN or CLOSING event that no detector channel is left to is CUT with PROBE_CHANGE (R88, R91, R95). The end survey ms
of an OPEN event that is cut is free (notes/assumptions/13). That a context gone IDLE keeps its frozen thresholds is the model's
choice (notes/assumptions/41). The record of an event: the overall extreme is the lowest (LOW) or
highest (HIGH) of the extremes, the worst channel the first that holds it; INTR below Ti and DIP otherwise in LOW, SWELL in HIGH;
the duration is end minus start; extremes are carried for involved channels alone, the capture number and the wave field where
they are there (R84, R90, R92). -/
def Obligations.DueRecordsJoinTheirList : Prop :=
  (∀ (x y : DetCtx) (v : HalfValue) (rest : List ValueMsg) (s : State), s.flight.values = ⟨v, s.det.losses⟩ :: rest → isRunning s →
     x ≠ y → (s.ctx y).state = .idle → opensOn s v y = false → dueOn s v x = true →
     let c := s.ctx x
     let s1 := { s with flight := { s.flight with values := rest } }
     ∃ t, exec .halfCycleValue s = .next t ∧
       (someSeen v (fun _ => true) = true → c.state = .closing →
         fallsDue x (calibrationRead s (valueNoted v (changeNoted v c))) s1 t) ∧
       (someSeen v (fun _ => true) = true → c.state = .opened →
         fallsDue x { calibrationRead s (openTaken x v (changeNoted v c)) with endHc := v.number, endMs := s.survey.clock } s1 t) ∧
       (someSeen v (fun _ => true) = false →
         let cut := { c with flags := { c.flags with cut := true, probeChange := true } }
         (c.state = .closing → fallsDue x cut s1 t) ∧
         (c.state = .opened → ∃ ms, fallsDue x { cut with endHc := c.lastValue, endMs := ms } { s1 with free := s.free + 1 } t))) ∧
  (∀ (x : DetCtx) (c : DetContext), (∃ i : Fin 4, c.extremes.get i ≠ none) →
     let e := eventBody (recordOf x c)
     let better := fun (a b : Nat) => match x with | .low => a < b | .high => b < a
     (e.worst < 4 ∧ c.extremes.get e.worst = some e.extreme) ∧
     (∀ i : Fin 4, ∀ r, c.extremes.get i = some r → ¬ better r e.extreme ∧ (r = e.extreme → e.worst ≤ i)) ∧
     (e.cls = match x with | .low => if e.extreme < c.frozen.intr then .intr else .dip | .high => .swell) ∧
     e.duration = c.endHc - c.startHc ∧ e.startHc = c.startHc ∧ e.endHc = c.endHc ∧ e.startMs = c.startMs ∧ e.endMs = c.endMs ∧
     e.frozen = c.frozen ∧ e.involved = c.involved ∧ e.merges = c.merges ∧ e.flags = c.flags ∧
     (∀ i : Fin 4, e.extremes.get i = if c.involved.get i then c.extremes.get i else none) ∧
     (e.capture = match c.link with | .number n => some n | _ => none) ∧
     (e.wave = match c.result with
       | some ⟨some first, stored, _⟩ => if stored = 0 then none else some (first, stored)
       | _ => none))

/-- A source loss notice at the Half-Cycle Unit, the detector and the capture: the window and the latest value are gone; an OPEN
or CLOSING event has LINK_LOST and ends, its record falling due at once (LOW's first, notes/assumptions/32), or when the stop
notice comes while a stop is pending; the ring is emptied and a capture in progress is cut. The model's choices: a second notice
while a stop is pending sets the end of an OPEN context again (notes/assumptions/34); the counts and eras that keep a notice after
what earlier sets caused (4); HIGH sees a SEQ_LIMIT stop that LOW's record begins in this event (40); a context gone IDLE keeps
its frozen thresholds (41); a capture that ends keeps its set of linked contexts (35). -/
def Obligations.SourceLossReachesEveryBlock : Prop :=
  (∀ (rest : List SourceMsg) (s : State), s.flight.hcuIn = .loss :: rest →
    exec .hcuSourceLossNotice s = .next { s with
      hcu := { s.hcu with
        window := [], since := 0, sums := .all 0, ages := .all none, testCount := 0, latest := none, prevBand := .all none }
      flight := { s.flight with hcuIn := rest } }) ∧
  (∀ s : State, s.det.losses < s.link.losses → (∀ m ∈ s.flight.values, s.det.losses < m.era) →
    (∀ m ∈ s.flight.hcuIn, ∀ x, m = .set x → s.det.losses < x.era) →
    s.survey.stopPending ≠ .none ∨ s.survey.state = .running ∨ (s.det.low.state = .idle ∧ s.det.high.state = .idle) →
    ∃ u t, contextLost .low { s with det := { s.det with losses := s.det.losses + 1 } } u ∧ contextLost .high u t ∧
      exec .detectorSourceLossNotice s = .next t) ∧
  ∀ (rest : List SourceMsg) (s : State), s.flight.capIn = .loss :: rest → (∀ m ∈ s.flight.values, s.cap.losses < m.era) →
    (∀ m ∈ s.flight.hcuIn, ∀ x, m = .set x → s.cap.losses < x.era) → (∀ m ∈ s.flight.triggers, s.cap.losses < m.era) →
    let s1 := { s with
      cap := { s.cap with ring := [], cur := ⟨0, .all [], false, false, false⟩, done := 0, losses := s.cap.losses + 1 }
      flight := { s.flight with capIn := rest } }
    exec .captureSourceLossNotice s = .next (if s.cap.capturing then captureEnded true s1 else s1)

/-- PROBE_NOTICE sets PROBE_CHANGE on an OPEN or CLOSING context when the channel was a detector channel before the change or is
one after it. TRIGGER_ANSWER and END_NOTICE go to the pending record, or to the context, that they are for; what is then settled
at the front of the list is appended, and a detector that has nothing left after its stop notice reports itself finished. -/
def Obligations.NoticesAndAnswersReachTheirEvent : Prop :=
  (∀ (n : ProbeNotice) (rest : List ProbeNotice) (s : State), s.flight.probeNotices = n :: rest →
    let noted := fun (c : DetContext) =>
      if c.state ≠ .idle ∧ (n.before = true ∨ n.after = true) then { c with flags := { c.flags with probeChange := true } } else c
    exec .probeNotice s = .next { s with
      det := { s.det with low := noted s.det.low, high := noted s.det.high }
      flight := { s.flight with probeNotices := rest } }) ∧
  (∀ (x : DetCtx) (a : AnswerKind) (before after : List TriggerAnswer) (s : State),
    s.flight.answers = before ++ ⟨x, a⟩ :: after → (∀ m ∈ before, m.ctx ≠ x) →
    s.survey.state = .running →
    let link := match a with | .started n => CaptureLink.number n | .shared n => .number n | .none => .none
    let flags := fun (f : EventFlags) => match a with
      | .started _ => f | .shared _ => { f with waveShared := true } | .none => { f with noWave := true }
    let c := s.ctx x
    let s1 := { s with flight := { s.flight with answers := before ++ after } }
    (∀ early r late, c.pendingRecs = early ++ r :: late → (∀ q ∈ early, q.link ≠ .awaiting) → r.link = .awaiting →
      ∃ u t, flushed x (s1.setCtx x { c with pendingRecs := early ++ { r with link := link, flags := flags r.flags } :: late }) u ∧
        detectorReports u t ∧ exec (.triggerAnswer x) s = .next t) ∧
    ((∀ q ∈ c.pendingRecs, q.link ≠ .awaiting) → c.state ≠ .idle → c.link = .awaiting →
      ∃ u t, flushed x (s1.setCtx x { c with link := link, flags := flags c.flags }) u ∧ detectorReports u t ∧
        exec (.triggerAnswer x) s = .next t)) ∧
  ∀ (x : DetCtx) (n : Nat) (result : CaptureResult) (before after : List EndNotice) (s : State),
    s.flight.ends = before ++ ⟨x, n, result⟩ :: after → (∀ m ∈ before, m.ctx ≠ x) → s.survey.state = .running →
    (∀ m ∈ s.flight.answers, m.ctx = x → m.answer ≠ .started n ∧ m.answer ≠ .shared n) →
    let c := s.ctx x
    let record := fun (r : PendingRec) => if r.link = .number n then
      { r with result := some result, flags := { r.flags with wavePartial := r.flags.wavePartial || result.cut } } else r
    let c1 := { c with pendingRecs := c.pendingRecs.map record }
    let c2 := if c.state ≠ .idle ∧ c.link = .number n then
      { c1 with result := some result, flags := { c.flags with wavePartial := c.flags.wavePartial || result.cut } } else c1
    ∃ u t, flushed x ({ s with flight := { s.flight with ends := before ++ after } }.setCtx x c2) u ∧ detectorReports u t ∧
      exec (.endNotice x) s = .next t

/-- RING_SAMPLE_SET: every fourth set of a cycle is kept and its marks gathered; the 256th completes the cycle
(RING_CYCLE_COMPLETE), which joins the ring, the oldest of eight leaving, and is appended when it lies among the Q post-trigger
cycles of a capture; the answer to cycle Q - 1 completes the capture. APPEND_REFUSAL_TAKEN cuts a capture whose WAVE was refused
(R98, R101, R104). The model's choices: RING_CYCLE_COMPLETE does nothing on another set (notes/assumptions/3); the refusal is an
event of its own (notes/assumptions/7); a capture that ends keeps its set of linked contexts (notes/assumptions/35). -/
def Obligations.RingCyclesFeedTheCapture : Prop :=
  (∀ (x : SampleSet) (rest : List SourceMsg) (s : State), s.flight.capIn = .set x :: rest → RingSound s.cap →
    let k := s.cap.cur
    let kept := fun (l : List Int) (v : Int) => if k.count % 4 = 0 then l ++ [v] else l
    let full := ([x.samples.c0, x.samples.c1, x.samples.c2, x.samples.c3].any fun v => v.natAbs == 32767)
    let samples : Four (List Int) := ⟨kept k.samples.c0 x.samples.c0, kept k.samples.c1 x.samples.c1,
      kept k.samples.c2 x.samples.c2, kept k.samples.c3 x.samples.c3⟩
    (k.count < 255 →
      exec .ringSampleSet s = .next { s with
        cap := { s.cap with cur := ⟨k.count + 1, samples, k.clipped || full, k.held || x.held, k.test || x.test⟩ }
        flight := { s.flight with capIn := rest } } ∧
      exec .ringCycleComplete s = .next s) ∧
    (k.count = 255 →
      let r : RingCycle := ⟨samples, k.clipped || full, k.held || x.held, k.test || x.test, s.survey.clock⟩
      let s1 := { s with
        cap := { s.cap with
          ring := (s.cap.ring ++ [r]).drop (s.cap.ring.length + 1 - 8)
          cur := ⟨0, .all [], false, false, false⟩, done := s.cap.done + 1 }
        flight := { s.flight with capIn := rest } }
      exec .ringCycleComplete s = exec .ringSampleSet s ∧
      (s.cap.capturing = false ∨ s.cap.refused = true ∨ ¬ isRunning s → exec .ringSampleSet s = .next s1) ∧
      ∀ c0, s.cap.cycle0 = some c0 → s.cap.capturing = true → s.cap.refused = false → isRunning s →
        (s.cap.done < c0 ∨ c0 + s.cap.q ≤ s.cap.done → exec .ringSampleSet s = .next s1) ∧
        (c0 ≤ s.cap.done → s.cap.done < c0 + s.cap.q →
          ∃ u, exec (.append (waveOf s.cap (s.cap.done - c0) r) r.test) s1 = .next u ∧
            let u1 := { u with cap := { u.cap with postDone := u.cap.postDone + 1 } }
            exec .ringSampleSet s = .next (if u.cap.refused then u
              else if s.cap.done + 1 = c0 + s.cap.q then captureEnded false u1 else u1)))) ∧
  ∀ s : State, (s.cap.capturing = true → s.cap.refused = true → exec .appendRefusalTaken s = .next (captureEnded true s)) ∧
    (s.cap.capturing = false ∨ s.cap.refused = false → exec .appendRefusalTaken s = .next s)

/-- TRIGGER: in RUNNING with no stop pending an IDLE capture starts: it takes the next number (1 after 65535), reads P and Q,
fixes cycle 0, answers the context, and appends the last P complete cycles in order, indexed up to -1. A capture in progress is
shared with the other context; the same context, or a capture that may not start, is answered with none (R100, R102). The model's
choices: the row names a context and takes that context's oldest trigger (notes/assumptions/26); a capture in progress is shared
while a stop is pending too (notes/assumptions/43). -/
def Obligations.TriggersStartOrShareACapture : Prop :=
  ∀ (x : DetCtx) (era : Nat) (before after : List Trigger) (s : State), RingSound s.cap →
    s.flight.triggers = before ++ ⟨x, era⟩ :: after → (∀ m ∈ before, m.ctx ≠ x) →
    let linked := match x with | .low => s.cap.linkedLow | .high => s.cap.linkedHigh
    let told := fun (a : AnswerKind) =>
      { s with flight := { s.flight with triggers := before ++ after, answers := s.flight.answers ++ [⟨x, a⟩] } }
    (s.cap.capturing = true → linked = true → exec (.trigger x) s = .next (told .none)) ∧
    (s.cap.capturing = true → linked = false → exec (.trigger x) s = .next { told (.shared s.cap.number) with
      cap := match x with | .low => { s.cap with linkedLow := true } | .high => { s.cap with linkedHigh := true } }) ∧
    (s.cap.capturing = false → ¬ isRunning s ∨ s.cap.stopTaken = true → exec (.trigger x) s = .next (told .none)) ∧
    (s.cap.capturing = false → isRunning s → s.cap.stopTaken = false →
      let n := if s.cap.number = 65535 then 1 else s.cap.number + 1
      let cycles := s.cap.ring.drop (s.cap.ring.length - s.cap.pre)
      ∃ t, exec (.trigger x) s = .next t ∧
        wavesAppended (cycles.zipIdx.map fun q => ((q.2 : Int) - cycles.length, q.1))
          { told (.started n) with cap := { s.cap with
            capturing := true, number := n, linkedLow := x == .low, linkedHigh := x == .high, p := s.cap.pre, q := s.cap.post
            cycle0 := some s.cap.done, postDone := 0, firstWave := none, stored := 0, refused := false } } t)

/-! ### Harmonic intervals (06) -/

/-- POST_FRAME: the checks of R109 in their order, a refusal changing nothing but the answer; a frame that passes finds its
interval, counts the windows passed over as missing, and is aggregated or excluded; the last window of the interval closes it. The
words of the answers are the model's choice (notes/assumptions/11), and so is the disregard of bits beyond the channels in the
frame's mask word (notes/assumptions/12). -/
def Obligations.FramesJoinTheirInterval : Prop :=
  (∀ (p : Port) (s : State) (body : List Word), waits p .postFrame body s → body.length < 4 →
    exec (.postFrame p) s = .next (answered p .postFrame .badRequest [] s)) ∧
  ∀ (p : Port) (s : State) (h l m n : Word) (mags : List Word), waits p .postFrame (h :: l :: m :: n :: mags) s →
    let mask : BitVec 8 := m.setWidth 8
    let i := join32 h l
    (mags.length ≠ maskCount mask * n.toNat → exec (.postFrame p) s = .next (answered p .postFrame .badRequest [] s)) ∧
    (mags.length = maskCount mask * n.toNat →
      (¬ isRunning s → exec (.postFrame p) s = .next (answered p .postFrame .noSurvey [] s)) ∧
      (isRunning s → n.toNat = 0 ∨ 50 < n.toNat ∨ mask = 0 →
        exec (.postFrame p) s = .next (answered p .postFrame .badValue [] s)) ∧
      (isRunning s → 1 ≤ n.toNat → n.toNat ≤ 50 → mask ≠ 0 →
        (∀ top, s.agg.highest = some top → i ≤ top →
          exec (.postFrame p) s = .next (answered p .postFrame .staleWindow (words32 top) s)) ∧
        ((∀ top, s.agg.highest = some top → top < i) → maskCount s.agg.mask * s.agg.kept ≤ 400 →
          ∃ u t missing split closed, intervalSettled i (withdrawn p s) u missing split ∧
            (let k := i / s.agg.length
             let w := { u with agg := windowCounted i mask n.toNat mags u }
             (if i = k * u.agg.curN.getD u.agg.length + u.agg.curN.getD u.agg.length - 1 then
                intervalClosed .complete k w t ∧ closed = true
              else t = w ∧ closed = split) ∧
             exec (.postFrame p) s = .next (replied p .postFrame .ok
              (words32 k ++ [if s.agg.exclude && eventOpen s then 1 else 0, word missing, if closed then 1 else 0]) t)))))

/-- The INTERVAL record's body (R126) at a close (R122), its magnitudes (R123), THD (R124) and exceedance list (R125): aggregated
magnitudes are integer roots of the means of squares, THD is formed from them, the exceedance list holds the first 32 counts above
0 by channel and order, and the flags are as their table gives them. -/
def Obligations.IntervalRecordsFollowTheFigures : Prop :=
  ∀ (cause : CloseCause) (k : Nat) (s : State), AccumulatorsSound s.agg →
    let a := s.agg
    let b := intervalBody cause k s
    let n := a.curN.getD a.length
    let first := a.first.getD 0
    let entries := (List.range 4).flatMap fun c => (List.range (a.kept - 1)).filterMap fun i =>
      if (a.exceed.get c).getD i 0 = 0 then none else some (Exceedance.mk c (i + 2) ((a.exceed.get c).getD i 0))
    (b.number = k ∧ b.length = n ∧ b.first = first ∧
      (b.last = match cause with | .complete => k * n + n - 1 | _ => a.highest.getD 0) ∧
      b.aggregated = a.aggregated ∧ b.excluded = a.excluded ∧ b.missing = a.missing ∧ b.unpowered = a.unpowered ∧
      b.occupancy = s.hcu.intervalOcc ∧ b.closeMs = s.survey.clock ∧ b.kept = a.kept ∧ b.mask = a.mask) ∧
    (∀ c : Fin 8, b.magnitudes.get c = if a.mask.getLsbD c = true ∧ a.nc.get c ≠ 0 then
        some (((a.sums.get c).take a.kept).map fun sum => Nat.sqrt (sum / a.nc.get c))
      else none) ∧
    (∀ c : Fin 4, b.thd.get c = match b.magnitudes.get c with
      | some (f :: rest) => if f = 0 then none else some (min 9999 (1000 * Nat.sqrt (rest.map fun x => x * x).sum / f))
      | _ => none) ∧
    b.exceed = entries.take 32 ∧ b.exceedTotal = (entries.map Exceedance.count).sum ∧
    b.flags.more = decide (32 < entries.length) ∧ b.flags.flagged = a.eventSeen ∧ b.flags.test = a.testSeen ∧
    (b.flags.partialClose = true ↔ cause = .partialStop) ∧ (b.flags.split = true ↔ cause = .split ∨ k * n < first) ∧
    (b.flags.calOverdue = true ↔ ∃ c : Fin 8, a.mask.getLsbD c = true ∧ overdue s c = true)

/-- The stop notices: EVENT_OPENING_NOTICE marks a current interval; STOP_NOTICE_DETECTOR ends both contexts' events (LOW's first,
notes/assumptions/32); STOP_NOTICE_CAPTURE cuts a capture in progress; STOP_NOTICE_AGGREGATOR closes a current interval with
PARTIAL; STOP_NOTICE_GENERATOR stops a running generator (R62). Each block then leaves the set of those yet to finish, the
detector once nothing of it is left, the generator at its notice alone (notes/assumptions/31); the last to leave completes the
stop, whichever it is. The end survey ms of an OPEN event that the stop ends is free (notes/assumptions/13). A context gone IDLE
keeps its frozen thresholds (notes/assumptions/41), and a capture that ends its set of linked contexts (notes/assumptions/35): the
model's choices. -/
def Obligations.StopNoticesFinishTheBlocks : Prop :=
  (∀ (x : DetCtx) (rest : List DetCtx) (s : State), s.flight.openings = x :: rest →
    exec .eventOpeningNotice s = .next { s with
      agg := if s.agg.current = none then s.agg else { s.agg with eventSeen := true }
      flight := { s.flight with openings := rest } }) ∧
  ∀ s : State, s.survey.state = .running → s.survey.stopPending ≠ .none →
    let told := fun (b : Blocks) => { s with flight := { s.flight with stopNotices := b } }
    let n := s.flight.stopNotices
    (n.detector = true →
      let s1 := told { n with detector := false }
      ∃ u v t, contextStopped .low { s1 with det := { s1.det with stopTaken := true } } u ∧ contextStopped .high u v ∧
        detectorReports v t ∧ exec .stopNoticeDetector s = .next t) ∧
    (n.capture = true →
      let s1 := told { n with capture := false }
      let s2 := { s1 with cap := { s1.cap with stopTaken := true } }
      ∃ t, blockLeaves (fun b => { b with capture := false }) (if s.cap.capturing then captureEnded true s2 else s2) t ∧
        exec .stopNoticeCapture s = .next t) ∧
    (n.aggregator = true → maskCount s.agg.mask * s.agg.kept ≤ 400 →
      let s1 := told { n with aggregator := false }
      ∃ u t, (match s.agg.current with | some k => intervalClosed .partialStop k s1 u | none => u = s1) ∧
        blockLeaves (fun b => { b with aggregator := false }) u t ∧ exec .stopNoticeAggregator s = .next t) ∧
    (n.generator = true →
      let s1 := told { n with generator := false }
      let leaves := blockLeaves (fun b => { b with generator := false })
      (s.gen.running = false → ∃ t, leaves s1 t ∧ exec .stopNoticeGenerator s = .next t) ∧
      (s.gen.running = true → s.link.state = .loopback →
        ∃ v t, exec (.append (.mark (.selftestOff .surveyStop s.gen.repeatsDone s.gen.frames)) false)
            { s1 with gen := { s.gen with running := false } } = .next v ∧
          leaves (linkRaised (lossSent { v with link := { v.link with
            state := .hunt, wordPos := none, frame := [], lowRun := 0 } })) t ∧
          exec .stopNoticeGenerator s = .next t))

/-! ### Probes and kit lines (07) -/

/-- SENSE_LINE_CHANGE: the compared level starts the channel's timer at 50 ms where it now differs from the settled level and
stops it where it does not. DEBOUNCE_EXPIRY, with no time left: the settled level becomes the compared level and present is formed
again; a change of present raises PROBE on both ports, sends a probe notice for channels 0 to 3, and appends its mark in RUNNING.
FAULT_INPUT_ACTIVE: the enable output goes off, the supply is FAULTED, PROBE is raised on both ports, and in RUNNING MARK
PROBE_FAULT is appended. FAULT_INPUT_INACTIVE: the input is recorded and the output worked out again. SUPPLY_RESTORE: its checks
in order; then NORMAL, the output by the setting, and in RUNNING MARK SUPPLY_RESTORED. A pin already at its level changes nothing
(notes/assumptions/2). -/
def Obligations.SenseLinesAndFaults : Prop :=
  (∀ (c : Fin 8) (s : State),
     let e := s.kit.entries.get c
     (∀ high, s.kit.sense.get c = high → exec (.senseLineChange c high) s = .next s) ∧
     (∀ high, s.kit.sense.get c ≠ high → exec (.senseLineChange c high) s = .next { s with kit := { s.kit with
       sense := s.kit.sense.set c high
       timers := s.kit.timers.set c (if (high == e.activeHigh) = s.kit.settled.get c then none else some 50) } }) ∧
     (s.kit.timers.get c ≠ some 0 → exec (.debounceExpiry c) s = .next s) ∧
     (s.kit.timers.get c = some 0 →
       let fitted := s.kit.sense.get c == e.activeHigh
       let present := fitted && e.kind != .none
       let k := { s.kit with
         timers := s.kit.timers.set c none, settled := s.kit.settled.set c fitted, present := s.kit.present.set c present }
       (present = s.kit.present.get c → exec (.debounceExpiry c) s = .next { s with kit := k }) ∧
       (present ≠ s.kit.present.get c →
         let detects := fun (there : Bool) => there && e.kind == .voltageLead && e.inDetector
         let s1 := { s with
           kit := k
           flight := { s.flight with probeNotices := s.flight.probeNotices ++
             if c.val < 4 then [⟨c, detects (s.kit.present.get c), detects present⟩] else [] }
           portA := flagsRaised 0x40 s.portA, portB := flagsRaised 0x40 s.portB }
         let mark := if present then MarkBody.probeIn c e.kind false (maskOf k.present.get)
           else .probeOut c e.kind false (maskOf k.present.get)
         (¬ isRunning s → exec (.debounceExpiry c) s = .next s1) ∧
         (isRunning s → exec (.debounceExpiry c) s = exec (.append (.mark mark) false) s1)))) ∧
  (∀ s : State,
     (s.kit.faultActive = true → exec .faultInputActive s = .next s) ∧
     (s.kit.faultActive = false →
       let s1 := { s with
         kit := { s.kit with enable := false, faulted := true, faultActive := true }
         portA := flagsRaised 0x40 s.portA, portB := flagsRaised 0x40 s.portB }
       (¬ isRunning s → exec .faultInputActive s = .next s1) ∧
       (isRunning s → exec .faultInputActive s = exec (.append (.mark (.probeFault s.kit.supplyOn s.kit.faulted
         (maskOf fun c => (s.kit.entries.get c).kind == .flex))) false) s1)) ∧
     (s.kit.faultActive = false → exec .faultInputInactive s = .next s) ∧
     (s.kit.faultActive = true → exec .faultInputInactive s = .next { s with
       kit := { s.kit with faultActive := false, enable := s.kit.supplyOn && !s.kit.faulted } }) ∧
     ∀ (p : Port) (body : List Word), waits p .supplyRestore body s →
       (body ≠ [] → exec (.supplyRestore p) s = .next (answered p .supplyRestore .badRequest [] s)) ∧
       (body = [] → s.kit.faultActive = true →
         exec (.supplyRestore p) s = .next (answered p .supplyRestore .supplyFault [] s)) ∧
       (body = [] → s.kit.faultActive = false → s.kit.faulted = false →
         exec (.supplyRestore p) s = .next (answered p .supplyRestore .wrongState [] s)) ∧
       (body = [] → s.kit.faultActive = false → s.kit.faulted = true →
         let s1 := { withdrawn p s with kit := { s.kit with faulted := false, enable := s.kit.supplyOn } }
         ∃ t, (if isRunning s then exec (.append (.mark (.supplyRestored p s.kit.supplyOn s.kit.supplyOn)) false) s1
             else .next s1) = .next t ∧
           exec (.supplyRestore p) s = .next (replied p .supplyRestore .ok [] t)))

/-! ### Site notes (08) -/

/-- NOTE_BEGIN ends the context of its port, then its checks run in order, a refusal leaving it EMPTY; an accepted one puts it in
ASSEMBLING with the values as stored, the author clamped to 15 and the part count to 1 to 8, and answers with both. NOTE_PART
before a note is complete, and after: in EMPTY BAD_SEQUENCE; in ASSEMBLING the next index adds its text, up to 480 bytes kept, a
repeat of the last part is DUPLICATE, and any other index ends the note; in DONE a repeat of the last part reports the append
again, and any other index ends the context. A NOTE_BEGIN whose length disagrees with its presence word and citation count is
BAD_REQUEST; so is a NOTE_PART of more than 64 bytes or whose length disagrees with its byte count, which changes nothing else
(R142 to R146, R151). The words of the answers are the model's choice (notes/assumptions/11). -/
def Obligations.NotesAreAssembled : Prop :=
  ((∀ (p : Port) (s : State) (body : List Word), waits p .noteBegin body s →
     (let options := (if (body.headD 0).getLsbD 0 then 2 else 0) + if (body.headD 0).getLsbD 1 then 2 else 0
      body.length ≠ 3 + options + 1 + 2 * (body.getD (3 + options) 0).toNat + 1) →
     exec (.noteBegin p) s = .next ((answered p .noteBegin .badRequest [] s).setNote p .empty)) ∧
   ∀ (p : Port) (s : State) (author category parts : Word) (observed target : Option (Word × Word)) (cites : List (Word × Word)),
     cites.length < 65536 →
     let opt := fun (o : Option (Word × Word)) => match o with | some q => [q.1, q.2] | none => []
     let presence : Word := (if observed.isSome then 1 else 0) + if target.isSome then 2 else 0
     waits p .noteBegin ([presence, author, category] ++ opt observed ++ opt target ++ [word cites.length]
       ++ (cites.flatMap fun q => [q.1, q.2]) ++ [parts]) s →
     let refused := fun (code : ResultCode) => Host.Outcome.next ((answered p .noteBegin code [] s).setNote p .empty)
     (s.survey.state = .idle → exec (.noteBegin p) s = refused .noSurvey) ∧
     (s.survey.state ≠ .idle → 4 < category.toNat ∨ 4 < cites.length → exec (.noteBegin p) s = refused .badValue) ∧
     ∀ kind, s.survey.state ≠ .idle → [Category.site, .load, .weather, .probe, .other][category.toNat]? = some kind →
       cites.length ≤ 4 →
       let a := min 15 author.toNat
       let n := max 1 (min 8 parts.toNat)
       let number := fun (q : Word × Word) => join32 q.1 q.2
       exec (.noteBegin p) s = .next ((answered p .noteBegin (if a = author.toNat ∧ n = parts.toNat then .ok else .okClamped)
         [word a, word n] s).setNote p (.assembling
           ⟨a, kind, observed.map number, target.map number, cites.map number, n, 0, [], 0, false, s.survey.number⟩))) ∧
  ((∀ (p : Port) (s : State) (body : List Word), waits p .notePart body s →
     64 < (body.getD 1 0).toNat ∨ body.length ≠ 2 + ((body.getD 1 0).toNat + 1) / 2 →
     exec (.notePart p) s = .next (answered p .notePart .badRequest [] s)) ∧
   ∀ (p : Port) (s : State) (index : Word) (text : List Byte), text.length ≤ 64 → waits p .notePart (index :: textWords text) s →
     let i := index.toNat
     let badSequence := Host.Outcome.next ((answered p .notePart .badSequence [] s).setNote p .empty)
     (s.note p = .empty → exec (.notePart p) s = .next (answered p .notePart .badSequence [] s)) ∧
     (∀ d, s.note p = .assembling d →
       let d1 := { d with
         lastPart := i, text := (d.text ++ text).take 480, received := d.received + text.length
         truncated := d.truncated || decide (480 < d.text.length + text.length) }
       (i = d.lastPart + 1 → i < d.parts → exec (.notePart p) s =
         .next ((answered p .notePart .ok [word (i + 1), word d1.text.length] s).setNote p (.assembling d1))) ∧
       (i = d.lastPart → i ≠ 0 → exec (.notePart p) s =
         .next (answered p .notePart .duplicate [word (i + 1), word d.text.length] s)) ∧
       ((i ≠ d.lastPart + 1 ∨ d.parts < i) → (i ≠ d.lastPart ∨ i = 0) → exec (.notePart p) s = badSequence)) ∧
     ∀ d seq clamped observed, s.note p = .done d seq clamped observed →
       (i = d.parts → exec (.notePart p) s = .next (answered p .notePart .duplicate
         (words32 seq ++ words32 observed ++ [word d.text.length, if d.truncated then 1 else 0]) s)) ∧
       (i ≠ d.parts → exec (.notePart p) s = badSequence))

/-- The part that completes a note leads to its append: the checks of R147 in their order, each failure leaving the context EMPTY
and the journal as it was; then the NOTE record takes the head sequence, its target still stored is SUPERSEDED, the context is
DONE, and the answer reports the append (R147 to R150). Each citation entry holds what the journal held of its record at the
append, and so does the target's survey ms (R210). The append reclaims the n oldest records of its plan, pushes cursors, checks the
low-space warning, tells each port of the NOTE and ends with the limit test (R6, R22, R23, R32, R205); under CAPTURE_FIRST jobs
yield until a plan gives the slots (R26). The words of the CITE_GONE answer and of the append's report are the model's choice
(notes/assumptions/11). -/
def Obligations.LastPartAppendsTheNote : Prop :=
  ∀ (p : Port) (s : State) (index : Word) (text : List Byte) (d : NoteData), text.length ≤ 64 →
    waits p .notePart (index :: textWords text) s → s.note p = .assembling d → index.toNat = d.lastPart + 1 → index.toNat = d.parts →
    let kept := (d.text ++ text).take 480
    let cut := d.truncated || decide (480 < d.text.length + text.length)
    let refused := fun (code : ResultCode) (body : List Word) =>
      Host.Outcome.next ((answered p .notePart code body s).setNote p .empty)
    let held := fun (n : Nat) => s.journal.tailSeq ≤ n ∧ n < s.journal.headSeq
    let gone := fun (n : Nat) => refused .citeGone (words32 s.journal.tailSeq ++ words32 s.journal.headSeq ++ words32 n)
    let ready := s.survey.state ≠ .idle ∧ s.survey.number = d.surveyNumber ∧ s.journal.headSeq < 0xFFFFFF00
    (s.survey.state = .idle ∨ s.survey.number ≠ d.surveyNumber → exec (.notePart p) s = refused .noSurvey []) ∧
    (s.survey.state ≠ .idle → s.survey.number = d.surveyNumber → 0xFFFFFF00 ≤ s.journal.headSeq →
      exec (.notePart p) s = refused .wrongState []) ∧
    (∀ before n after, ready → d.cites = before ++ n :: after → (∀ m ∈ before, held m) → ¬ held n →
      exec (.notePart p) s = gone n) ∧
    (∀ n, ready → (∀ m ∈ d.cites, held m) → d.supersedes = some n →
      (¬ held n → exec (.notePart p) s = gone n) ∧
      (held n → (∀ r ∈ s.journal.records, r.seq = n → r.kind ≠ .note) → exec (.notePart p) s = refused .badValue [])) ∧
    (ready → (∀ m ∈ d.cites, held m) →
      (∀ n, d.supersedes = some n → held n ∧ ∃ r, (s.journal.records.find? fun r => r.seq == n) = some r ∧ r.kind = .note) →
      let slots := slotsFor (24 + 16 * d.cites.length + kept.length)
      (makeRoom slots s = none → exec (.notePart p) s = refused .journalHeld []) ∧
      ((makeRoom slots s).isSome = true →
        let observed := min s.survey.clock (d.observed.getD s.survey.clock)
        let clamped := decide (s.survey.clock < d.observed.getD 0)
        ∃ t body, exec (.notePart p) s = .next t ∧
          t.journal.records.getLast? =
            some ⟨s.journal.headSeq, false, false, originOf p, s.survey.clock, s.survey.number, .note body⟩ ∧
          (body.author = d.author ∧ body.category = d.category ∧ body.observed = observed ∧
            body.observedGiven = d.observed.isSome ∧ body.observedClamped = clamped ∧ body.truncated = cut ∧
            body.supersedes.map Prod.fst = d.supersedes ∧ body.cites.map CiteEntry.seq = d.cites ∧
            body.received = d.received + text.length ∧ body.parts = d.parts ∧ body.text = kept) ∧
          (JournalSound s.journal →
            (∀ c ∈ body.cites, ∃ r ∈ s.journal.records, c = ⟨r.seq, r.surveyMs, r.kind, r.origin, r.test, r.superseded,
              match r.body with | .event e => e.capture.getD 0 | .wave w => w.capture | .interval i => i.number | _ => 0⟩) ∧
            ∀ n ms, body.supersedes = some (n, ms) → ∃ r ∈ s.journal.records, r.seq = n ∧ r.surveyMs = ms) ∧
          t.journal.headSeq = s.journal.headSeq + 1 ∧
          (∀ r ∈ t.journal.records, d.supersedes = some r.seq → r.superseded = true) ∧
          (let d1 := { d with
             lastPart := index.toNat, text := kept, received := d.received + text.length, truncated := cut }
           t.note p = .done d1 s.journal.headSeq clamped observed) ∧
          (t.port p).waiting = none ∧
          (t.port p).response = some ⟨if clamped then .okClamped else .ok,
            words32 s.journal.headSeq ++ words32 observed ++ [word kept.length, if cut then 1 else 0],
            some .notePart, .nothing, false⟩ ∧
          (t.survey.clock = s.survey.clock ∧ t.survey.steps = s.survey.steps ∧ settingsOf t = settingsOf s) ∧
          ∀ n, planIs slots n s → t = replied p .notePart (if clamped then .okClamped else .ok)
              (words32 s.journal.headSeq ++ words32 observed ++ [word kept.length, if cut then 1 else 0])
              (limitTested (superseding d.supersedes (portAppended p (.note body) n ((withdrawn p s).setNote p (t.note p)))))) ∧
      yieldsFor (.notePart p) slots s)

/-! ### Report jobs (09) -/

/-- PRINT_SUBMIT: the checks of R155 in their order, a body whose length disagrees with its span form being BAD_REQUEST; the span
resolved against the journal (R156); an accepted job takes the next free number, joins the back of the queue with its hold at
first, and starts if the queue was empty (R157, R158). The words of its answer are the model's choice (notes/assumptions/11), and
so is what is disregarded in the section mask and the length that goes with an unknown span form (notes/assumptions/12). -/
def Obligations.SubmitResolvesAndQueuesAJob : Prop :=
  (∀ (p : Port) (s : State) (body : List Word), waits p .printSubmit body s →
    body.length ≠ (if body.headD 0 = 0 then 9 else 5) →
    exec (.printSubmit p) s = .next (answered p .printSubmit .badRequest [] s)) ∧
  (∀ a b c d sec fmt copies latest : Word,
    readSubmit [0, a, b, c, d, sec, fmt, copies, latest] =
      some ⟨.range (join32 a b) (join32 c d), sec.toNat, fmt.toNat, copies.toNat, latest.toNat⟩ ∧
    readSubmit [1, sec, fmt, copies, latest] = some ⟨.all, sec.toNat, fmt.toNat, copies.toNat, latest.toNat⟩ ∧
    readSubmit [2, sec, fmt, copies, latest] = some ⟨.sinceLast, sec.toNat, fmt.toNat, copies.toNat, latest.toNat⟩ ∧
    (2 < a.toNat → readSubmit [a, sec, fmt, copies, latest] = some ⟨.unknown, sec.toNat, fmt.toNat, copies.toNat, latest.toNat⟩)) ∧
  ∀ (p : Port) (s : State) (body : List Word) (span : SpanForm) (sec fmt copies latest : Nat),
    waits p .printSubmit body s → readSubmit body = some ⟨span, sec, fmt, copies, latest⟩ →
    let refused := fun (code : ResultCode) => Host.Outcome.next (answered p .printSubmit code [] s)
    let tail := s.journal.tailSeq
    let newest := s.journal.headSeq - 1
    let asked := match span with
      | .range a b => (if a = 0 then 1 else a, b)
      | .sinceLast => (s.comp.lastPrinted + 1, newest)
      | _ => (tail, newest)
    let first := max asked.1 tail
    let last := min asked.2 newest
    let valid := span ≠ .unknown ∧ fmt ≤ 1 ∧ latest ≤ 1 ∧ sec % 32 ≠ 0
    (s.survey.state = .idle → exec (.printSubmit p) s = refused .noSurvey) ∧
    (s.survey.state ≠ .idle → ¬ valid → exec (.printSubmit p) s = refused .badValue) ∧
    (s.survey.state ≠ .idle → valid → last < first → exec (.printSubmit p) s = refused .emptySpan) ∧
    (s.survey.state ≠ .idle → valid → first ≤ last → 8 ≤ s.comp.queue.length → exec (.printSubmit p) s = refused .queueFull) ∧
    (s.survey.state ≠ .idle → valid → first ≤ last → QueueSound s.comp → s.comp.queue.length < 8 →
      let held := fun (n : Nat) => ∃ j ∈ s.comp.queue, j.number = n
      let number := fun (i : Nat) => (s.comp.lastJob + i) % 255 + 1
      let copiesTaken := max 1 (min 3 copies)
      ∃ i, ¬ held (number i) ∧ (∀ m < i, held (number m)) ∧
        let job : Job :=
          { number := number i, port := p, surveyNumber := s.survey.number, first := first, last := last
            missing := tail - asked.1, sections := ⟨sec.testBit 0, sec.testBit 1, sec.testBit 2, sec.testBit 3, sec.testBit 4⟩
            full := fmt == 1, copies := copiesTaken, current := 1, latestOnly := latest == 1, state := .queued
            position := .header, hold := some first, closing := .none, printed := 0, completed := 0, began := false
            decided := none }
        exec (.printSubmit p) s = .next ((answered p .printSubmit (if copiesTaken = copies then .ok else .okClamped)
          ([word (number i)] ++ words32 first ++ words32 last ++ words32 (tail - asked.1) ++ [word copiesTaken])
          { s with comp := { s.comp with
              lastJob := number i
              queue := if s.comp.queue = [] then [{ job with state := .printing }] else s.comp.queue ++ [job]
              asked := s.comp.asked || s.comp.queue.isEmpty } }).bothPorts (flagsRaised 0x08)))

/-- PRINT_CANCEL: an unknown number, or a job whose closing is decided, is refused; a QUEUED job leaves at once, CANCELLED; the
head job drops its hold: SUSPENDED it leaves at once, STALLED it keeps its closing pending, PRINTING its closing line follows the
line in hand, or the start it waits for (R173, R174, R176). The model's choices: the word of the WRONG_STATE answer
(notes/assumptions/11); where the line goes when a job leaves (notes/assumptions/19, 20). -/
def Obligations.CancelClosesAJob : Prop :=
  (∀ (p : Port) (s : State) (body : List Word), waits p .printCancel body s → body.length ≠ 1 →
    exec (.printCancel p) s = .next (answered p .printCancel .badRequest [] s)) ∧
  ∀ (p : Port) (s : State) (n : Word), waits p .printCancel [n] s → (s.comp.queue.map Job.number).Nodup →
    ((∀ j ∈ s.comp.queue, j.number ≠ n.toNat) → exec (.printCancel p) s = .next (answered p .printCancel .noSuchJob [] s)) ∧
    ∀ (before after : List Job) (j : Job), s.comp.queue = before ++ j :: after → j.number = n.toNat →
      let ok := fun (s1 : State) => Host.Outcome.next (replied p .printCancel .ok [] s1)
      let s0 := withdrawn p s
      (j.closing ≠ .none → exec (.printCancel p) s = .next (answered p .printCancel .wrongState
        [match j.closing with | .cancel => 1 | _ => 2] s)) ∧
      (j.closing = .none → before ≠ [] → exec (.printCancel p) s = ok ({ s0 with comp := { s.comp with
          queue := before ++ after
          endList := endListed (entryOf j .cancelled (if j.began then some j.position else none)) s.comp.endList } }.bothPorts
            (flagsRaised 0x08))) ∧
      (j.closing = .none → before = [] →
        let where_ := if j.began then some j.position else none
        let s1 := { s0 with comp := { s.comp with queue := { j with hold := none, closing := .cancel, decided := where_ } :: after } }
        (j.state = .suspended → exec (.printCancel p) s = ok (headLeft (entryOf j .cancelled where_) s1)) ∧
        (j.state = .stalled → exec (.printCancel p) s = ok (s1.bothPorts (flagsRaised 0x08))) ∧
        (j.state = .printing →
          (s.line.state = .sending ∧ s.comp.asked = false → exec (.printCancel p) s =
            ok ({ s1 with comp := { s1.comp with
              todo := [.closingLine (ascii "REPORT CANCELLED"), .command [0x02, 4, 0x03]] } }.bothPorts (flagsRaised 0x08))) ∧
          (¬ (s.line.state = .sending ∧ s.comp.asked = false) →
            exec (.printCancel p) s = ok (s1.bothPorts (flagsRaised 0x08)))))

/-- PRINT_RESUME: its checks in order; accepted, the line goes to BREAK, for 250 ms from the end of any byte in the shift
register, and the job stays SUSPENDED (R191, R192). PRINT_LIST: OK with the listing of R177, whose words are the model's choice
(notes/assumptions/11); a body is BAD_REQUEST. -/
def Obligations.ResumeBreaksAndListReports : Prop :=
  (∀ (p : Port) (s : State) (body : List Word), waits p .printResume body s →
    (body.length ≠ 1 → exec (.printResume p) s = .next (answered p .printResume .badRequest [] s)) ∧
    ∀ n : Word, body = [n] →
      ((∀ j ∈ s.comp.queue, j.number ≠ n.toNat) → exec (.printResume p) s = .next (answered p .printResume .noSuchJob [] s)) ∧
      ((s.comp.queue.map Job.number).Nodup → ∀ j ∈ s.comp.queue, j.number = n.toNat →
        let resumes := s.comp.queue.head? = some j ∧ j.state = .suspended ∧ s.line.state = .suspended
        (¬ resumes → exec (.printResume p) s = .next (answered p .printResume .wrongState [] s)) ∧
        (resumes → exec (.printResume p) s = .next (answered p .printResume .ok [] { s with
          line := { s.line with state := .brk, brk := if s.line.shift = none then some 250 else none } })))) ∧
  ∀ (p : Port) (s : State) (body : List Word), waits p .printList body s →
    (body ≠ [] → exec (.printList p) s = .next (answered p .printList .badRequest [] s)) ∧
    (body = [] →
      let flag := fun (b : Bool) => if b then (1 : Word) else 0
      let place := fun (q : Position) => match q with
        | .header => [(0 : Word)] | .record m => 1 :: words32 m | .footer => [2] | .closing => [3]
      let job := fun (j : Job) =>
        let reason := if j.state = .stalled ∨ j.state = .suspended then s.line.reason else none
        [word ((if j.hold.isSome then 1 else 0) + if reason.isSome then 2 else 0), word j.number,
          (match j.port with | .a => 0 | .b => 1),
          (match j.state with | .queued => 0 | .printing => 1 | .stalled => 2 | .suspended => 3),
          (match j.closing with | .none => 0 | .cancel => 1 | .yield => 2)]
          ++ words32 j.first ++ words32 j.last ++ words32 j.missing
          ++ [word (sectionsCode j.sections), flag j.full, word j.copies, word j.current] ++ place j.position
          ++ ((j.hold.map words32).getD []) ++ words32 j.printed
          ++ match reason with
            | none => [] | some .noPrinter => [0] | some .paperOut => [1] | some .coverOpen => [2]
      let entry := fun (e : EndEntry) =>
        [flag e.position.isSome, word e.number, word e.surveyNumber, (match e.port with | .a => 0 | .b => 1),
          (match e.ending with | .done => 0 | .cancelled => 1 | .yielded => 2)]
          ++ words32 e.first ++ words32 e.last ++ words32 e.missing ++ [word e.copies, word e.completed]
          ++ ((e.position.map place).getD [])
      exec (.printList p) s = .next (answered p .printList .ok
        (words32 s.comp.lastPrinted ++ [word s.comp.lastJob, word s.comp.queue.length] ++ s.comp.queue.flatMap job
          ++ [word s.comp.endList.length] ++ s.comp.endList.flatMap entry) s))

/-- The lines of a report's header, of each record and of its footer are as their tables give them (R163 to R166, R168 to R170),
with numbers, dates, times of day and sequence numbers rendered (R162) and note texts wrapped (R167) as the manual says;
separators that the tables leave open are the model's choice (notes/assumptions/33). ROOM: in SENDING, with fewer than 64 bytes in
the FIFO and no start waited for, the composer hands on the next byte of its line buffer; an empty buffer first takes the next
line, each record on another date having its date line composed first. The byte joins the FIFO, sets composer bytes outstanding,
and moves on when it may (R160 to R162, R174, R181). The model's choices: one byte a command (notes/assumptions/29); FROM and DATE
lines alone set the date last printed, and the dates in a MARK TIME_STEP's detail lines do not (notes/assumptions/47). -/
def Obligations.RoomTakesTheNextByte : Prop :=
  ((∀ s j ms, headerLines s j ms = headerSpec s j ms) ∧
   (∀ r full freq tail, recordSpec r full freq tail (recordLines r full freq tail)) ∧
   (∀ h printed, footerLines h printed = footerSpec h printed) ∧
   ∀ n < 10 ^ 20, decimalOf 1 n (decimal n) ∧ dateSpec n (dateText n) ∧ timeSpec n (timeText n) ∧ seqSpec n (seqText n)) ∧
  ∀ s : State,
    let room := s.line.state = .sending ∧ s.line.fifo.length < 64 ∧ s.comp.asked = false
    let after := fun (line : List Byte) (todo : List LineSpec) (date : Option Nat) (mark : Job → Job) =>
      { s with comp := { s.comp with
          buffer := line, todo := todo, lastDate := date
          queue := match s.comp.queue with | [] => [] | j :: more => mark j :: more } }
    (¬ room → exec .room s = .next s) ∧
    (room → ∀ b rest, s.comp.buffer = b :: rest → exec .room s = .next { s with
      comp := { s.comp with buffer := rest }
      line := byteMoved { s.line with fifo := s.line.fifo ++ [b], outstanding := true } }) ∧
    (room → s.comp.buffer = [] →
      (s.comp.todo = [] → exec .room s = .next s) ∧
      ∀ spec rest, s.comp.todo = spec :: rest →
        (∀ b, spec = .text b → exec .room s = exec .room (after (printedLine b) rest s.comp.lastDate id)) ∧
        (∀ b, spec = .command b → b ≠ [] → exec .room s = exec .room (after b rest s.comp.lastDate id)) ∧
        (∀ b, spec = .lastLine b →
          exec .room s = exec .room (after (printedLine b) rest s.comp.lastDate fun j => { j with completed := j.current })) ∧
        (∀ b, spec = .closingLine b →
          exec .room s = exec .room (after (printedLine b) rest s.comp.lastDate fun j => { j with position := .closing })) ∧
        ∀ ms day t, wallTime s.survey.steps ms = some (day, t) →
          (spec = .fromLine ms → exec .room s =
            exec .room (after (printedLine (spaced [ascii "FROM", dateText day, timeText t])) rest (some day) id)) ∧
          ∀ n fields, spec = .dated n ms fields →
            (s.comp.lastDate = some day → exec .room s =
              exec .room (after (printedLine (spaced [seqText n, timeText t, fields])) rest (some day) id)) ∧
            (s.comp.lastDate ≠ some day → exec .room s =
              exec .room (after (printedLine (spaced [ascii "DATE", dateText day])) (spec :: rest) (some day) id)))

/-- SHIFT_REGISTER_BYTE_END: the next byte moves in, a waiting break begins, or a line whose job has left becomes IDLE; with
nothing left to send in SENDING and composer bytes outstanding, transmission complete is reported, and a composer with no line in
hand passes on: to the next record that prints or the footer, to the next copy and its start, or the job leaves as DONE or by its
closing (R160, R171, R172, R174, R181, R182). Where the line goes when a job leaves, and while a byte of one that has left is
under way, is the model's choice (notes/assumptions/19, 20), and so is that the command changes nothing with no byte in the shift
register (notes/assumptions/2). The lines themselves are in RoomTakesTheNextByte. -/
def Obligations.ByteEndsPassTheReportOn : Prop :=
  ∀ s : State,
    (s.line.shift = none → exec .shiftRegisterByteEnd s = .next s) ∧
    (s.line.shift ≠ none →
      let empty := { s.line with shift := none }
      let complete := s.line.fifo = [] ∧ s.line.outstanding = true ∧ s.line.state = .sending ∧ s.line.leaving = false
      (s.line.state = .brk → exec .shiftRegisterByteEnd s = .next { s with line := { empty with brk := some (s.line.brk.getD 250) } }) ∧
      (s.line.state ≠ .brk → s.line.leaving = true →
        exec .shiftRegisterByteEnd s = .next { s with line := { empty with state := .idle, leaving := false } }) ∧
      (s.line.state ≠ .brk → s.line.leaving = false → ¬ complete →
        exec .shiftRegisterByteEnd s = .next { s with line := byteMoved empty }) ∧
      (complete →
        let s1 := { s with line := { empty with outstanding := false } }
        (s.comp.buffer ≠ [] ∨ s.comp.todo ≠ [] ∨ s.comp.queue = [] → exec .shiftRegisterByteEnd s = .next s1) ∧
        ∀ (j : Job) (rest : List Job), s.comp.queue = j :: rest → s.comp.buffer = [] → s.comp.todo = [] →
          (∀ n, (j.position = .header ∧ n = j.first) ∨ j.position = .record (n - 1) ∧ 1 ≤ n → JournalSound s.journal →
            s.journal.tailSeq ≤ n → j.last < s.journal.headSeq →
            ∃ t, passesOn n j rest s1 t ∧ exec .shiftRegisterByteEnd s = .next t) ∧
          (j.position = .footer →
            (j.current < j.copies → exec .shiftRegisterByteEnd s = .next { s1 with comp := { s.comp with
              queue := { j with current := j.current + 1, printed := 0, position := .header } :: rest
              lastDate := none, asked := true } }) ∧
            (j.copies ≤ j.current → exec .shiftRegisterByteEnd s =
              .next (headLeft (entryOf j .done (some .footer)) { s1 with comp := { s.comp with lastPrinted := j.last } }))) ∧
          (j.position = .closing → j.closing ≠ .none → exec .shiftRegisterByteEnd s =
            .next (headLeft (entryOf j (if j.closing = .yield then .yielded else .cancelled) j.decided) s1))))

/-! ### The printer line (10) -/

/-- START_REQUEST: taken in IDLE, or in SENDING, where the composer has asked (R188). CLEAR_TO_SEND_CHANGE: a byte that waits
moves when it may (R181). PRINTER_READY_CHANGE: PRINTER on both ports, then by line state: a job in SENDING or INQUIRING stalls
with NO_PRINTER, a stall stops or makes its polls (R186). BYTE_RECEIVED: framing, parity and overrun errors are counted on both
ports, any other byte goes to the receive holding (R184); it is judged under the PARITY its reception began with (R179; how a byte
that began before a change is given: notes/assumptions/23). The timers of the line, each with no time left in its state: the
inquiry timer fails the start with NO_PRINTER; the poll timer makes the next poll; the stall timer suspends the job, or ends it by
its pending closing; the break timer ends the break, and the start follows, or the line is IDLE when its job has left (R176, R189
to R191, R193). In any other state of timer or line nothing happens. The model's choices: a stall drops the start request
(notes/assumptions/21), the stall timer's expiry empties the FIFO (22), where the line goes when a job leaves (19, 20), a command
whose event cannot occur (2), an INQUIRE still in the FIFO when a HEAD_HOT byte ends the start waits for the flag to clear (44), a
byte with a framing or parity error is no overrun as well when the receive holding is still full (48). -/
def Obligations.LineInputsAndTimers : Prop :=
  (∀ s : State,
     (let due := s.comp.asked = true ∧ s.line.leaving = false ∧ (s.line.state = .idle ∨ s.line.state = .sending)
      (due → exec .startRequest s = .next (startBegun { s with comp := { s.comp with asked := false } })) ∧
      (¬ due → exec .startRequest s = .next s)) ∧
     (∀ asserted, exec (.clearToSendChange asserted) s =
       .next (if s.line.cts = asserted then s else { s with line := byteMoved { s.line with cts := asserted } })) ∧
     (∀ active, (s.line.ready = active → exec (.printerReadyChange active) s = .next s) ∧
       (s.line.ready ≠ active →
         let s1 := { s with line := { s.line with ready := active } }.bothPorts (flagsRaised 0x10)
         exec (.printerReadyChange active) s = .next (
           if s.line.leaving then s1
           else match s.line.state with
             | .stalled => { s1 with line := if active then polled s1.line else { s1.line with poll := none } }
             | .sending => if active then s1 else stalled .noPrinter s1
             | .inquiring => if active then s1 else stalled .noPrinter s1
             | _ => s1))) ∧
     ∀ (data : Byte) (parityBit stopBit begunBefore : Bool),
       let odd := (((List.range 8).filter fun i => data.getLsbD i).length + if parityBit then 1 else 0) % 2 = 1
       let even := if begunBefore = true ∧ s.line.parityChanged = true then !s.line.evenParity else s.line.evenParity
       let s1 := { s with line := { s.line with parityChanged := false } }
       exec (.byteReceived data parityBit ⟨stopBit, begunBefore⟩) s = .next (
         if stopBit = false then s1.bothPorts fun u => { u with framing := min 65535 (u.framing + 1) }
         else if even = true ∧ odd then s1.bothPorts fun u => { u with parity := min 65535 (u.parity + 1) }
         else if s.line.holding ≠ none then s1.bothPorts fun u => { u with overrun := min 65535 (u.overrun + 1) }
         else { s1 with line := { s1.line with holding := some data } })) ∧
  (∀ s : State,
     (exec .inquiryTimerExpiry s =
       .next (if s.line.inquiry = some 0 ∧ s.line.state = .inquiring then stalled .noPrinter s else s)) ∧
     (exec .pollTimerExpiry s =
       .next (if s.line.poll = some 0 ∧ s.line.state = .stalled then { s with line := polled { s.line with poll := none } } else s)) ∧
     (exec .breakTimerExpiry s = .next (if s.line.brk = some 0 ∧ s.line.state = .brk then
         if s.line.leaving then { s with line := { s.line with brk := none, state := .idle, leaving := false } }
         else startBegun { s with line := { s.line with brk := none } }
       else s)) ∧
     (¬ (s.line.stall = some 0 ∧ s.line.state = .stalled) → exec .stallTimerExpiry s = .next s) ∧
     (s.line.stall = some 0 → s.line.state = .stalled → ∀ (j : Job) (rest : List Job), s.comp.queue = j :: rest →
       (j.closing = .none → exec .stallTimerExpiry s = .next (headIn .suspended { s with line := { s.line with
         state := .suspended, fifo := [], stall := none, poll := none } })) ∧
       (j.closing ≠ .none → exec .stallTimerExpiry s =
         .next (headLeft (entryOf j (if j.closing = .yield then .yielded else .cancelled) j.decided) s))))

/-- STATUS_BYTE: the byte's flags become the held status, a change other than of BUFFER_FULL raises PRINTER on both ports, and by
line state the byte decides a start, stalls a job, releases HEAD_HOT, or clears a stall (R184, R185, R187, R189, R190); a line
whose job has left only notes it (notes/assumptions/19). A record that is read again at a restart and no longer prints is passed
(R160). The model's choices: a stall drops the start request (notes/assumptions/21); the date last printed is kept when a copy
goes on (notes/assumptions/18); with no byte in the receive holding nothing changes (notes/assumptions/2); an INQUIRE still in the
FIFO when a HEAD_HOT byte ends the start stays there until the flag clears (notes/assumptions/44). -/
def Obligations.StatusBytesActByState : Prop :=
  ∀ s : State,
    (s.line.holding = none → exec .statusByte s = .next s) ∧
    ∀ b, s.line.holding = some b →
      let h : HeldStatus := ⟨b.getLsbD 0, b.getLsbD 1, b.getLsbD 2, b.getLsbD 3, b.getLsbD 4⟩
      let l := { s.line with holding := none, held := h }
      let s0 := { s with line := l }
      let s1 := if ({ h with bufferFull := s.line.held.bufferFull } : HeldStatus) = s.line.held then s0
        else s0.bothPorts (flagsRaised 0x10)
      let bad := h.paperOut = true ∨ h.coverOpen = true
      let reason := if h.paperOut then StallReason.paperOut else .coverOpen
      let sending := { l with state := LineState.sending, reason := none }
      (s.line.leaving = true ∨ s.line.state = .idle ∨ s.line.state = .suspended ∨ s.line.state = .brk →
        exec .statusByte s = .next s1) ∧
      (s.line.leaving = false → s.line.state = .sending ∨ s.line.state = .inquiring → bad →
        exec .statusByte s = .next (stalled reason s1)) ∧
      (s.line.leaving = false → s.line.state = .sending → ¬ bad → exec .statusByte s = .next { s1 with line := byteMoved l }) ∧
      (s.line.leaving = false → s.line.state = .inquiring → ¬ bad →
        let s2 := { s1 with line := { sending with inquiry := none } }
        ∃ t, exec .statusByte s = .next t ∧
          if s.comp.queue.head?.map Job.state = some .printing then printingBegins true s2 t
          else if s.comp.queue = [] then t = s2 else printingBegins false (headIn .printing s2) t) ∧
      (s.line.leaving = false → s.line.state = .stalled → bad ∨ s.line.ready = false → exec .statusByte s = .next s1) ∧
      (s.line.leaving = false → s.line.state = .stalled → ¬ bad → s.line.ready = true → ∃ t, exec .statusByte s = .next t ∧
        printingBegins false (headIn .printing { s1 with line := { sending with fifo := [], stall := none, poll := none } }) t)

/-! ### What every step keeps -/

/-- The values of the part stay in their ranges: the settings, the receiver's figures, the samples, the window's sums of squares.
-/
def Obligations.EveryStepKeepsTheRanges : Prop :=
  ∀ s t : State, step s = .next t →
    (SettingsSound (settingsOf s) → SettingsSound (settingsOf t)) ∧
    (LinkSound s → LinkSound t) ∧
    (SamplesSound s → SamplesSound t) ∧
    (WindowSound s.hcu → WindowSound t.hcu) ∧
    (RingSound s.cap → RingSound t.cap)

/-- The journal's bookkeeping holds through every step, and with it each port's cursor stays between the tail and the head. -/
def Obligations.EveryStepKeepsTheJournal : Prop :=
  ∀ s t : State, step s = .next t →
    (JournalSound s.journal → JournalSound t.journal) ∧
    (JournalSound s.journal → CursorSound s → CursorSound t) ∧
    (StopSound s → TimeSound s → TimeSound t)

/-- The survey's and the stop sequence's record, the print queue and the holds stay sound together. -/
def Obligations.EveryStepKeepsSurveyAndQueue : Prop :=
  ∀ s t : State, step s = .next t →
    (StopSound s → IdleEmpty s → StopSound t ∧ IdleEmpty t) ∧
    (IntervalIdle s → IntervalIdle t) ∧
    (QueueSound s.comp → QueueSound t.comp) ∧
    (JournalSound s.journal → IdleEmpty s → QueueSound s.comp → HoldsSound s → HoldsSound t)

/-- Intervals account for every window once, notes keep their figures, and the ports, the supply, presence and the printer line
keep theirs. -/
def Obligations.EveryStepKeepsTheUnits : Prop :=
  ∀ s t : State, step s = .next t →
    (intervalSound s.agg = true → intervalSound t.agg = true) ∧
    (AccumulatorsSound s.agg → AccumulatorsSound t.agg) ∧
    (PortSound s.portA → PortSound s.portB → PortSound t.portA ∧ PortSound t.portB) ∧
    (SupplySound s.kit → SupplySound t.kit) ∧ (PresenceSound s.kit → PresenceSound t.kit) ∧
    (LineSound s.line → LineSound t.line) ∧
    (noteSound s.noteA = true → noteSound s.noteB = true → noteSound t.noteA = true ∧ noteSound t.noteB = true)

/-- Every invariant holds right after reset. -/
def Obligations.ResetIsSound : Prop :=
  let s := State.reset
  SettingsSound (settingsOf s) ∧ LinkSound s ∧ SamplesSound s ∧ WindowSound s.hcu ∧ RingSound s.cap ∧
  JournalSound s.journal ∧ CursorSound s ∧ TimeSound s ∧ StopSound s ∧ IdleEmpty s ∧ IntervalIdle s ∧ QueueSound s.comp ∧ HoldsSound s ∧
  intervalSound s.agg = true ∧ AccumulatorsSound s.agg ∧ PortSound s.portA ∧ PortSound s.portB ∧ SupplySound s.kit ∧
  PresenceSound s.kit ∧ LineSound s.line ∧ noteSound s.noteA = true ∧ noteSound s.noteB = true
end

