-- ==== Sys2Proof/Laws/State.lean ====
section
/-! SUPPORT. One lemma per field of State for each of its updates, each true by rfl (the updates of one block, of one port, of both
ports, of a note context, of a detector context), and the reads of ports, note contexts and detector contexts. -/

namespace Sys2Proof.Machine

open Sys2Proof

/-! ### setSurvey -/

@[simp] theorem State.setSurvey_survey (s : State) (u : SurveyUnit) : (s.setSurvey u).survey = u := rfl
@[simp] theorem State.setSurvey_journal (s : State) (u : SurveyUnit) : (s.setSurvey u).journal = s.journal := rfl
@[simp] theorem State.setSurvey_link (s : State) (u : SurveyUnit) : (s.setSurvey u).link = s.link := rfl
@[simp] theorem State.setSurvey_gen (s : State) (u : SurveyUnit) : (s.setSurvey u).gen = s.gen := rfl
@[simp] theorem State.setSurvey_hcu (s : State) (u : SurveyUnit) : (s.setSurvey u).hcu = s.hcu := rfl
@[simp] theorem State.setSurvey_det (s : State) (u : SurveyUnit) : (s.setSurvey u).det = s.det := rfl
@[simp] theorem State.setSurvey_cap (s : State) (u : SurveyUnit) : (s.setSurvey u).cap = s.cap := rfl
@[simp] theorem State.setSurvey_agg (s : State) (u : SurveyUnit) : (s.setSurvey u).agg = s.agg := rfl
@[simp] theorem State.setSurvey_kit (s : State) (u : SurveyUnit) : (s.setSurvey u).kit = s.kit := rfl
@[simp] theorem State.setSurvey_noteA (s : State) (u : SurveyUnit) : (s.setSurvey u).noteA = s.noteA := rfl
@[simp] theorem State.setSurvey_noteB (s : State) (u : SurveyUnit) : (s.setSurvey u).noteB = s.noteB := rfl
@[simp] theorem State.setSurvey_comp (s : State) (u : SurveyUnit) : (s.setSurvey u).comp = s.comp := rfl
@[simp] theorem State.setSurvey_line (s : State) (u : SurveyUnit) : (s.setSurvey u).line = s.line := rfl
@[simp] theorem State.setSurvey_portA (s : State) (u : SurveyUnit) : (s.setSurvey u).portA = s.portA := rfl
@[simp] theorem State.setSurvey_portB (s : State) (u : SurveyUnit) : (s.setSurvey u).portB = s.portB := rfl
@[simp] theorem State.setSurvey_flight (s : State) (u : SurveyUnit) : (s.setSurvey u).flight = s.flight := rfl
@[simp] theorem State.setSurvey_free (s : State) (u : SurveyUnit) : (s.setSurvey u).free = s.free := rfl
@[simp] theorem State.setSurvey_pending (s : State) (u : SurveyUnit) : (s.setSurvey u).pending = s.pending := rfl
@[simp] theorem State.setSurvey_port (s : State) (u : SurveyUnit) (p : Port) : (s.setSurvey u).port p = s.port p := by cases p <;> rfl
@[simp] theorem State.setSurvey_note (s : State) (u : SurveyUnit) (p : Port) : (s.setSurvey u).note p = s.note p := by cases p <;> rfl

/-! ### setJournal -/

@[simp] theorem State.setJournal_survey (s : State) (u : JournalUnit) : (s.setJournal u).survey = s.survey := rfl
@[simp] theorem State.setJournal_journal (s : State) (u : JournalUnit) : (s.setJournal u).journal = u := rfl
@[simp] theorem State.setJournal_link (s : State) (u : JournalUnit) : (s.setJournal u).link = s.link := rfl
@[simp] theorem State.setJournal_gen (s : State) (u : JournalUnit) : (s.setJournal u).gen = s.gen := rfl
@[simp] theorem State.setJournal_hcu (s : State) (u : JournalUnit) : (s.setJournal u).hcu = s.hcu := rfl
@[simp] theorem State.setJournal_det (s : State) (u : JournalUnit) : (s.setJournal u).det = s.det := rfl
@[simp] theorem State.setJournal_cap (s : State) (u : JournalUnit) : (s.setJournal u).cap = s.cap := rfl
@[simp] theorem State.setJournal_agg (s : State) (u : JournalUnit) : (s.setJournal u).agg = s.agg := rfl
@[simp] theorem State.setJournal_kit (s : State) (u : JournalUnit) : (s.setJournal u).kit = s.kit := rfl
@[simp] theorem State.setJournal_noteA (s : State) (u : JournalUnit) : (s.setJournal u).noteA = s.noteA := rfl
@[simp] theorem State.setJournal_noteB (s : State) (u : JournalUnit) : (s.setJournal u).noteB = s.noteB := rfl
@[simp] theorem State.setJournal_comp (s : State) (u : JournalUnit) : (s.setJournal u).comp = s.comp := rfl
@[simp] theorem State.setJournal_line (s : State) (u : JournalUnit) : (s.setJournal u).line = s.line := rfl
@[simp] theorem State.setJournal_portA (s : State) (u : JournalUnit) : (s.setJournal u).portA = s.portA := rfl
@[simp] theorem State.setJournal_portB (s : State) (u : JournalUnit) : (s.setJournal u).portB = s.portB := rfl
@[simp] theorem State.setJournal_flight (s : State) (u : JournalUnit) : (s.setJournal u).flight = s.flight := rfl
@[simp] theorem State.setJournal_free (s : State) (u : JournalUnit) : (s.setJournal u).free = s.free := rfl
@[simp] theorem State.setJournal_pending (s : State) (u : JournalUnit) : (s.setJournal u).pending = s.pending := rfl
@[simp] theorem State.setJournal_port (s : State) (u : JournalUnit) (p : Port) : (s.setJournal u).port p = s.port p := by cases p <;> rfl
@[simp] theorem State.setJournal_note (s : State) (u : JournalUnit) (p : Port) : (s.setJournal u).note p = s.note p := by cases p <;> rfl

/-! ### setLink -/

@[simp] theorem State.setLink_survey (s : State) (u : LinkUnit) : (s.setLink u).survey = s.survey := rfl
@[simp] theorem State.setLink_journal (s : State) (u : LinkUnit) : (s.setLink u).journal = s.journal := rfl
@[simp] theorem State.setLink_link (s : State) (u : LinkUnit) : (s.setLink u).link = u := rfl
@[simp] theorem State.setLink_gen (s : State) (u : LinkUnit) : (s.setLink u).gen = s.gen := rfl
@[simp] theorem State.setLink_hcu (s : State) (u : LinkUnit) : (s.setLink u).hcu = s.hcu := rfl
@[simp] theorem State.setLink_det (s : State) (u : LinkUnit) : (s.setLink u).det = s.det := rfl
@[simp] theorem State.setLink_cap (s : State) (u : LinkUnit) : (s.setLink u).cap = s.cap := rfl
@[simp] theorem State.setLink_agg (s : State) (u : LinkUnit) : (s.setLink u).agg = s.agg := rfl
@[simp] theorem State.setLink_kit (s : State) (u : LinkUnit) : (s.setLink u).kit = s.kit := rfl
@[simp] theorem State.setLink_noteA (s : State) (u : LinkUnit) : (s.setLink u).noteA = s.noteA := rfl
@[simp] theorem State.setLink_noteB (s : State) (u : LinkUnit) : (s.setLink u).noteB = s.noteB := rfl
@[simp] theorem State.setLink_comp (s : State) (u : LinkUnit) : (s.setLink u).comp = s.comp := rfl
@[simp] theorem State.setLink_line (s : State) (u : LinkUnit) : (s.setLink u).line = s.line := rfl
@[simp] theorem State.setLink_portA (s : State) (u : LinkUnit) : (s.setLink u).portA = s.portA := rfl
@[simp] theorem State.setLink_portB (s : State) (u : LinkUnit) : (s.setLink u).portB = s.portB := rfl
@[simp] theorem State.setLink_flight (s : State) (u : LinkUnit) : (s.setLink u).flight = s.flight := rfl
@[simp] theorem State.setLink_free (s : State) (u : LinkUnit) : (s.setLink u).free = s.free := rfl
@[simp] theorem State.setLink_pending (s : State) (u : LinkUnit) : (s.setLink u).pending = s.pending := rfl
@[simp] theorem State.setLink_port (s : State) (u : LinkUnit) (p : Port) : (s.setLink u).port p = s.port p := by cases p <;> rfl
@[simp] theorem State.setLink_note (s : State) (u : LinkUnit) (p : Port) : (s.setLink u).note p = s.note p := by cases p <;> rfl

/-! ### setGen -/

@[simp] theorem State.setGen_survey (s : State) (u : Generator) : (s.setGen u).survey = s.survey := rfl
@[simp] theorem State.setGen_journal (s : State) (u : Generator) : (s.setGen u).journal = s.journal := rfl
@[simp] theorem State.setGen_link (s : State) (u : Generator) : (s.setGen u).link = s.link := rfl
@[simp] theorem State.setGen_gen (s : State) (u : Generator) : (s.setGen u).gen = u := rfl
@[simp] theorem State.setGen_hcu (s : State) (u : Generator) : (s.setGen u).hcu = s.hcu := rfl
@[simp] theorem State.setGen_det (s : State) (u : Generator) : (s.setGen u).det = s.det := rfl
@[simp] theorem State.setGen_cap (s : State) (u : Generator) : (s.setGen u).cap = s.cap := rfl
@[simp] theorem State.setGen_agg (s : State) (u : Generator) : (s.setGen u).agg = s.agg := rfl
@[simp] theorem State.setGen_kit (s : State) (u : Generator) : (s.setGen u).kit = s.kit := rfl
@[simp] theorem State.setGen_noteA (s : State) (u : Generator) : (s.setGen u).noteA = s.noteA := rfl
@[simp] theorem State.setGen_noteB (s : State) (u : Generator) : (s.setGen u).noteB = s.noteB := rfl
@[simp] theorem State.setGen_comp (s : State) (u : Generator) : (s.setGen u).comp = s.comp := rfl
@[simp] theorem State.setGen_line (s : State) (u : Generator) : (s.setGen u).line = s.line := rfl
@[simp] theorem State.setGen_portA (s : State) (u : Generator) : (s.setGen u).portA = s.portA := rfl
@[simp] theorem State.setGen_portB (s : State) (u : Generator) : (s.setGen u).portB = s.portB := rfl
@[simp] theorem State.setGen_flight (s : State) (u : Generator) : (s.setGen u).flight = s.flight := rfl
@[simp] theorem State.setGen_free (s : State) (u : Generator) : (s.setGen u).free = s.free := rfl
@[simp] theorem State.setGen_pending (s : State) (u : Generator) : (s.setGen u).pending = s.pending := rfl
@[simp] theorem State.setGen_port (s : State) (u : Generator) (p : Port) : (s.setGen u).port p = s.port p := by cases p <;> rfl
@[simp] theorem State.setGen_note (s : State) (u : Generator) (p : Port) : (s.setGen u).note p = s.note p := by cases p <;> rfl

/-! ### setHcu -/

@[simp] theorem State.setHcu_survey (s : State) (u : HalfCycleUnit) : (s.setHcu u).survey = s.survey := rfl
@[simp] theorem State.setHcu_journal (s : State) (u : HalfCycleUnit) : (s.setHcu u).journal = s.journal := rfl
@[simp] theorem State.setHcu_link (s : State) (u : HalfCycleUnit) : (s.setHcu u).link = s.link := rfl
@[simp] theorem State.setHcu_gen (s : State) (u : HalfCycleUnit) : (s.setHcu u).gen = s.gen := rfl
@[simp] theorem State.setHcu_hcu (s : State) (u : HalfCycleUnit) : (s.setHcu u).hcu = u := rfl
@[simp] theorem State.setHcu_det (s : State) (u : HalfCycleUnit) : (s.setHcu u).det = s.det := rfl
@[simp] theorem State.setHcu_cap (s : State) (u : HalfCycleUnit) : (s.setHcu u).cap = s.cap := rfl
@[simp] theorem State.setHcu_agg (s : State) (u : HalfCycleUnit) : (s.setHcu u).agg = s.agg := rfl
@[simp] theorem State.setHcu_kit (s : State) (u : HalfCycleUnit) : (s.setHcu u).kit = s.kit := rfl
@[simp] theorem State.setHcu_noteA (s : State) (u : HalfCycleUnit) : (s.setHcu u).noteA = s.noteA := rfl
@[simp] theorem State.setHcu_noteB (s : State) (u : HalfCycleUnit) : (s.setHcu u).noteB = s.noteB := rfl
@[simp] theorem State.setHcu_comp (s : State) (u : HalfCycleUnit) : (s.setHcu u).comp = s.comp := rfl
@[simp] theorem State.setHcu_line (s : State) (u : HalfCycleUnit) : (s.setHcu u).line = s.line := rfl
@[simp] theorem State.setHcu_portA (s : State) (u : HalfCycleUnit) : (s.setHcu u).portA = s.portA := rfl
@[simp] theorem State.setHcu_portB (s : State) (u : HalfCycleUnit) : (s.setHcu u).portB = s.portB := rfl
@[simp] theorem State.setHcu_flight (s : State) (u : HalfCycleUnit) : (s.setHcu u).flight = s.flight := rfl
@[simp] theorem State.setHcu_free (s : State) (u : HalfCycleUnit) : (s.setHcu u).free = s.free := rfl
@[simp] theorem State.setHcu_pending (s : State) (u : HalfCycleUnit) : (s.setHcu u).pending = s.pending := rfl
@[simp] theorem State.setHcu_port (s : State) (u : HalfCycleUnit) (p : Port) : (s.setHcu u).port p = s.port p := by cases p <;> rfl
@[simp] theorem State.setHcu_note (s : State) (u : HalfCycleUnit) (p : Port) : (s.setHcu u).note p = s.note p := by cases p <;> rfl

/-! ### setCap -/

@[simp] theorem State.setCap_survey (s : State) (u : CaptureUnit) : (s.setCap u).survey = s.survey := rfl
@[simp] theorem State.setCap_journal (s : State) (u : CaptureUnit) : (s.setCap u).journal = s.journal := rfl
@[simp] theorem State.setCap_link (s : State) (u : CaptureUnit) : (s.setCap u).link = s.link := rfl
@[simp] theorem State.setCap_gen (s : State) (u : CaptureUnit) : (s.setCap u).gen = s.gen := rfl
@[simp] theorem State.setCap_hcu (s : State) (u : CaptureUnit) : (s.setCap u).hcu = s.hcu := rfl
@[simp] theorem State.setCap_det (s : State) (u : CaptureUnit) : (s.setCap u).det = s.det := rfl
@[simp] theorem State.setCap_cap (s : State) (u : CaptureUnit) : (s.setCap u).cap = u := rfl
@[simp] theorem State.setCap_agg (s : State) (u : CaptureUnit) : (s.setCap u).agg = s.agg := rfl
@[simp] theorem State.setCap_kit (s : State) (u : CaptureUnit) : (s.setCap u).kit = s.kit := rfl
@[simp] theorem State.setCap_noteA (s : State) (u : CaptureUnit) : (s.setCap u).noteA = s.noteA := rfl
@[simp] theorem State.setCap_noteB (s : State) (u : CaptureUnit) : (s.setCap u).noteB = s.noteB := rfl
@[simp] theorem State.setCap_comp (s : State) (u : CaptureUnit) : (s.setCap u).comp = s.comp := rfl
@[simp] theorem State.setCap_line (s : State) (u : CaptureUnit) : (s.setCap u).line = s.line := rfl
@[simp] theorem State.setCap_portA (s : State) (u : CaptureUnit) : (s.setCap u).portA = s.portA := rfl
@[simp] theorem State.setCap_portB (s : State) (u : CaptureUnit) : (s.setCap u).portB = s.portB := rfl
@[simp] theorem State.setCap_flight (s : State) (u : CaptureUnit) : (s.setCap u).flight = s.flight := rfl
@[simp] theorem State.setCap_free (s : State) (u : CaptureUnit) : (s.setCap u).free = s.free := rfl
@[simp] theorem State.setCap_pending (s : State) (u : CaptureUnit) : (s.setCap u).pending = s.pending := rfl
@[simp] theorem State.setCap_port (s : State) (u : CaptureUnit) (p : Port) : (s.setCap u).port p = s.port p := by cases p <;> rfl
@[simp] theorem State.setCap_note (s : State) (u : CaptureUnit) (p : Port) : (s.setCap u).note p = s.note p := by cases p <;> rfl

/-! ### setAgg -/

@[simp] theorem State.setAgg_survey (s : State) (u : AggregatorUnit) : (s.setAgg u).survey = s.survey := rfl
@[simp] theorem State.setAgg_journal (s : State) (u : AggregatorUnit) : (s.setAgg u).journal = s.journal := rfl
@[simp] theorem State.setAgg_link (s : State) (u : AggregatorUnit) : (s.setAgg u).link = s.link := rfl
@[simp] theorem State.setAgg_gen (s : State) (u : AggregatorUnit) : (s.setAgg u).gen = s.gen := rfl
@[simp] theorem State.setAgg_hcu (s : State) (u : AggregatorUnit) : (s.setAgg u).hcu = s.hcu := rfl
@[simp] theorem State.setAgg_det (s : State) (u : AggregatorUnit) : (s.setAgg u).det = s.det := rfl
@[simp] theorem State.setAgg_cap (s : State) (u : AggregatorUnit) : (s.setAgg u).cap = s.cap := rfl
@[simp] theorem State.setAgg_agg (s : State) (u : AggregatorUnit) : (s.setAgg u).agg = u := rfl
@[simp] theorem State.setAgg_kit (s : State) (u : AggregatorUnit) : (s.setAgg u).kit = s.kit := rfl
@[simp] theorem State.setAgg_noteA (s : State) (u : AggregatorUnit) : (s.setAgg u).noteA = s.noteA := rfl
@[simp] theorem State.setAgg_noteB (s : State) (u : AggregatorUnit) : (s.setAgg u).noteB = s.noteB := rfl
@[simp] theorem State.setAgg_comp (s : State) (u : AggregatorUnit) : (s.setAgg u).comp = s.comp := rfl
@[simp] theorem State.setAgg_line (s : State) (u : AggregatorUnit) : (s.setAgg u).line = s.line := rfl
@[simp] theorem State.setAgg_portA (s : State) (u : AggregatorUnit) : (s.setAgg u).portA = s.portA := rfl
@[simp] theorem State.setAgg_portB (s : State) (u : AggregatorUnit) : (s.setAgg u).portB = s.portB := rfl
@[simp] theorem State.setAgg_flight (s : State) (u : AggregatorUnit) : (s.setAgg u).flight = s.flight := rfl
@[simp] theorem State.setAgg_free (s : State) (u : AggregatorUnit) : (s.setAgg u).free = s.free := rfl
@[simp] theorem State.setAgg_pending (s : State) (u : AggregatorUnit) : (s.setAgg u).pending = s.pending := rfl
@[simp] theorem State.setAgg_port (s : State) (u : AggregatorUnit) (p : Port) : (s.setAgg u).port p = s.port p := by cases p <;> rfl
@[simp] theorem State.setAgg_note (s : State) (u : AggregatorUnit) (p : Port) : (s.setAgg u).note p = s.note p := by cases p <;> rfl

/-! ### setKit -/

@[simp] theorem State.setKit_survey (s : State) (u : KitUnit) : (s.setKit u).survey = s.survey := rfl
@[simp] theorem State.setKit_journal (s : State) (u : KitUnit) : (s.setKit u).journal = s.journal := rfl
@[simp] theorem State.setKit_link (s : State) (u : KitUnit) : (s.setKit u).link = s.link := rfl
@[simp] theorem State.setKit_gen (s : State) (u : KitUnit) : (s.setKit u).gen = s.gen := rfl
@[simp] theorem State.setKit_hcu (s : State) (u : KitUnit) : (s.setKit u).hcu = s.hcu := rfl
@[simp] theorem State.setKit_det (s : State) (u : KitUnit) : (s.setKit u).det = s.det := rfl
@[simp] theorem State.setKit_cap (s : State) (u : KitUnit) : (s.setKit u).cap = s.cap := rfl
@[simp] theorem State.setKit_agg (s : State) (u : KitUnit) : (s.setKit u).agg = s.agg := rfl
@[simp] theorem State.setKit_kit (s : State) (u : KitUnit) : (s.setKit u).kit = u := rfl
@[simp] theorem State.setKit_noteA (s : State) (u : KitUnit) : (s.setKit u).noteA = s.noteA := rfl
@[simp] theorem State.setKit_noteB (s : State) (u : KitUnit) : (s.setKit u).noteB = s.noteB := rfl
@[simp] theorem State.setKit_comp (s : State) (u : KitUnit) : (s.setKit u).comp = s.comp := rfl
@[simp] theorem State.setKit_line (s : State) (u : KitUnit) : (s.setKit u).line = s.line := rfl
@[simp] theorem State.setKit_portA (s : State) (u : KitUnit) : (s.setKit u).portA = s.portA := rfl
@[simp] theorem State.setKit_portB (s : State) (u : KitUnit) : (s.setKit u).portB = s.portB := rfl
@[simp] theorem State.setKit_flight (s : State) (u : KitUnit) : (s.setKit u).flight = s.flight := rfl
@[simp] theorem State.setKit_free (s : State) (u : KitUnit) : (s.setKit u).free = s.free := rfl
@[simp] theorem State.setKit_pending (s : State) (u : KitUnit) : (s.setKit u).pending = s.pending := rfl
@[simp] theorem State.setKit_port (s : State) (u : KitUnit) (p : Port) : (s.setKit u).port p = s.port p := by cases p <;> rfl
@[simp] theorem State.setKit_note (s : State) (u : KitUnit) (p : Port) : (s.setKit u).note p = s.note p := by cases p <;> rfl

/-! ### setComp -/

@[simp] theorem State.setComp_survey (s : State) (u : ComposerUnit) : (s.setComp u).survey = s.survey := rfl
@[simp] theorem State.setComp_journal (s : State) (u : ComposerUnit) : (s.setComp u).journal = s.journal := rfl
@[simp] theorem State.setComp_link (s : State) (u : ComposerUnit) : (s.setComp u).link = s.link := rfl
@[simp] theorem State.setComp_gen (s : State) (u : ComposerUnit) : (s.setComp u).gen = s.gen := rfl
@[simp] theorem State.setComp_hcu (s : State) (u : ComposerUnit) : (s.setComp u).hcu = s.hcu := rfl
@[simp] theorem State.setComp_det (s : State) (u : ComposerUnit) : (s.setComp u).det = s.det := rfl
@[simp] theorem State.setComp_cap (s : State) (u : ComposerUnit) : (s.setComp u).cap = s.cap := rfl
@[simp] theorem State.setComp_agg (s : State) (u : ComposerUnit) : (s.setComp u).agg = s.agg := rfl
@[simp] theorem State.setComp_kit (s : State) (u : ComposerUnit) : (s.setComp u).kit = s.kit := rfl
@[simp] theorem State.setComp_noteA (s : State) (u : ComposerUnit) : (s.setComp u).noteA = s.noteA := rfl
@[simp] theorem State.setComp_noteB (s : State) (u : ComposerUnit) : (s.setComp u).noteB = s.noteB := rfl
@[simp] theorem State.setComp_comp (s : State) (u : ComposerUnit) : (s.setComp u).comp = u := rfl
@[simp] theorem State.setComp_line (s : State) (u : ComposerUnit) : (s.setComp u).line = s.line := rfl
@[simp] theorem State.setComp_portA (s : State) (u : ComposerUnit) : (s.setComp u).portA = s.portA := rfl
@[simp] theorem State.setComp_portB (s : State) (u : ComposerUnit) : (s.setComp u).portB = s.portB := rfl
@[simp] theorem State.setComp_flight (s : State) (u : ComposerUnit) : (s.setComp u).flight = s.flight := rfl
@[simp] theorem State.setComp_free (s : State) (u : ComposerUnit) : (s.setComp u).free = s.free := rfl
@[simp] theorem State.setComp_pending (s : State) (u : ComposerUnit) : (s.setComp u).pending = s.pending := rfl
@[simp] theorem State.setComp_port (s : State) (u : ComposerUnit) (p : Port) : (s.setComp u).port p = s.port p := by cases p <;> rfl
@[simp] theorem State.setComp_note (s : State) (u : ComposerUnit) (p : Port) : (s.setComp u).note p = s.note p := by cases p <;> rfl

/-! ### setLine -/

@[simp] theorem State.setLine_survey (s : State) (u : LineUnit) : (s.setLine u).survey = s.survey := rfl
@[simp] theorem State.setLine_journal (s : State) (u : LineUnit) : (s.setLine u).journal = s.journal := rfl
@[simp] theorem State.setLine_link (s : State) (u : LineUnit) : (s.setLine u).link = s.link := rfl
@[simp] theorem State.setLine_gen (s : State) (u : LineUnit) : (s.setLine u).gen = s.gen := rfl
@[simp] theorem State.setLine_hcu (s : State) (u : LineUnit) : (s.setLine u).hcu = s.hcu := rfl
@[simp] theorem State.setLine_det (s : State) (u : LineUnit) : (s.setLine u).det = s.det := rfl
@[simp] theorem State.setLine_cap (s : State) (u : LineUnit) : (s.setLine u).cap = s.cap := rfl
@[simp] theorem State.setLine_agg (s : State) (u : LineUnit) : (s.setLine u).agg = s.agg := rfl
@[simp] theorem State.setLine_kit (s : State) (u : LineUnit) : (s.setLine u).kit = s.kit := rfl
@[simp] theorem State.setLine_noteA (s : State) (u : LineUnit) : (s.setLine u).noteA = s.noteA := rfl
@[simp] theorem State.setLine_noteB (s : State) (u : LineUnit) : (s.setLine u).noteB = s.noteB := rfl
@[simp] theorem State.setLine_comp (s : State) (u : LineUnit) : (s.setLine u).comp = s.comp := rfl
@[simp] theorem State.setLine_line (s : State) (u : LineUnit) : (s.setLine u).line = u := rfl
@[simp] theorem State.setLine_portA (s : State) (u : LineUnit) : (s.setLine u).portA = s.portA := rfl
@[simp] theorem State.setLine_portB (s : State) (u : LineUnit) : (s.setLine u).portB = s.portB := rfl
@[simp] theorem State.setLine_flight (s : State) (u : LineUnit) : (s.setLine u).flight = s.flight := rfl
@[simp] theorem State.setLine_free (s : State) (u : LineUnit) : (s.setLine u).free = s.free := rfl
@[simp] theorem State.setLine_pending (s : State) (u : LineUnit) : (s.setLine u).pending = s.pending := rfl
@[simp] theorem State.setLine_port (s : State) (u : LineUnit) (p : Port) : (s.setLine u).port p = s.port p := by cases p <;> rfl
@[simp] theorem State.setLine_note (s : State) (u : LineUnit) (p : Port) : (s.setLine u).note p = s.note p := by cases p <;> rfl

/-! ### setPort, modPort, bothPorts -/

@[simp] theorem State.setPort_survey (s : State) (p : Port) (u : PortUnit) : (s.setPort p u).survey = s.survey := by cases p <;> rfl
@[simp] theorem State.setPort_journal (s : State) (p : Port) (u : PortUnit) : (s.setPort p u).journal = s.journal := by cases p <;> rfl
@[simp] theorem State.setPort_link (s : State) (p : Port) (u : PortUnit) : (s.setPort p u).link = s.link := by cases p <;> rfl
@[simp] theorem State.setPort_gen (s : State) (p : Port) (u : PortUnit) : (s.setPort p u).gen = s.gen := by cases p <;> rfl
@[simp] theorem State.setPort_hcu (s : State) (p : Port) (u : PortUnit) : (s.setPort p u).hcu = s.hcu := by cases p <;> rfl
@[simp] theorem State.setPort_det (s : State) (p : Port) (u : PortUnit) : (s.setPort p u).det = s.det := by cases p <;> rfl
@[simp] theorem State.setPort_cap (s : State) (p : Port) (u : PortUnit) : (s.setPort p u).cap = s.cap := by cases p <;> rfl
@[simp] theorem State.setPort_agg (s : State) (p : Port) (u : PortUnit) : (s.setPort p u).agg = s.agg := by cases p <;> rfl
@[simp] theorem State.setPort_kit (s : State) (p : Port) (u : PortUnit) : (s.setPort p u).kit = s.kit := by cases p <;> rfl
@[simp] theorem State.setPort_noteA (s : State) (p : Port) (u : PortUnit) : (s.setPort p u).noteA = s.noteA := by cases p <;> rfl
@[simp] theorem State.setPort_noteB (s : State) (p : Port) (u : PortUnit) : (s.setPort p u).noteB = s.noteB := by cases p <;> rfl
@[simp] theorem State.setPort_comp (s : State) (p : Port) (u : PortUnit) : (s.setPort p u).comp = s.comp := by cases p <;> rfl
@[simp] theorem State.setPort_line (s : State) (p : Port) (u : PortUnit) : (s.setPort p u).line = s.line := by cases p <;> rfl
@[simp] theorem State.setPort_flight (s : State) (p : Port) (u : PortUnit) : (s.setPort p u).flight = s.flight := by cases p <;> rfl
@[simp] theorem State.setPort_free (s : State) (p : Port) (u : PortUnit) : (s.setPort p u).free = s.free := by cases p <;> rfl
@[simp] theorem State.setPort_pending (s : State) (p : Port) (u : PortUnit) : (s.setPort p u).pending = s.pending := by cases p <;> rfl
@[simp] theorem State.modPort_survey (s : State) (p : Port) (f : PortUnit → PortUnit) : (s.modPort p f).survey = s.survey := by cases p <;> rfl
@[simp] theorem State.modPort_journal (s : State) (p : Port) (f : PortUnit → PortUnit) : (s.modPort p f).journal = s.journal := by cases p <;> rfl
@[simp] theorem State.modPort_link (s : State) (p : Port) (f : PortUnit → PortUnit) : (s.modPort p f).link = s.link := by cases p <;> rfl
@[simp] theorem State.modPort_gen (s : State) (p : Port) (f : PortUnit → PortUnit) : (s.modPort p f).gen = s.gen := by cases p <;> rfl
@[simp] theorem State.modPort_hcu (s : State) (p : Port) (f : PortUnit → PortUnit) : (s.modPort p f).hcu = s.hcu := by cases p <;> rfl
@[simp] theorem State.modPort_det (s : State) (p : Port) (f : PortUnit → PortUnit) : (s.modPort p f).det = s.det := by cases p <;> rfl
@[simp] theorem State.modPort_cap (s : State) (p : Port) (f : PortUnit → PortUnit) : (s.modPort p f).cap = s.cap := by cases p <;> rfl
@[simp] theorem State.modPort_agg (s : State) (p : Port) (f : PortUnit → PortUnit) : (s.modPort p f).agg = s.agg := by cases p <;> rfl
@[simp] theorem State.modPort_kit (s : State) (p : Port) (f : PortUnit → PortUnit) : (s.modPort p f).kit = s.kit := by cases p <;> rfl
@[simp] theorem State.modPort_noteA (s : State) (p : Port) (f : PortUnit → PortUnit) : (s.modPort p f).noteA = s.noteA := by cases p <;> rfl
@[simp] theorem State.modPort_noteB (s : State) (p : Port) (f : PortUnit → PortUnit) : (s.modPort p f).noteB = s.noteB := by cases p <;> rfl
@[simp] theorem State.modPort_comp (s : State) (p : Port) (f : PortUnit → PortUnit) : (s.modPort p f).comp = s.comp := by cases p <;> rfl
@[simp] theorem State.modPort_line (s : State) (p : Port) (f : PortUnit → PortUnit) : (s.modPort p f).line = s.line := by cases p <;> rfl
@[simp] theorem State.modPort_flight (s : State) (p : Port) (f : PortUnit → PortUnit) : (s.modPort p f).flight = s.flight := by cases p <;> rfl
@[simp] theorem State.modPort_free (s : State) (p : Port) (f : PortUnit → PortUnit) : (s.modPort p f).free = s.free := by cases p <;> rfl
@[simp] theorem State.modPort_pending (s : State) (p : Port) (f : PortUnit → PortUnit) : (s.modPort p f).pending = s.pending := by cases p <;> rfl
@[simp] theorem State.bothPorts_survey (s : State) (f : PortUnit → PortUnit) : (s.bothPorts f).survey = s.survey := rfl
@[simp] theorem State.bothPorts_journal (s : State) (f : PortUnit → PortUnit) : (s.bothPorts f).journal = s.journal := rfl
@[simp] theorem State.bothPorts_link (s : State) (f : PortUnit → PortUnit) : (s.bothPorts f).link = s.link := rfl
@[simp] theorem State.bothPorts_gen (s : State) (f : PortUnit → PortUnit) : (s.bothPorts f).gen = s.gen := rfl
@[simp] theorem State.bothPorts_hcu (s : State) (f : PortUnit → PortUnit) : (s.bothPorts f).hcu = s.hcu := rfl
@[simp] theorem State.bothPorts_det (s : State) (f : PortUnit → PortUnit) : (s.bothPorts f).det = s.det := rfl
@[simp] theorem State.bothPorts_cap (s : State) (f : PortUnit → PortUnit) : (s.bothPorts f).cap = s.cap := rfl
@[simp] theorem State.bothPorts_agg (s : State) (f : PortUnit → PortUnit) : (s.bothPorts f).agg = s.agg := rfl
@[simp] theorem State.bothPorts_kit (s : State) (f : PortUnit → PortUnit) : (s.bothPorts f).kit = s.kit := rfl
@[simp] theorem State.bothPorts_noteA (s : State) (f : PortUnit → PortUnit) : (s.bothPorts f).noteA = s.noteA := rfl
@[simp] theorem State.bothPorts_noteB (s : State) (f : PortUnit → PortUnit) : (s.bothPorts f).noteB = s.noteB := rfl
@[simp] theorem State.bothPorts_comp (s : State) (f : PortUnit → PortUnit) : (s.bothPorts f).comp = s.comp := rfl
@[simp] theorem State.bothPorts_line (s : State) (f : PortUnit → PortUnit) : (s.bothPorts f).line = s.line := rfl
@[simp] theorem State.bothPorts_portA (s : State) (f : PortUnit → PortUnit) : (s.bothPorts f).portA = f s.portA := rfl
@[simp] theorem State.bothPorts_portB (s : State) (f : PortUnit → PortUnit) : (s.bothPorts f).portB = f s.portB := rfl
@[simp] theorem State.bothPorts_flight (s : State) (f : PortUnit → PortUnit) : (s.bothPorts f).flight = s.flight := rfl
@[simp] theorem State.bothPorts_free (s : State) (f : PortUnit → PortUnit) : (s.bothPorts f).free = s.free := rfl
@[simp] theorem State.bothPorts_pending (s : State) (f : PortUnit → PortUnit) : (s.bothPorts f).pending = s.pending := rfl

@[simp] theorem State.setPort_port (s : State) (p : Port) (u : PortUnit) : (s.setPort p u).port p = u := by cases p <;> rfl
@[simp] theorem State.modPort_port (s : State) (p : Port) (f : PortUnit → PortUnit) : (s.modPort p f).port p = f (s.port p) := by
  cases p <;> rfl
@[simp] theorem State.bothPorts_port (s : State) (f : PortUnit → PortUnit) (p : Port) :
    (s.bothPorts f).port p = f (s.port p) := by cases p <;> rfl

/-- A change at one port leaves the other port alone. -/
theorem State.modPort_port_ne (s : State) (p q : Port) (f : PortUnit → PortUnit) (h : q ≠ p) :
    (s.modPort p f).port q = s.port q := by cases p <;> cases q <;> first | rfl | exact absurd rfl h

/-- Two changes at one port are one. -/
theorem State.modPort_modPort (s : State) (p : Port) (f g : PortUnit → PortUnit) :
    (s.modPort p f).modPort p g = s.modPort p (g ∘ f) := by cases p <;> rfl

/-! ### setNote -/

@[simp] theorem State.setNote_survey (s : State) (p : Port) (c : NoteCtx) : (s.setNote p c).survey = s.survey := by cases p <;> rfl
@[simp] theorem State.setNote_journal (s : State) (p : Port) (c : NoteCtx) : (s.setNote p c).journal = s.journal := by cases p <;> rfl
@[simp] theorem State.setNote_link (s : State) (p : Port) (c : NoteCtx) : (s.setNote p c).link = s.link := by cases p <;> rfl
@[simp] theorem State.setNote_gen (s : State) (p : Port) (c : NoteCtx) : (s.setNote p c).gen = s.gen := by cases p <;> rfl
@[simp] theorem State.setNote_hcu (s : State) (p : Port) (c : NoteCtx) : (s.setNote p c).hcu = s.hcu := by cases p <;> rfl
@[simp] theorem State.setNote_det (s : State) (p : Port) (c : NoteCtx) : (s.setNote p c).det = s.det := by cases p <;> rfl
@[simp] theorem State.setNote_cap (s : State) (p : Port) (c : NoteCtx) : (s.setNote p c).cap = s.cap := by cases p <;> rfl
@[simp] theorem State.setNote_agg (s : State) (p : Port) (c : NoteCtx) : (s.setNote p c).agg = s.agg := by cases p <;> rfl
@[simp] theorem State.setNote_kit (s : State) (p : Port) (c : NoteCtx) : (s.setNote p c).kit = s.kit := by cases p <;> rfl
@[simp] theorem State.setNote_comp (s : State) (p : Port) (c : NoteCtx) : (s.setNote p c).comp = s.comp := by cases p <;> rfl
@[simp] theorem State.setNote_line (s : State) (p : Port) (c : NoteCtx) : (s.setNote p c).line = s.line := by cases p <;> rfl
@[simp] theorem State.setNote_portA (s : State) (p : Port) (c : NoteCtx) : (s.setNote p c).portA = s.portA := by cases p <;> rfl
@[simp] theorem State.setNote_portB (s : State) (p : Port) (c : NoteCtx) : (s.setNote p c).portB = s.portB := by cases p <;> rfl
@[simp] theorem State.setNote_flight (s : State) (p : Port) (c : NoteCtx) : (s.setNote p c).flight = s.flight := by cases p <;> rfl
@[simp] theorem State.setNote_free (s : State) (p : Port) (c : NoteCtx) : (s.setNote p c).free = s.free := by cases p <;> rfl
@[simp] theorem State.setNote_pending (s : State) (p : Port) (c : NoteCtx) : (s.setNote p c).pending = s.pending := by cases p <;> rfl
@[simp] theorem State.setNote_note (s : State) (p : Port) (c : NoteCtx) : (s.setNote p c).note p = c := by cases p <;> rfl
@[simp] theorem State.setNote_port (s : State) (p q : Port) (c : NoteCtx) : (s.setNote p c).port q = s.port q := by
  cases p <;> cases q <;> rfl

/-! ### setCtx -/

@[simp] theorem State.setCtx_survey (s : State) (x : DetCtx) (c : DetContext) : (s.setCtx x c).survey = s.survey := rfl
@[simp] theorem State.setCtx_journal (s : State) (x : DetCtx) (c : DetContext) : (s.setCtx x c).journal = s.journal := rfl
@[simp] theorem State.setCtx_link (s : State) (x : DetCtx) (c : DetContext) : (s.setCtx x c).link = s.link := rfl
@[simp] theorem State.setCtx_gen (s : State) (x : DetCtx) (c : DetContext) : (s.setCtx x c).gen = s.gen := rfl
@[simp] theorem State.setCtx_hcu (s : State) (x : DetCtx) (c : DetContext) : (s.setCtx x c).hcu = s.hcu := rfl
@[simp] theorem State.setCtx_cap (s : State) (x : DetCtx) (c : DetContext) : (s.setCtx x c).cap = s.cap := rfl
@[simp] theorem State.setCtx_agg (s : State) (x : DetCtx) (c : DetContext) : (s.setCtx x c).agg = s.agg := rfl
@[simp] theorem State.setCtx_kit (s : State) (x : DetCtx) (c : DetContext) : (s.setCtx x c).kit = s.kit := rfl
@[simp] theorem State.setCtx_noteA (s : State) (x : DetCtx) (c : DetContext) : (s.setCtx x c).noteA = s.noteA := rfl
@[simp] theorem State.setCtx_noteB (s : State) (x : DetCtx) (c : DetContext) : (s.setCtx x c).noteB = s.noteB := rfl
@[simp] theorem State.setCtx_comp (s : State) (x : DetCtx) (c : DetContext) : (s.setCtx x c).comp = s.comp := rfl
@[simp] theorem State.setCtx_line (s : State) (x : DetCtx) (c : DetContext) : (s.setCtx x c).line = s.line := rfl
@[simp] theorem State.setCtx_portA (s : State) (x : DetCtx) (c : DetContext) : (s.setCtx x c).portA = s.portA := rfl
@[simp] theorem State.setCtx_portB (s : State) (x : DetCtx) (c : DetContext) : (s.setCtx x c).portB = s.portB := rfl
@[simp] theorem State.setCtx_flight (s : State) (x : DetCtx) (c : DetContext) : (s.setCtx x c).flight = s.flight := rfl
@[simp] theorem State.setCtx_free (s : State) (x : DetCtx) (c : DetContext) : (s.setCtx x c).free = s.free := rfl
@[simp] theorem State.setCtx_pending (s : State) (x : DetCtx) (c : DetContext) : (s.setCtx x c).pending = s.pending := rfl
@[simp] theorem State.setCtx_ctx (s : State) (x : DetCtx) (c : DetContext) : (s.setCtx x c).ctx x = c := by cases x <;> rfl
@[simp] theorem State.setCtx_port (s : State) (x : DetCtx) (c : DetContext) (p : Port) : (s.setCtx x c).port p = s.port p := by
  cases p <;> rfl

end Sys2Proof.Machine
end

