-- ==== Sys2Proof/Laws/Requests.lean ====
section
/-! SUPPORT. One lemma for each shared operation over requests, select periods, raises and appends, in the words of the
statements: what it answers, said once. -/

namespace Sys2Proof.Machine

open Sys2Proof

/-! ### Taking and answering a request -/

theorem takeRequest_of_waits {p : Port} {k : RequestKind} {body : List Word} {s : State} (f : List Word → State → State)
    (h : waits p k body s) : takeRequest p k f s = f body (withdrawn p s) := by
  simp only [waits] at h
  simp [takeRequest, withdrawn, h]

theorem takeRequest_of_other {p : Port} {k : RequestKind} {s : State} (f : List Word → State → State)
    (h : ∀ body, ¬ waits p k body s) : takeRequest p k f s = s := by
  unfold takeRequest
  split
  · rename_i r hr
    split
    · rename_i hk
      exact absurd (by rw [waits, hr, ← hk]) (h r.body)
    · rfl
  · rfl

theorem respond_withdrawn (p : Port) (k : RequestKind) (c : ResultCode) (body : List Word) (s : State) :
    respond p k c body (withdrawn p s) = answered p k c body s := by cases p <;> rfl

theorem respond_eq_replied (p : Port) (k : RequestKind) (c : ResultCode) (body : List Word) (s : State) :
    respond p k c body s = replied p k c body s := by cases p <;> rfl

@[simp] theorem withdrawn_survey (p : Port) (s : State) : (withdrawn p s).survey = s.survey := by cases p <;> rfl
@[simp] theorem withdrawn_journal (p : Port) (s : State) : (withdrawn p s).journal = s.journal := by cases p <;> rfl
@[simp] theorem withdrawn_link (p : Port) (s : State) : (withdrawn p s).link = s.link := by cases p <;> rfl
@[simp] theorem withdrawn_gen (p : Port) (s : State) : (withdrawn p s).gen = s.gen := by cases p <;> rfl
@[simp] theorem withdrawn_hcu (p : Port) (s : State) : (withdrawn p s).hcu = s.hcu := by cases p <;> rfl
@[simp] theorem withdrawn_det (p : Port) (s : State) : (withdrawn p s).det = s.det := by cases p <;> rfl
@[simp] theorem withdrawn_cap (p : Port) (s : State) : (withdrawn p s).cap = s.cap := by cases p <;> rfl
@[simp] theorem withdrawn_agg (p : Port) (s : State) : (withdrawn p s).agg = s.agg := by cases p <;> rfl
@[simp] theorem withdrawn_kit (p : Port) (s : State) : (withdrawn p s).kit = s.kit := by cases p <;> rfl
@[simp] theorem withdrawn_comp (p : Port) (s : State) : (withdrawn p s).comp = s.comp := by cases p <;> rfl
@[simp] theorem withdrawn_line (p : Port) (s : State) : (withdrawn p s).line = s.line := by cases p <;> rfl
@[simp] theorem withdrawn_flight (p : Port) (s : State) : (withdrawn p s).flight = s.flight := by cases p <;> rfl
@[simp] theorem withdrawn_note (p q : Port) (s : State) : (withdrawn p s).note q = s.note q := by cases p <;> cases q <;> rfl
@[simp] theorem withdrawn_free (p : Port) (s : State) : (withdrawn p s).free = s.free := by cases p <;> rfl
@[simp] theorem withdrawn_running (p : Port) (s : State) : (withdrawn p s).running = s.running := by cases p <;> rfl
@[simp] theorem withdrawn_inSurvey (p : Port) (s : State) : (withdrawn p s).inSurvey = s.inSurvey := by cases p <;> rfl
@[simp] theorem withdrawn_ctx (p : Port) (x : DetCtx) (s : State) : (withdrawn p s).ctx x = s.ctx x := by cases p <;> rfl

/-! ### Select periods (R195) -/

theorem mayGoOn_iff (words : List Word) (u : PortUnit) : mayGoOn words u = true ↔ follows words u := by
  unfold mayGoOn follows
  cases u.intake with
  | none => simp
  | some held => simp [List.prefix_iff_eq_take]

theorem inPeriod_of_not_follows {p : Port} {words : List Word} {s : State} (released : Bool) (f : State → State)
    (h : ¬ follows words (s.port p)) : inPeriod p words released f s = s := by
  rw [inPeriod, if_neg (by rwa [mayGoOn_iff])]

theorem inPeriod_held {p : Port} {words : List Word} {s : State} (f : State → State) (h : follows words (s.port p)) :
    inPeriod p words false f s = s.modPort p (periodHeld words) := by
  rw [inPeriod, if_pos ((mayGoOn_iff _ _).2 h)]
  cases p <;> rfl

theorem inPeriod_released {p : Port} {words : List Word} {s : State} (f : State → State) (h : follows words (s.port p)) :
    inPeriod p words true f s = clockZeros p words.length (f s) := by
  rw [inPeriod, if_pos ((mayGoOn_iff _ _).2 h)]
  rfl

theorem clockZeros_releasePeriod (p : Port) (n : Nat) (s : State) :
    clockZeros p n (releasePeriod p s) = s.modPort p (periodEnded n) := by cases p <;> rfl

theorem discardReadNext_eq (u : PortUnit) :
    discardReadNext u =
      { u with
        response := if u.response.map Response.kind == some (some .readNext) then none else u.response
        fetchDue := if u.response.map Response.kind == some (some .readNext) then false else u.fetchDue } := by
  obtain ⟨_, _, response⟩ := u
  cases response with
  | none => rfl
  | some r =>
    by_cases h : r.kind = some .readNext <;> simp [discardReadNext, h]

/-! ### The survey state -/

theorem running_iff (s : State) : s.running = true ↔ isRunning s := by simp [State.running, isRunning]

theorem running_false_iff (s : State) : s.running = false ↔ ¬ isRunning s := by
  rw [← running_iff]; simp

theorem inSurvey_iff (s : State) : s.inSurvey = true ↔ s.survey.state ≠ .idle := by simp [State.inSurvey]

theorem belowReserve_iff (s : State) : belowReserve s = true ↔ s.journal.headSeq < 0xFFFFFF00 := by
  rw [belowReserve, decide_eq_true_iff]; rfl

/-! ### Raises -/

theorem raiseBoth_print (s : State) : raiseBoth .print s = s.bothPorts (flagsRaised 0x08) := rfl
theorem raiseBoth_printer (s : State) : raiseBoth .printer s = s.bothPorts (flagsRaised 0x10) := rfl
theorem raiseBoth_link (s : State) : raiseBoth .link s = linkRaised s := rfl
theorem raiseBoth_probe (s : State) : raiseBoth .probe s = s.bothPorts (flagsRaised 0x40) := rfl
theorem raiseBoth_loss (s : State) : raiseBoth .loss s = s.bothPorts (flagsRaised 0x20) := rfl
theorem raiseBoth_eventOpen (s : State) : raiseBoth .eventOpen s = s.bothPorts (flagsRaised 0x02) := rfl
theorem raiseBoth_journalLow (s : State) : raiseBoth .journalLow s = s.bothPorts (flagsRaised 0x80) := rfl

/-! ### Appends, as the APPEND command -/

/-- The marks that a hardware block makes (R20, R209): the two marks of a port's own request, and the loss mark, are not. -/
theorem hardwareBody_mark {m : MarkBody}
    (h : match m with | .surveyStart _ _ _ _ _ _ _ => False | .timeStep _ _ _ _ => False | .loss _ _ _ _ => False | _ => True) :
    hardwareBody (.mark m) = true := by
  cases m <;> simp_all [hardwareBody, bodySlots, bodyLen, markLen, slotsFor, Config.headerBytes, Config.slotBytes]

theorem exec_append_mark {m : MarkBody} {s : State} (h : s.survey.state = .running) (hm : hardwareBody (.mark m) = true) :
    exec (.append (.mark m) false) s = .next (appendMark m s) := by simp [exec, execAppend, h, hm, appendMark]

theorem exec_append_event {r : PendingRec} {s : State} (h : s.survey.state = .running) :
    exec (.append (.event (eventBody r)) r.flags.test) s = .next (appendEvent r s) := by
  have hs : bodySlots (.event (eventBody r)) ≤ 16 := by
    show slotsFor (if (eventBody r).wave.isSome then 52 else 46) ≤ 16
    split <;> decide
  have hb : hardwareBody (.event (eventBody r)) = true := by unfold hardwareBody; rw [Bool.true_and]; exact decide_eq_true hs
  simp [exec, execAppend, h, hb, appendEvent]

theorem markInRunning_of_running {m : MarkBody} {s : State} (h : isRunning s) (hm : hardwareBody (.mark m) = true) :
    exec (.append (.mark m) false) s = .next (markInRunning m s) := by
  rw [exec_append_mark h.1 hm, markInRunning, if_pos ((running_iff s).2 h)]

theorem markInRunning_of_not_running {m : MarkBody} {s : State} (h : ¬ isRunning s) : markInRunning m s = s := by
  rw [markInRunning, (running_false_iff s).2 h]; rfl

end Sys2Proof.Machine
end

