-- ==== Sys2Proof/Laws/Journal.lean ====
section
/-! SUPPORT. The append of the Journal Manager: what a plan is, what making room may change, and a port's append as the
statements write it. -/

namespace Sys2Proof.Machine

open Sys2Proof

/-! ### Plans (R22) -/

@[simp] theorem usedSlots_nil : usedSlots [] = 0 := rfl
@[simp] theorem usedSlots_cons (r : Record) (rs : List Record) : usedSlots (r :: rs) = r.slots + usedSlots rs := by simp [usedSlots]
@[simp] theorem usedSlots_append (l m : List Record) : usedSlots (l ++ m) = usedSlots l + usedSlots m := by simp [usedSlots]

theorem usedSlots_take_add_drop (n : Nat) (rs : List Record) : usedSlots (rs.take n) + usedSlots (rs.drop n) = usedSlots rs := by
  rw [← usedSlots_append, List.take_append_drop]

/-- What a successful plan says: the n oldest records leave, each reclaimable, and no fewer would do. -/
theorem planReclaim_some {k : Nat} {h : Option Nat} {free f : Nat} {rs left : List Record}
    (hp : planReclaim k h free rs = some (left, f)) :
    ∃ n ≤ rs.length, left = rs.drop n ∧ f = free + usedSlots (rs.take n) ∧ k ≤ f ∧
      (∀ m < n, free + usedSlots (rs.take m) < k) ∧ (rs.take n).all (reclaimable h) = true := by
  induction rs generalizing free with
  | nil =>
    simp only [planReclaim] at hp
    split at hp
    · obtain ⟨rfl, rfl⟩ := by simpa using hp
      exact ⟨0, le_rfl, rfl, by simp, by assumption, by simp, rfl⟩
    · simp at hp
  | cons r rest ih =>
    simp only [planReclaim] at hp
    split at hp
    · obtain ⟨rfl, rfl⟩ := by simpa using hp
      exact ⟨0, Nat.zero_le _, rfl, by simp, by assumption, by simp, rfl⟩
    · split at hp
      · obtain ⟨n, hn, rfl, rfl, hk, hm, ha⟩ := ih hp
        refine ⟨n + 1, by simpa using hn, rfl, by simp [Nat.add_assoc], hk, fun m hm' => ?_, by simp_all⟩
        cases m with
        | zero => simp; omega
        | succ m => have := hm m (by omega); simp only [List.take_succ_cons, usedSlots_cons]; omega
      · simp at hp

/-- The plan that R22 describes is the one made. -/
theorem planReclaim_of_take {k : Nat} {h : Option Nat} {free n : Nat} {rs : List Record} (hn : n ≤ rs.length)
    (hk : k ≤ free + usedSlots (rs.take n)) (hm : ∀ m < n, free + usedSlots (rs.take m) < k)
    (ha : (rs.take n).all (reclaimable h) = true) : planReclaim k h free rs = some (rs.drop n, free + usedSlots (rs.take n)) := by
  induction rs generalizing free n with
  | nil => obtain rfl : n = 0 := by simpa using hn
           simp_all [planReclaim]
  | cons r rest ih =>
    cases n with
    | zero => simp_all [planReclaim]
    | succ n =>
      have h0 := hm 0 (by omega)
      simp only [List.take_zero, usedSlots_nil, Nat.add_zero] at h0
      have hr : reclaimable h r = true := by simp_all
      rw [planReclaim, if_neg (by omega), if_pos hr, ih (n := n) (by simpa using hn)]
      · simp [Nat.add_assoc]
      · simpa [Nat.add_assoc] using hk
      · intro m hm'
        have := hm (m + 1) (by omega)
        simp only [List.take_succ_cons, usedSlots_cons] at this
        omega
      · simp_all

theorem planReclaim_none {k : Nat} {h : Option Nat} {free : Nat} {rs : List Record} :
    planReclaim k h free rs = none ↔ free + usedSlots (rs.takeWhile (reclaimable h)) < k := by
  induction rs generalizing free with
  | nil => simp [planReclaim]
  | cons r rest ih =>
    simp only [planReclaim]
    split
    · constructor
      · simp
      · intro hlt; omega
    · split
      · rename_i hr
        rw [ih, List.takeWhile_cons_of_pos hr, usedSlots_cons, Nat.add_assoc]
      · rename_i hr
        rw [List.takeWhile_cons_of_neg hr]
        simp; omega

/-- A plan of the statements is the plan made here. -/
theorem planHere_of_planIs {k n : Nat} {s : State} (h : planIs k n s) :
    planHere k s = some (s.journal.records.drop n, s.journal.free + usedSlots (s.journal.records.take n)) :=
  planReclaim_of_take h.1 h.2.1 h.2.2.1 h.2.2.2

theorem planHere_none_iff {k : Nat} {s : State} : planHere k s = none ↔ noPlan k s := planReclaim_none

/-! ### What making room changes -/

/-- Everything but the journal, the print queue, the printer line and the ports. -/
def sameBeside (s t : State) : Prop :=
  t = { s with journal := t.journal, comp := t.comp, line := t.line, portA := t.portA, portB := t.portB } ∧
  t.journal.headSeq = s.journal.headSeq ∧ t.journal.headSlot = s.journal.headSlot ∧ t.journal.policy = s.journal.policy ∧
  t.journal.armed = s.journal.armed ∧ t.journal.lossEvent = s.journal.lossEvent ∧ t.journal.lossWave = s.journal.lossWave ∧
  t.journal.lossInterval = s.journal.lossInterval ∧ t.journal.lossMark = s.journal.lossMark

theorem sameBeside_refl (s : State) : sameBeside s s := by simp [sameBeside]

theorem sameBeside_trans {s t u : State} (h : sameBeside s t) (g : sameBeside t u) : sameBeside s u := by
  obtain ⟨h1, h2, h3, h4, h5, h6, h7, h8, h9⟩ := h
  obtain ⟨g1, g2, g3, g4, g5, g6, g7, g8, g9⟩ := g
  refine ⟨?_, by rw [g2, h2], by rw [g3, h3], by rw [g4, h4], by rw [g5, h5], by rw [g6, h6], by rw [g7, h7], by rw [g8, h8],
    by rw [g9, h9]⟩
  rw [g1, h1]

theorem sameBeside_applyPlan (left : List Record) (free : Nat) (s : State) : sameBeside s (applyPlan left free s) := by
  simp [sameBeside, applyPlan, State.setJournal, State.bothPorts]

theorem journal_headLeaves (e : JobEnd) (s : State) : (headLeaves e s).journal = s.journal := by
  unfold headLeaves; split <;> rfl

theorem journal_closeHead (c : Closing) (s : State) : (closeHead c s).journal = s.journal := by
  rcases hq : s.comp.queue with _ | ⟨j, rest⟩
  · simp [closeHead, hq]
  · cases hs : j.state <;> simp only [closeHead, hq, hs]
    · split <;> rfl
    · split <;> rfl
    · rfl
    · rw [journal_headLeaves]; rfl

theorem journal_yieldJob (n : Nat) (s : State) : (yieldJob n s).journal = s.journal := by
  unfold yieldJob
  split
  · rfl
  · split
    · split
      · rw [journal_closeHead]
      · rfl
    · unfold queuedLeaves; split <;> rfl

theorem sameBeside_headLeaves (e : JobEnd) (s : State) : sameBeside s (headLeaves e s) := by
  unfold headLeaves; split <;> simp [sameBeside, raiseBoth, State.bothPorts]

theorem sameBeside_closeHead (c : Closing) (s : State) : sameBeside s (closeHead c s) := by
  rcases hq : s.comp.queue with _ | ⟨j, rest⟩
  · simpa [closeHead, hq] using sameBeside_refl s
  · cases hs : j.state <;> simp only [closeHead, hq, hs]
    · split <;> simp [sameBeside, State.setComp, raiseBoth, State.bothPorts]
    · split <;> simp [sameBeside, State.setComp, raiseBoth, State.bothPorts]
    · simp [sameBeside, State.setComp, raiseBoth, State.bothPorts]
    · exact sameBeside_trans (by simp [sameBeside, State.setComp]) (sameBeside_headLeaves _ _)

theorem sameBeside_yieldJob (n : Nat) (s : State) : sameBeside s (yieldJob n s) := by
  unfold yieldJob
  split
  · exact sameBeside_refl s
  · split
    · split
      · exact sameBeside_closeHead _ _
      · exact sameBeside_refl s
    · unfold queuedLeaves; split <;> simp [sameBeside, State.setComp, raiseBoth, State.bothPorts]

theorem sameBeside_yieldUntil {k : Nat} {l : List Nat} {s t : State} (h : yieldUntil k l s = some t) : sameBeside s t := by
  induction l generalizing s with
  | nil =>
    simp only [yieldUntil, Option.map_eq_some_iff] at h
    obtain ⟨⟨left, free⟩, -, rfl⟩ := h
    exact sameBeside_applyPlan _ _ _
  | cons n more ih =>
    simp only [yieldUntil] at h
    split at h
    · obtain rfl := by simpa using h
      exact sameBeside_applyPlan _ _ _
    · exact sameBeside_trans (sameBeside_yieldJob n s) (ih h)

/-- Making room changes the journal's records and slots, the print queue, the printer line and the ports, and nothing else. -/
theorem sameBeside_makeRoom {k : Nat} {s t : State} (h : makeRoom k s = some t) : sameBeside s t := by
  unfold makeRoom at h
  split at h
  · obtain rfl := by simpa using h
    exact sameBeside_applyPlan _ _ _
  · split at h
    · exact sameBeside_yieldUntil h
    · simp at h

/-! ### A port's append (R20 to R23, R27, R32), and the limit test (R6) -/

theorem pushCursor_eq (tail : Nat) (u : PortUnit) : pushCursor tail u = pushedPort tail u := by
  unfold pushCursor pushedPort; split <;> rfl

theorem flagsRaised_zero (u : PortUnit) : flagsRaised 0#8 u = u := by
  have h : ∀ x : BitVec 8, x &&& 255#8 = x := fun x => BitVec.and_allOnes
  simp [flagsRaised, h]

theorem checkLimit_eq (s : State) : checkLimit s = limitTested s := by
  have e : (s.running && decide (Config.reserveStart ≤ s.journal.headSeq)) = true ↔ isRunning s ∧ 0xFFFFFF00 ≤ s.journal.headSeq := by
    rw [Bool.and_eq_true, running_iff, decide_eq_true_iff]; rfl
  by_cases h : isRunning s ∧ 0xFFFFFF00 ≤ s.journal.headSeq
  · rw [limitTested, if_pos h, checkLimit, if_pos (e.2 h)]; rfl
  · rw [limitTested, if_neg h, checkLimit, if_neg (mt e.1 h)]

@[simp] theorem pushedPort_arrivals (tail : Nat) (u : PortUnit) : (pushedPort tail u).arrivals = u.arrivals := by
  unfold pushedPort; split <;> rfl

/-- The append of a port's record under a plan, beside the limit test at its event's end. -/
theorem portAppend_of_planIs {p : Port} {b : Body} {n : Nat} {s : State} (h : planIs (bodySlots b) n s) (hb : bodyKind b ≠ .event) :
    portAppend p b s = some (portAppended p b n s) := by
  have hm : headerMs b = fun s => s.survey.clock := by cases b <;> first | rfl | exact absurd rfl hb
  have hl : n ≤ s.journal.records.length := h.1
  simp only [portAppend, makeRoom, planHere_of_planIs h, Option.map_some, Option.some.injEq]
  simp only [checkLow, placeRecord, applyPlan, tellPorts, newRecord, hm, raiseBoth_journalLow, State.bothPorts, State.setJournal, portAppended,
    pushCursor_eq, List.length_drop, Config.lowSpace, Config.journalSlots, lowRaised, Nat.sub_sub_self hl, Nat.add_sub_cancel_left]
  split <;> rename_i hf
  · have : ¬ 1024 ≤ s.journal.free + usedSlots (s.journal.records.take n) - bodySlots b := by omega
    cases ha : s.journal.armed
    · simp [hf, this, flagsRaised_zero]
    · simp [hf, this, flagsRaised]
  · have : 1024 ≤ s.journal.free + usedSlots (s.journal.records.take n) - bodySlots b := by omega
    simp [hf, this, flagsRaised_zero]

end Sys2Proof.Machine
end

