-- ==== Sys2Proof/Laws/Line.lean ====
section
/-! SUPPORT. The shared operations of the printer line and the print queue, in the words of the statements. -/

namespace Sys2Proof.Machine

open Sys2Proof

theorem pump_eq (l : LineUnit) : pump l = byteMoved l := by
  unfold pump byteMoved mayMove
  cases hf : l.fifo <;> simp
  by_cases h1 : l.shift = none <;> by_cases h2 : l.cts = true <;> by_cases h3 : l.state = .brk <;>
    by_cases h4 : l.state = .sending <;> by_cases h5 : l.held.headHot = true <;> simp_all

theorem placeInquire_eq (l : LineUnit) : placeInquire l = inquirySent l := by
  simp [placeInquire, inquirySent, pump_eq, inquireByte]

theorem poll_eq (l : LineUnit) : poll l = polled l := by simp [poll, polled, placeInquire_eq, Config.pollMs]

theorem setHeadState_eq (st : JobState) (s : State) : setHeadState st s = headIn st s := by
  unfold setHeadState headIn modHead
  rw [raiseBoth_print]
  cases h : s.comp.queue
  · simp [State.bothPorts, ← h]
  · simp [State.bothPorts, State.setComp]

theorem enterStalled_eq (r : StallReason) (s : State) : enterStalled r s = stalled r s := by
  simp [enterStalled, stalled, setHeadState_eq, modLine, stallLine, poll_eq, State.setComp, State.setLine]

theorem beginStart_eq (s : State) : beginStart s = startBegun s := by
  simp [beginStart, startBegun, enterStalled_eq, modLine, placeInquire_eq, State.setLine, Config.inquiryMs]

theorem stopServing_eq (b : Bool) (l : LineUnit) : stopServing b l = lineReleased b l := by
  unfold stopServing lineReleased
  cases hs : l.state <;> cases b <;> cases hsh : l.shift <;> simp

theorem pushEnd_eq (e : EndEntry) (l : List EndEntry) : pushEnd e l = endListed e l := by
  unfold pushEnd endListed Config.queueSize
  split
  · rw [List.drop_append_of_le_length (by omega)]
  · have : l.length + 1 - 8 = 0 := by omega
    simp [this]

theorem headLeaves_eq (e : JobEnd) {s : State} {j : Job} {rest : List Job} (h : s.comp.queue = j :: rest) :
    headLeaves e s = headLeft (entryOf j e (endPosition j e)) s := by
  unfold headLeaves headLeft
  rw [h]
  cases rest <;>
    simp [raiseBoth_print, State.bothPorts, stopServing_eq, pushEnd_eq, endEntry, entryOf, becomeHead]

theorem finishLine_eq (b : List Byte) : finishLine b = printedLine b := rfl

end Sys2Proof.Machine
end

