-- ==== Sys2Proof/Tests/Slice0.lean ====
section
/-! SUPPORT. Tests: what WellFormed refuses, figures the manual works out, one step of each family of commands on a small state, and for
each statement with hypotheses a state and operands that meet them. Every expected value is the manual's, or worked by hand from it. -/

namespace Sys2Proof.Tests

open Sys2Proof Sys2Proof.Machine

/-! ### Ill-formed commands -/

def emptyWave : WaveBody := ⟨1, 0, false, false, 2, 6, 0, .all (List.replicate 64 0)⟩
def smallEvent : EventBody :=
  ⟨.dip, 10, 17, 7, 100, 170, ⟨900, 100, 20⟩, 610, 0, ⟨true, false, false, false⟩, ⟨some 610, none, none, none⟩, 0, clearFlags, some 1,
    none⟩
def smallInterval : IntervalBody where
  number := 40
  length := 15
  first := 600
  last := 614
  aggregated := 3
  excluded := 1
  missing := 11
  unpowered := 0
  occupancy := ⟨0, 0, 0⟩
  flags := ⟨true, false, false, false, false, false⟩
  closeMs := 0
  kept := 2
  mask := 1
  magnitudes := ⟨some [10000, 0], none, none, none, none, none, none, none⟩
  thd := ⟨some 0, none, none, none⟩
  exceed := [⟨0, 5, 1⟩]
  exceedTotal := 1

theorem test_wellformed_accepts :
    ((Instr.append (.wave emptyWave) false).wf && (Instr.append (.event smallEvent) false).wf
      && (Instr.append (.interval smallInterval) false).wf && (Instr.requestFrame .a [0x0500] (.released 0)).wf
      && (Instr.requestFrame .a [] .asserted).wf) = true := by decide
theorem test_wave_index_refused : (Instr.append (.wave { emptyWave with index := -9 }) false).wf = false := by decide
theorem test_wave_index_high_refused : (Instr.append (.wave { emptyWave with index := 24 }) false).wf = false := by decide
theorem test_wave_pre_refused : (Instr.append (.wave { emptyWave with p := 0 }) false).wf = false := by decide
theorem test_wave_samples_refused : (Instr.append (.wave { emptyWave with samples := .all [] }) false).wf = false := by decide
theorem test_event_worst_refused : (Instr.append (.event { smallEvent with worst := 4 }) false).wf = false := by decide
theorem test_event_residual_refused : (Instr.append (.event { smallEvent with extreme := 2000 }) false).wf = false := by decide
theorem test_event_extremes_refused :
    (Instr.append (.event { smallEvent with extremes := .all (some 610) }) false).wf = false := by decide
theorem test_event_link_refused : (Instr.append (.event { smallEvent with capture := none }) false).wf = false := by decide
theorem test_event_wave_field_refused :
    (Instr.append (.event { smallEvent with wave := some (9, 0) }) false).wf = false := by decide
theorem test_interval_length_refused :
    (Instr.append (.interval { smallInterval with length := 14 }) false).wf = false := by decide
theorem test_interval_magnitudes_refused :
    (Instr.append (.interval { smallInterval with kept := 3 }) false).wf = false := by decide
theorem test_interval_thd_refused :
    (Instr.append (.interval { smallInterval with thd := .all (some 10000) }) false).wf = false := by decide
theorem test_interval_list_refused :
    (Instr.append (.interval { smallInterval with exceed := [⟨4, 5, 1⟩] }) false).wf = false := by decide
theorem test_port_mark_refused : (Instr.append (.mark (.timeStep 0 0 0 0)) false).wf = false := by decide
theorem test_program_refused : (Instr.append (.mark (.selftestOn 32768 0 1 1 1 .hunt)) false).wf = false := by decide
theorem test_probe_channel_refused : (Instr.append (.mark (.probeIn 8 .clamp false 0)) false).wf = false := by decide
theorem test_fetch_frame_refused : (Instr.requestFrame .a [0xFEFE] (.released 0)).wf = false := by decide
theorem test_reset_frame_refused : (Instr.requestFrame .a [0xFFFF] .asserted).wf = false := by decide
theorem test_status_body_refused : (Instr.status .a (List.replicate 256 0)).wf = false := by decide +kernel
theorem test_no_word_spells_a_command : decodeTableWord 8 0 = none := rfl

/-! ### Figures of the manual -/

/-- The check word of the example frame (03): 690. -/
theorem test_check_word : checkWord [1200, BitVec.ofInt 16 (-850), 300, 0, BitVec.ofInt 16 (-12), 45, 7, 0] = 690 := by decide

/-- The worked figures of 04. -/
theorem test_residual_605 : rawResidual 37480960000 20000 = 605 := by decide +kernel
theorem test_residual_999 : rawResidual 102399999999 20000 = 999 := by decide +kernel
theorem test_residual_1000 : rawResidual 102400000000 20000 = 1000 := by decide +kernel
theorem test_residual_600 : rawResidual 20736000000 15000 = 600 := by decide +kernel
theorem test_residual_full_scale : rawResidual 274861129984 1000 = 32767 := by decide +kernel
theorem test_band_edges : (bandOf [100, 400, 700, 900, 1000, 1100, 1200] 999, bandOf [100, 400, 700, 900, 1000, 1100, 1200] 1000) = (4, 5) := by
  decide

/-- The wall times of the example across a step (01). -/
def exampleSteps : List TimeStep := [⟨0, 9000, 30600000⟩, ⟨5400000, 9000, 35940000⟩]
theorem test_wall_before_step : wallTime exampleSteps 5000000 = some (9000, 35600000) := by decide
theorem test_wall_after_step : wallTime exampleSteps 7000000 = some (9000, 37540000) := by decide
theorem test_wall_next_day : wallTime [⟨0, 9000, 86000000⟩] 1000000 = some (9001, 600000) := by decide

/-- Report texts (09). -/
theorem test_date_9000 : dateText 9000 = ascii "2024-08-22" := by decide
theorem test_date_8766 : dateText 8766 = ascii "2024-01-01" := by decide
theorem test_duration_50 : durationText 7 50 = ascii "70 MS" := by decide
theorem test_duration_60 : durationText 7 60 = ascii "58 MS" := by decide
theorem test_time_of_day : timeText 37540000 = ascii "10:25:40.000" := by decide

/-- Sizes in slots (12). -/
theorem test_wave_slots : bodySlots (.wave emptyWave) = 9 := by decide
theorem test_event_slots : bodySlots (.event smallEvent) = 1 := by decide
theorem test_event_with_wave_slots : bodySlots (.event { smallEvent with wave := some (9, 2) }) = 2 := by decide
theorem test_interval_slots :
    bodySlots (.interval { smallInterval with magnitudes := ⟨some (List.replicate 40 0), none, none, none, none, none, none, none⟩ }) = 3 := by
  decide
def shortNote : NoteBody :=
  ⟨1, .site, 0, false, false, false, none, [], 23, 1, List.replicate 23 0x41⟩
theorem test_note_slots : bodySlots (.note shortNote) = 1 := by decide

/-- THD of the worked interval (06): 58. -/
theorem test_thd : thdOf (some [10000, 0, 300, 0, 506]) = some 58 := by decide +kernel
theorem test_mean_magnitude : isqrt (770000 / 3) = 506 := by decide +kernel

/-! ### Small states -/

/-- A survey numbered 1 that began on day 9000, with the given state and nothing else. -/
def inState (x : SurveyState) : State :=
  { State.reset with survey := { SurveyUnit.reset with state := x, number := 1, steps := [⟨0, 9000, 0⟩] } }
def running : State := inState .running
def stopping : State :=
  { running with
    survey := { running.survey with stopPending := .request .a, yetToFinish := ⟨true, true, true, true⟩ }
    flight := { running.flight with stopNotices := ⟨true, true, true, true⟩ } }
/-- A request of this kind and body waits at Port A. -/
def asking (k : RequestKind) (body : List Word) (s : State) : State := s.modPort .a fun u => { u with waiting := some ⟨k, body⟩ }
/-- A SET of an item waits at Port A. -/
def setting (i : Item) (v : List Word) (s : State) : State := asking .set (word (itemCode i) :: v) s
def mark : Body := .mark (.linkUp false 0)
/-- A record of one slot. -/
def one (n : Nat) : Record := ⟨n, false, false, .survey, 0, 1, mark⟩
def noteRecord (n : Nat) : Record := ⟨n, false, false, .portA, 0, 1, .note shortNote⟩
/-- A running survey whose journal holds these records from number 1. -/
def holding (rs : List Record) : State :=
  { running with journal := { JournalUnit.reset with
      records := rs, headSeq := 1 + rs.length, headSlot := rs.length, free := 8192 - rs.length } }
/-- A full journal of one record, which a job holds or not, under PRINT_FIRST. -/
def job : Job :=
  ⟨7, .a, 1, 1, 1, 0, ⟨true, true, true, true, true⟩, false, 1, 1, false, .printing, .record 1, some 1, .none, 0, 0, true, none⟩
def held : State :=
  { running with
    journal := { JournalUnit.reset with records := [one 1], headSeq := 2, free := 0, policy := .printFirst }
    comp := { ComposerUnit.reset with queue := [job], lastJob := 7 } }
/-- The head job of a line in this state, with the controller's figures as given. -/
def served (j : Job) (l : LineUnit) : State := { holding [one 1, one 2] with comp := { ComposerUnit.reset with queue := [j] }, line := l }
def lineIn (x : LineState) : LineUnit := { LineUnit.reset with state := x, ready := true, cts := true }
def withLink (l : LinkUnit) : State := { running with link := l }
/-- The bit before the last of a word whose first fifteen bits are w's. -/
def wordEnd (x : LinkState) (frame : List Word) (w : Word) : LinkUnit :=
  { LinkUnit.reset with state := x, wordPos := some 15, frame := frame, window := w >>> 1 }
def frame10 : List Word := [0xC5A3, 0x3A5C, 1200, BitVec.ofInt 16 (-850), 300, 0, BitVec.ofInt 16 (-12), 45, 7, 0]

/-! ### One step of each family -/

/-- The first sequence of 01's worked survey: number 1, the mark at sequence 1, RUNNING. -/
theorem test_survey_start :
    (match exec (.surveyStart .a) (asking .surveyStart (textWords (ascii "SUBSTN-7") ++ [9000, 466, 60224, 50]) .reset) with
     | .next t => (t.survey.number, t.journal.headSeq, t.survey.startTime, t.survey.state) | _ => (0, 0, 0, .idle))
      = (1, 2, 30600000, .running) := by decide
theorem test_clock_tick :
    (match exec .surveyClockTick running with | .next t => t.survey.clock | _ => 0) = 1 := by decide
theorem test_clock_saturates :
    (match exec .surveyClockTick { running with survey := { running.survey with clock := 0xFFFFFFFF } } with
     | .next t => t.survey.clock | _ => 0) = 0xFFFFFFFF := by decide
/-- A data frame with the example's samples and check word 690 delivers them. -/
theorem test_good_frame :
    (match exec (.bitArrival false) (withLink (wordEnd .locked frame10 690)) with
     | .next t => (t.link.lastGood.c1, t.link.instants, t.link.badTotal) | _ => (0, 0, 0)) = (-850, 1, 0) := by decide
theorem test_bad_check_word :
    (match exec (.bitArrival true) (withLink (wordEnd .locked frame10 691)) with
     | .next t => (t.link.instants, t.link.badTotal, t.flight.hcuIn.length) | _ => (0, 0, 0)) = (1, 1, 1) := by decide
theorem test_hold_off_of_two_values :
    (match exec .halfCycleValue { running with
        det := { DetectorUnit.reset with low := { DetContext.reset ⟨900, 100, 20⟩ with state := .closing, holdLeft := 2 } }
        flight := { Flight.empty with values := [⟨⟨5, false, ⟨some ⟨950, false, false, true⟩, none, none, none⟩, 900⟩, 0⟩] } } with
     | .next t => (t.det.low.state, t.det.low.holdLeft) | _ => (.idle, 0)) = (.closing, 1) := by decide
/-- A dip to 610 opens the LOW context: 610 < 900. -/
theorem test_dip_opens :
    (match exec .halfCycleValue { running with
        flight := { Flight.empty with values := [⟨⟨5, false, ⟨some ⟨610, false, false, true⟩, none, none, none⟩, 900⟩, 0⟩] } } with
     | .next t => (t.det.low.state, t.det.low.startHc, t.det.low.extremes.c0, t.flight.triggers.length) | _ => (.idle, 0, none, 0))
      = (.opened, 5, some 610, 1) := by decide
/-- Frame 601 of the worked interval: 500,000 is not above 500,000. -/
theorem test_exceedance_is_strict :
    (match exec (.postFrame .a) (asking .postFrame [0, 601, 1, 5, 10000, 0, 300, 0, 500] { running with
        agg := { AggregatorUnit.reset with length := 15, limits := AggregatorUnit.reset.limits.set 3 50 } }) with
     | .next t => (t.agg.current, (t.agg.exceed.c0).getD 3 9, (t.agg.sums.c0).getD 4 0, t.agg.missing) | _ => (none, 0, 0, 0))
      = (some 40, 0, 250000, 1) := by decide
theorem test_debounce :
    (match exec (.debounceExpiry 0) { running with kit := { KitUnit.reset with
        sense := KitUnit.reset.sense.set 0 false, timers := KitUnit.reset.timers.set 0 (some 0) } } with
     | .next t => (t.kit.present.c0, t.portA.flags, t.journal.headSeq) | _ => (false, 0, 0)) = (true, 0x40, 2) := by decide
theorem test_note_begin :
    (match exec (.noteBegin .a) (asking .noteBegin [0, 16, 1, 0, 9] running) with
     | .next t => ((t.portA.response.map Response.code), (t.portA.response.map Response.body)) | _ => (none, none))
      = (some .okClamped, some [15, 8]) := by decide
theorem test_job_numbers_wrap :
    (match exec (.printSubmit .a) (asking .printSubmit [1, 31, 0, 1, 0] { holding [one 1, one 2] with
        comp := { ComposerUnit.reset with lastJob := 255 } }) with
     | .next t => t.comp.queue.map Job.number | _ => []) = [1] := by decide
theorem test_even_parity_error :
    (match exec (.byteReceived 0x01 false ⟨true, false⟩) { running with line := { lineIn .idle with evenParity := true } } with
     | .next t => (t.portA.parity, t.portB.parity, t.line.holding) | _ => (0, 0, none)) = (1, 1, none) := by decide
/-- PARITY went from EVEN to NONE while the byte was received: it is judged under the EVEN it began with (R179). -/
theorem test_parity_of_reception :
    (match exec (.byteReceived 0x01 false ⟨true, true⟩) { running with line := { lineIn .idle with parityChanged := true } } with
     | .next t => (t.portA.parity, t.line.holding, t.line.parityChanged) | _ => (0, none, true)) = (1, none, false) := by decide
theorem test_push_counts_missed :
    (match exec (.append mark false) { holding [one 1] with
        journal := { (holding [one 1]).journal with free := 0 } } with
     | .next t => (t.journal.tailSeq, t.portA.cursor, t.portA.missed) | _ => (0, 0, 0)) = (2, 2, 1) := by decide
/-- READ_NEXT's preamble: one record, tail 1, head 2, none missed, 8191 slots free (02). -/
theorem test_read_next_preamble :
    (match exec (.readNext .a) (asking .readNext [5] (holding [one 1])) with
     | .next t => (t.portA.response.map Response.body).map (List.take 8) | _ => none) = some [1, 0, 1, 0, 2, 0, 0, 8191] := by decide
theorem test_fetch_none :
    (match exec (.fetchFrame .a ⟨1, true⟩) .reset with | .next t => t.portA.out | _ => [1]) = [0] := by decide

/-- A fetch frame whose select is not released keeps the reset word of another period from its port (R195). -/
theorem test_unreleased_period_blocks :
    (match exec (.fetchFrame .a ⟨0, false⟩) .reset with
     | .next t => (match exec (.portReset ⟨.a, 0, true⟩) t with | .next u => u.portA.intake | _ => none) | _ => none) = some [0xFEFE] := by decide
/-- Zeros go out for every word of a port reset's period (R195). -/
theorem test_port_reset_zeros :
    (match exec (.portReset ⟨.a, 2, true⟩) .reset with | .next t => (t.portA.out, t.portA.intake) | _ => ([], none)) = ([0, 0, 0], none) := by
  decide

/-! ### Witnesses: a state and operands that meet the hypotheses of each statement, clause by clause -/

def next (c : Instr) (s : State) : State := match exec c s with | .next t => t | _ => s

theorem witness_step : ({ running with pending := [.room] }).pending = .room :: [] := rfl
theorem witness_clock : TimeSound running ∧ exec .surveyClockTick running = .next (next .surveyClockTick running) := ⟨by decide, rfl⟩
def startBody (freq : Word) : List Word := textWords [] ++ [9000, 0, 0, freq]
theorem witness_survey_state : StopSound (asking .surveyStart (startBody 50) .reset) ∧
    (next (.surveyStart .a) (asking .surveyStart (startBody 50) .reset)).survey.state ≠ .idle := by decide
theorem witness_survey_start_malformed : waits .a .surveyStart [1] (asking .surveyStart [1] running) ∧
    ([1] : List Word).length ≠ 1 + ((([1] : List Word).headD 0).toNat + 1) / 2 + 4 ∧ 16 < ((textWords (List.replicate 17 0x41)).headD 0).toNat := by decide
theorem witness_survey_start : waits .a .surveyStart (startBody 60) (asking .surveyStart (startBody 60) .reset) ∧
    State.reset.survey.state ≠ .running ∧ join32 (0 : Word) 0 ≤ 86399999 := by decide
/-- Port B holds the response of a READ_NEXT of count 0 (R34), and port A's SURVEY_START is accepted. -/
theorem witness_survey_start_over_a_refused_read :
    let s := (asking .surveyStart (startBody 50) .reset).modPort .b fun u =>
      { u with response := some ⟨.badValue, [], some .readNext, .nothing, false⟩, fetchDue := true }
    refusedReadNext (s.port .b) = true ∧ (next (.surveyStart .a) s).survey.state ≠ s.survey.state := by decide
theorem witness_survey_start_print_active :
    waits .a .surveyStart (startBody 50) (asking .surveyStart (startBody 50) { served job (lineIn .idle) with survey := (inState .stopped).survey }) ∧
    (served job (lineIn .idle)).comp.queue ≠ [] := by decide
theorem witness_survey_start_bad_time : 86399999 < join32 (1318 : Word) 23552 ∧ join32 (1318 : Word) 23551 ≤ 86399999 := by decide
theorem witness_survey_stop : waits .a .surveyStop [] (asking .surveyStop [] running) ∧ isRunning running ∧ ¬ isRunning stopping := by decide
theorem witness_stop_or_clear_with_a_body : waits .a .surveyStop [1] (asking .surveyStop [1] (inState .idle)) ∧
    waits .a .surveyClear [1] (asking .surveyClear [1] running) := by decide
theorem witness_sequence_limit : isRunning running ∧
    0xFFFFFF00 ≤ ({ running with journal := { JournalUnit.reset with headSeq := 0xFFFFFF00 } }).journal.headSeq := by decide
theorem witness_survey_clear : waits .a .surveyClear [] (asking .surveyClear [] (inState .stopped)) ∧
    (inState .stopped).survey.state = .stopped ∧ (inState .stopped).comp.queue = [] := by decide
theorem witness_survey_clear_with_a_body : waits .a .surveyClear [1] (asking .surveyClear [1] (inState .stopped)) := by decide
theorem witness_survey_clear_refused : waits .a .surveyClear [] (asking .surveyClear [] running) ∧ running.survey.state ≠ .stopped ∧
    waits .b .surveyClear [] ({ served job (lineIn .idle) with survey := (inState .stopped).survey }.modPort .b
      fun u => { u with waiting := some ⟨.surveyClear, []⟩ }) ∧ (served job (lineIn .idle)).comp.queue ≠ [] := by decide
theorem witness_wall_time : exampleSteps = [⟨0, 9000, 30600000⟩] ++ ⟨5400000, 9000, 35940000⟩ :: [] := rfl
theorem witness_set_time : waits .a .setTime [9000, 1318, 23551] (asking .setTime [9000, 1318, 23551] running) ∧
    join32 (1318 : Word) 23551 ≤ 86399999 ∧ running.journal.headSeq < 0xFFFFFF00 ∧ running.survey.steps.length < 16 ∧
    (makeRoom 1 running).isSome = true ∧ planIs 1 0 running := by decide
/-- A port's record reclaims the oldest one, and pushes the cursors of both ports. -/
theorem witness_port_append_reclaims :
    planIs 1 1 { holding [one 1] with journal := { (holding [one 1]).journal with free := 0 } } := by decide
theorem witness_set_time_held : waits .a .setTime [0, 0, 0] (asking .setTime [0, 0, 0] held) ∧ held.survey.state ≠ .idle ∧
    (makeRoom 1 held).isNone = true := by decide
theorem witness_append : hardwareBody mark = true ∧ lossPending running.journal = false ∧ planIs (bodySlots mark) 0 running := by decide
theorem witness_append_reclaims :
    planIs (bodySlots mark) 1 { holding [one 1] with journal := { (holding [one 1]).journal with free := 0 } } := by decide
theorem witness_loss : held.journal.policy = .printFirst ∧ noPlan (bodySlots mark) held ∧ held.journal.headSeq < 0xFFFFFF00 := by decide
theorem witness_loss_mark : lossPending { JournalUnit.reset with lossWave := 1 } = true ∧ bodySlots mark + 1 ≤ JournalUnit.reset.free ∧
    JournalUnit.reset.tailSeq ≤ running.portA.cursor := by decide
/-- A journal of two records with no slot free and a loss pending. -/
def lossy : State :=
  { holding [one 1, one 2] with journal := { (holding [one 1, one 2]).journal with free := 0, lossWave := 1 } }
theorem witness_loss_mark_reclaims : lossPending lossy.journal = true ∧ planIs (bodySlots mark + 1) 2 lossy := by decide
/-- A record that a job holds, one slot free, and a loss pending. -/
def oneSlot : State := { held with journal := { held.journal with free := 1, lossWave := 1 } }
theorem witness_only_the_record_fits : lossPending oneSlot.journal = true ∧ oneSlot.journal.policy = .printFirst ∧
    noPlan (bodySlots mark + 1) oneSlot ∧ planIs (bodySlots mark) 0 oneSlot := by decide
theorem witness_capture_first : running.journal.policy = .captureFirst ∧ JournalSound running.journal ∧ QueueSound running.comp := by decide
/-- An INTERVAL of sixteen slots. -/
def wideInterval : IntervalBody :=
  { smallInterval with kept := 50, mask := 0xFF, magnitudes := .all (some (List.replicate 50 0)), exceed := List.replicate 32 ⟨0, 5, 1⟩ }
/-- A full journal of 512 records, the first of which a job holds. -/
def full : State :=
  { running with
    journal := { JournalUnit.reset with
      records := (List.range' 1 512).map fun n => ⟨n, false, false, .survey, 0, 1, .interval wideInterval⟩
      headSeq := 513, free := 0 }
    comp := { ComposerUnit.reset with queue := [job], lastJob := 7 } }
theorem witness_yield_first : yieldsFirst [] job [] full := ⟨rfl, 1, rfl, by simp, by simp⟩
theorem witness_yield : full.journal.policy = .captureFirst ∧ JournalSound full.journal ∧ QueueSound full.comp ∧
    noPlan (bodySlots mark + if lossPending full.journal then 1 else 0) full := by decide +kernel
theorem witness_port_append_yields : noPlan 1 full ∧ full.survey.state ≠ .idle ∧ full.journal.headSeq < 0xFFFFFF00 ∧
    full.survey.steps.length < 16 := by decide +kernel
theorem witness_stored : JournalSound (holding [one 1]).journal ∧ one 1 ∈ (holding [one 1]).journal.records := by decide
theorem witness_held : held.journal.policy = .printFirst ∧ holdPoint held = some 1 ∧ one 1 ∈ held.journal.records ∧ 1 ≤ (one 1).seq := by decide
theorem witness_cursor : CursorSound (asking .seek [2] (holding [one 1])) ∧
    ((next (.seek .a) (asking .seek [2] (holding [one 1]))).port .a).cursor ≠ ((holding [one 1]).port .a).cursor := by
  refine ⟨fun p => by cases p <;> decide, by decide⟩
/-- A flag in the clear-on-fetch set, with a STATUS response whose fetch is complete. -/
def fetched : State := running.modPort .a fun u => { u with
  flags := 4, clearSet := 4, fetchDue := true, response := some ⟨.ok, [], some .status, .status 0 0 0, false⟩ }
theorem witness_flag_cleared : flagSet (fetched.port .a) .link = true ∧ flagSet ((next (.fetchComplete .a) fetched).port .a) .link = false := by
  decide
theorem witness_read_next : waits .a .readNext [32] (asking .readNext [32] running) ∧ (32 : Word).toNat ≤ 32 ∧ 1 ≤ (1 : Word).toNat := by decide
theorem witness_seek : waits .a .seek [0, 0, 1] (asking .seek [0, 0, 1] running) ∧ running.journal.tailSeq ≤ join32 (0 : Word) 1 ∧
    join32 (0 : Word) 0 < running.journal.tailSeq ∧ running.journal.headSeq < join32 (0 : Word) 2 ∧ 2 < (3 : Word).toNat := by decide
theorem witness_request_frame : frameWf [0x0500] 0 = true ∧ requestOfCode 5 ≠ none ∧ requestOfCode 0 = none ∧ requestOfCode 24 = none ∧
    requestOfCode 23 = some .portConfig ∧ frameWf [] 1 = true := by decide
/-- A request frame of one body word whose header alone has come in. -/
def begunFrame : PortUnit := { PortUnit.reset with intake := some [0x0501] }
theorem witness_follows : follows [0x0501] PortUnit.reset ∧ follows [0x0501, 5] begunFrame ∧ ¬ follows [0xFFFF] begunFrame ∧
    ¬ follows [0xFEFE, 0] begunFrame ∧ ¬ follows [word (256 * 7)] begunFrame ∧ follows [word (256 * 23 + 3), 1, 2, 3] PortUnit.reset ∧
    ¬ follows [word (256 * 23)] begunFrame := by decide
theorem witness_fetch : (running.port .a).waiting = none ∧ (fetched.port .a).response = some ⟨.ok, [], some .status, .status 0 0 0, false⟩ ∧
    (fetched.port .a).fetchDue = true := by decide
theorem witness_divider : ((running.modPort .a fun u => { u with arrivals := [.event] }).port .a).arrivals = .event :: [] ∧
    (running.port .a).kinds.getLsbD (kindCode .event - 1) = true ∧ (running.port .a).kinds.getLsbD (kindCode .mark - 1) = false ∧
    (running.port .a).divider ≤ (running.port .a).recordCount + 1 := by decide

/-! Settings -/

theorem witness_set_idle : waits .a .set (word (itemCode .dipThreshold) :: [850]) (setting .dipThreshold [850] .reset) ∧
    IntervalIdle (setting .dipThreshold [850] .reset) ∧
    accepts .dipThreshold [850] (settingsOf .reset) = some ({ settingsOf .reset with dip := 850 }, false) ∧
    (accepts .intrThreshold [900] (settingsOf .reset)).isSome = true ∧ (accepts .syncA [0] (settingsOf .reset)).isNone = true := by decide
theorem witness_set_row : waits .a .set [18, 0] (asking .set [18, 0] .reset) ∧ itemOfCode 18 = some .probe ∧ itemOfCode 0 = none := by decide
theorem witness_set_survey : waits .a .set (word (itemCode .baud) :: [0, 9600]) (setting .baud [0, 9600] running) ∧
    JournalSound running.journal ∧ SettingsSound (settingsOf running) ∧ (makeRoom 1 running).isSome = true ∧ planIs 1 0 running ∧
    IntervalIdle running ∧ (accepts .baud [0, 9600] (settingsOf running)).isSome = true := by decide
/-- A receiver in this state while a survey is in state x. -/
def receiving (l : LinkState) (x : SurveyState) : State := { inState x with link := { LinkUnit.reset with state := l } }
theorem witness_sync_change_in_a_survey : isRunning (receiving .locked .running) ∧ ¬ isRunning (receiving .locked .stopped) ∧
    ¬ isRunning { stopping with link := (receiving .locked .running).link } ∧ planIs 1 0 (receiving .locked .stopped) ∧
    planIs 1 0 (receiving .confirm .running) ∧
    accepts .syncA [5] (settingsOf (receiving .locked .running)) = some ({ settingsOf .reset with syncA := 5 }, false) := by decide
/-- A sync word changed in LOCKED: HUNT, LINK, and MARK LINK_DOWN of reason SYNC_CHANGE after the SETTING record (R13, R45, R57). -/
theorem test_sync_change_ends_the_lock :
    (let t := next (.setSyncA .a) (setting .syncA [5] (receiving .locked .running))
     (t.link.state, t.portA.flags &&& 4, t.journal.records.map Record.kind, t.journal.records.getLast?.map Record.body))
      = (.hunt, 4, [.setting, .mark], some (.mark (.linkDown .syncChange 0 0))) := by decide
def probeBody : List Word := [0, 0x0103, 20000, 0]
theorem witness_probe_set : waits .a .probeSet probeBody (asking .probeSet probeBody running) ∧
    (probeKindOfCode ((0x0103 : Word).toNat / 256)).map (kindAllowed 0) = some true ∧ running.survey.state ≠ .idle ∧
    probeKindOfCode ((0x0903 : Word).toNat / 256) = none := by decide
/-- Channel 0 is settled and present. -/
def fitted : State := { running with kit := { KitUnit.reset with
  sense := KitUnit.reset.sense.set 0 false, settled := KitUnit.reset.settled.set 0 true, present := KitUnit.reset.present.set 0 true } }
/-- An entry of kind NONE on a present channel: absent at once, its mark of cause ENTRY after the SETTING record (R131, R134). -/
theorem test_probe_set_removes_a_probe :
    (let t := next (.probeSet .a) (asking .probeSet [0, 0, 0, 0] fitted)
     (t.kit.present.c0, t.portB.flags &&& 0x40, t.flight.probeNotices, t.journal.records.getLast?.map Record.body))
      = (false, 0x40, [⟨0, true, false⟩], some (.mark (.probeOut 0 .none true 0))) := by decide
/-- A changed polarity starts the debounce timer at 50 ms, and present stays (R131, R132). -/
theorem test_probe_set_polarity :
    (let t := next (.probeSet .a) (asking .probeSet [0, 0x0103, 20000, 0] fitted)
     (t.kit.timers.c0, t.kit.present.c0, t.journal.headSeq)) = (some 50, true, 2) := by decide
def sixWords : List Word := [0, 1, 20000, 1, 0, 0]
theorem witness_probe_set_of_six : waits .a .probeSet sixWords (asking .probeSet sixWords .reset) ∧
    probeGiven sixWords = some (0, ⟨.voltageLead, some 20000, true, true, 0⟩) ∧ probeGiven probeBody = probeGiven sixWords ∧
    kindAllowed 0 .voltageLead = true := by decide
theorem witness_sync_change : waits .a .set [word (itemCode .syncA), 5] (asking .set [word (itemCode .syncA), 5] .reset) ∧
    accepts .syncA [5] (settingsOf .reset) = some ({ settingsOf .reset with syncA := 5 }, false) ∧
    { settingsOf .reset with syncA := 5 } ≠ settingsOf .reset := by decide
theorem witness_supply : waits .a .set [word 19, 1] (asking .set [word 19, 1] .reset) ∧ State.reset.survey.state = .idle := by decide
/-- Interval 40 with its first two windows taken. -/
def inInterval : State :=
  { running with agg := { AggregatorUnit.reset with
      length := 15, current := some 40, curN := some 15, first := some 600, highest := some 601, aggregated := 2 } }
theorem witness_split : waits .a .set (word (itemCode .intervalLength) :: [20]) (setting .intervalLength [20] inInterval) ∧
    accepts .intervalLength [20] (settingsOf inInterval) = some ({ settingsOf inInterval with length := 20 }, false) ∧
    { settingsOf inInterval with length := 20 } ≠ settingsOf inInterval ∧ SettingsSound (settingsOf inInterval) ∧
    inInterval.journal.headSeq < 0xFFFFFEFE ∧ 32 ≤ inInterval.journal.free ∧ lossPending inInterval.journal = false := by decide
def edgesBody : List Word := [100, 400, 700, 900, 1000, 1100, 1300]
theorem witness_edges : waits .a .set (word 5 :: edgesBody) (asking .set (word 5 :: edgesBody) running) ∧
    edgesValid (edgesBody.map BitVec.toNat) = true ∧ (makeRoom 1 running).isSome = true := by decide
theorem witness_get : waits .a .get [word (itemCode .baud)] (asking .get [word (itemCode .baud)] running) ∧
    waits .a .get [17, 50] (asking .get [17, 50] running) ∧ waits .a .get [18, 7] (asking .get [18, 7] running) ∧
    itemOfCode 23 = none := by decide
theorem witness_settings_step : step { running with pending := [.room] } = .next running := rfl

/-! The sample link and the generator -/

theorem witness_bit_arrival : (bitTaken true LinkUnit.reset).window ≠ LinkUnit.reset.syncA ∧ (bitTaken true LinkUnit.reset).lowRun < 352 ∧
    ({ LinkUnit.reset with state := .confirm, wordPos := some 14 } : LinkUnit).wordPos = some 14 := by decide
theorem witness_sync_a : (wordEnd .hunt [] 0xC5A3).state = .hunt ∧
    (bitTaken true { LinkUnit.reset with window := 0xC5A3 >>> 1 }).window = LinkUnit.reset.syncA := by decide
theorem witness_confirm : (wordEnd .confirm [] 0x3A5C).wordPos = some 15 ∧
    (bitTaken false (wordEnd .confirm [] 0x3A5C)).window = LinkUnit.reset.syncB ∧
    (bitTaken true (wordEnd .confirm [] 0x3A99)).window = LinkUnit.reset.syncF ∧
    (bitTaken true (wordEnd .confirm [] 0xC5A3)).window = LinkUnit.reset.syncA := by decide
theorem witness_good_frame : isGoodFrame (bitTaken false (wordEnd .locked frame10 690)) (frame10 ++ [690]) := by
  simp [isGoodFrame, frame10, bitTaken, wordEnd, LinkUnit.reset]
theorem witness_word_end : (wordEnd .locked frame10 690).wordPos = some 15 ∧
    [0xC5A3, (bitTaken true (wordEnd .locked [0xC5A3] 0x3A99)).window] = [LinkUnit.reset.syncA, LinkUnit.reset.syncF] := by decide
theorem witness_bad_frame : (frame10 ++ [691]).length = 11 ∧
    ¬ isGoodFrame (bitTaken true (wordEnd .locked frame10 691)) (frame10 ++ [691]) ∧
    ({ wordEnd .locked frame10 691 with badRun := 2 } : LinkUnit).badRun = 2 :=
  ⟨rfl, fun h => absurd h.2.2.2.2 (by simp [frame10]), rfl⟩
theorem witness_break : (bitTaken false { LinkUnit.reset with lowRun := 351 }).lowRun = 352 ∧
    (bitTaken false { wordEnd .locked [] 0 with lowRun := 351 }).lowRun = 352 := by decide
theorem witness_other_kind : ({ LinkUnit.reset with state := .brk } : LinkUnit).state = .brk := rfl
theorem witness_selftest_start : waits .a .selftestStart [32768, 0, 0, 256, 1] (asking .selftestStart [32768, 0, 0, 256, 1] running) ∧
    isRunning running ∧ running.gen.running = false := by decide
def selftest : State :=
  { running with gen := { Generator.reset with running := true, halfLeft := 1, frames := 127 }
                 link := { LinkUnit.reset with state := .loopback } }
theorem witness_selftest_stop : waits .a .selftestStop [] (asking .selftestStop [] selftest) ∧ selftest.gen.running = true ∧
    stopping.flight.stopNotices.generator = true ∧ stopping.survey.yetToFinish.detector = true := by decide
theorem witness_test_frame : selftest.gen.running = true ∧ (selftest.gen.frames + 1) % 128 = 0 ∧ selftest.gen.halfLeft ≤ 1 ∧
    (Generator.reset.frames + 1) % 128 ≠ 0 := by decide

/-! The Half-Cycle Unit -/

def silent : WinSample := ⟨.all 0, false⟩
def sampleSet : SampleSet := ⟨.all 0, false, false, 0⟩
def windowOf (n since : Nat) : State :=
  { running with
    hcu := { HalfCycleUnit.reset with window := List.replicate n silent, since := since }
    flight := { Flight.empty with hcuIn := [.set sampleSet] } }
theorem witness_sample_set : (windowOf 3 0).flight.hcuIn = .set sampleSet :: [] ∧ WindowSound (windowOf 3 0).hcu ∧
    endsHalfCycle (windowOf 3 0).hcu = false := by decide +kernel
theorem witness_boundary : WindowSound (windowOf 255 0).hcu ∧ SamplesSound (windowOf 255 0) ∧ endsHalfCycle (windowOf 255 0).hcu = true := by
  decide +kernel
theorem witness_boundary_later : WindowSound (windowOf 256 127).hcu ∧ endsHalfCycle (windowOf 256 127).hcu = true := by decide +kernel
theorem witness_live : waits .a .live [] (asking .live [] running) ∧ waits .a .counters [] (asking .counters [] running) := by decide

/-! The detector and the capture -/

def valueOf (r : Nat) : HalfValue := ⟨5, false, ⟨some ⟨r, false, false, true⟩, none, none, none⟩, 900⟩
def noChannel : HalfValue := ⟨5, false, .all none, 900⟩
def lowIn (x : CtxState) : DetContext :=
  { DetContext.reset ⟨900, 100, 20⟩ with
    state := x, startHc := 3, lastValue := 4, extremes := ⟨some 610, none, none, none⟩, involved := ⟨true, false, false, false⟩
    link := .number 1, holdLeft := 1 }
def detecting (c : DetContext) (v : HalfValue) : State :=
  { running with det := { DetectorUnit.reset with low := c }, flight := { Flight.empty with values := [⟨v, 0⟩] } }
theorem witness_value : (detecting (lowIn .opened) (valueOf 950)).flight.values = ⟨valueOf 950, 0⟩ :: [] ∧
    isRunning (detecting (lowIn .opened) (valueOf 950)) ∧ dueOn (detecting (lowIn .opened) (valueOf 950)) (valueOf 950) .low = false ∧
    opensOn (detecting (lowIn .idle) (valueOf 610)) (valueOf 610) .low = true := by decide
theorem witness_due_hold_off : dueOn (detecting (lowIn .closing) (valueOf 950)) (valueOf 950) .low = true ∧
    ((detecting (lowIn .closing) (valueOf 950)).ctx .high).state = .idle ∧
    opensOn (detecting (lowIn .closing) (valueOf 950)) (valueOf 950) .high = false ∧ someSeen (valueOf 950) (fun _ => true) = true := by decide
theorem witness_due_at_once : dueOn { detecting (lowIn .opened) (valueOf 950) with
    det := { DetectorUnit.reset with low := lowIn .opened, holdOff := 0 } } (valueOf 950) .low = true := by decide
theorem witness_due_cut : dueOn (detecting (lowIn .opened) noChannel) noChannel .low = true ∧
    dueOn (detecting (lowIn .closing) noChannel) noChannel .low = true ∧ someSeen noChannel (fun _ => true) = false := by decide
theorem witness_record : (lowIn .closing).extremes.get (0 : Fin 4) ≠ none := by decide
/-- The receiver has lost its lock while LOW is OPEN; the notice is on its way. -/
def lossSeen : State :=
  { running with link := { LinkUnit.reset with losses := 1 }, det := { DetectorUnit.reset with low := lowIn .opened }
                 flight := { Flight.empty with capIn := [.loss] } }
theorem witness_source_loss : lossSeen.det.losses < lossSeen.link.losses ∧ (∀ m ∈ lossSeen.flight.values, lossSeen.det.losses < m.era) ∧
    lossSeen.survey.state = .running ∧ lossSeen.flight.capIn = .loss :: [] := by decide
theorem witness_source_loss_again : stopping.survey.stopPending ≠ .none ∧
    ({ stopping with link := lossSeen.link, det := lossSeen.det }).det.losses <
      ({ stopping with link := lossSeen.link, det := lossSeen.det }).link.losses := by decide
theorem witness_hcu_loss : ({ running with flight := { Flight.empty with hcuIn := [.loss] } }).flight.hcuIn = .loss :: [] := rfl
def waitingRecord : PendingRec :=
  ⟨.dip, 3, 5, 2, 0, 0, ⟨900, 100, 20⟩, 610, 0, ⟨true, false, false, false⟩, ⟨some 610, none, none, none⟩, 0, clearFlags, .awaiting, none⟩
theorem witness_answer_to_record : [(⟨.low, .started 1⟩ : TriggerAnswer)] = [] ++ ⟨.low, .started 1⟩ :: [] ∧
    ({ lowIn .idle with pendingRecs := [waitingRecord] } : DetContext).pendingRecs = [] ++ waitingRecord :: [] ∧
    waitingRecord.link = .awaiting := by decide
theorem witness_answer_to_context : ({ lowIn .opened with link := .awaiting } : DetContext).link = .awaiting ∧
    (lowIn .opened).state ≠ .idle ∧ (lowIn .opened).pendingRecs = [] := by decide
theorem witness_end_notice : [(⟨.low, 1, ⟨some 9, 2, false⟩⟩ : EndNotice)] = [] ++ ⟨.low, 1, ⟨some 9, 2, false⟩⟩ :: [] ∧
    running.survey.state = .running ∧ running.flight.answers = [] := by decide
theorem witness_probe_notice :
    ({ running with flight := { Flight.empty with probeNotices := [⟨0, true, false⟩] } }).flight.probeNotices = ⟨0, true, false⟩ :: [] := rfl
/-- A capture in progress with P 2 and Q 6 that waits for its first post-trigger cycle. -/
def capturing (count : Nat) : State :=
  { running with
    cap := { CaptureUnit.reset with
      capturing := true, number := 1, linkedLow := true, cycle0 := some 0
      cur := ⟨count, .all (List.replicate ((count + 3) / 4) 0), false, false, false⟩ }
    flight := { Flight.empty with capIn := [.set sampleSet], triggers := [⟨.high, 0⟩] } }
theorem witness_ring : (capturing 0).flight.capIn = .set sampleSet :: [] ∧ RingSound (capturing 0).cap := by decide
theorem witness_ring_cycle : RingSound (capturing 255).cap ∧ (capturing 255).cap.cur.count = 255 ∧
    (capturing 255).cap.cycle0 = some 0 ∧ (capturing 255).cap.capturing = true ∧ (capturing 255).cap.refused = false ∧
    (capturing 255).cap.done < 0 + (capturing 255).cap.q := by decide +kernel
theorem witness_refusal : ({ (capturing 0).cap with refused := true } : CaptureUnit).capturing = true ∧
    ({ (capturing 0).cap with refused := true } : CaptureUnit).refused = true := by decide
theorem witness_trigger : (capturing 0).flight.triggers = [] ++ ⟨.high, 0⟩ :: [] ∧ (capturing 0).cap.linkedHigh = false ∧
    RingSound CaptureUnit.reset ∧ CaptureUnit.reset.capturing = false ∧ CaptureUnit.reset.stopTaken = false := by decide

/-! Harmonic intervals and the stop -/

def frameBody : List Word := [0, 601, 1, 2, 10000, 0]
theorem witness_post_frame : waits .a .postFrame frameBody (asking .postFrame frameBody running) ∧
    [10000, 0].length = maskCount ((1 : Word).setWidth 8) * (2 : Word).toNat ∧ maskCount running.agg.mask * running.agg.kept ≤ 400 ∧
    join32 (0 : Word) 601 ≤ 601 ∧ inInterval.agg.highest = some 601 := by decide
theorem witness_interval_record : AccumulatorsSound AggregatorUnit.reset := by
  refine ⟨fun c => ?_, fun c => ?_⟩ <;> revert c <;> decide
theorem witness_opening : ({ running with flight := { Flight.empty with openings := [.low] } }).flight.openings = .low :: [] := rfl
theorem witness_stop : stopping.survey.state = .running ∧ stopping.survey.stopPending ≠ .none ∧ stopping.flight.stopNotices.detector = true ∧
    stopping.flight.stopNotices.capture = true ∧ stopping.flight.stopNotices.aggregator = true ∧
    maskCount stopping.agg.mask * stopping.agg.kept ≤ 400 := by decide

/-- The generator is the last block yet to finish. -/
def generatorLeft : State :=
  { selftest with
    survey := { stopping.survey with yetToFinish := ⟨false, false, false, true⟩ }
    flight := { Flight.empty with stopNotices := ⟨false, false, false, true⟩ } }
theorem witness_generator_last : generatorLeft.survey.state = .running ∧ generatorLeft.survey.stopPending ≠ .none ∧
    generatorLeft.flight.stopNotices.generator = true ∧ generatorLeft.gen.running = true ∧ generatorLeft.link.state = .loopback ∧
    (next .stopNoticeGenerator generatorLeft).survey.state = .stopped := by decide

/-! Kit lines and notes -/

theorem witness_sense : running.kit.sense.get (7 : Fin 8) ≠ false ∧ (running.kit.timers.set 0 (some 0)).get (0 : Fin 8) = some 0 := by decide
theorem witness_supply_restore : waits .a .supplyRestore [] (asking .supplyRestore [] { running with
    kit := { KitUnit.reset with faulted := true } }) ∧ KitUnit.reset.faultActive = false := by decide
def beginBody : List Word := [3, 15, 0, 0, 9, 0, 1, 1, 0, 1, 8]
theorem witness_note_begin : waits .a .noteBegin beginBody (asking .noteBegin beginBody running) ∧
    beginBody = [3, 15, 0] ++ [0, 9] ++ [0, 1] ++ [word 1] ++ [0, 1] ++ [8] ∧
    [Category.site, .load, .weather, .probe, .other][(0 : Word).toNat]? = some .site ∧ beginBody.length = 3 + 4 + 1 + 2 * 1 + 1 ∧
    ([0] : List Word).length ≠ 3 + 0 + 1 + 2 * (([0] : List Word).getD 3 0).toNat + 1 := by decide
def noteData (parts last : Nat) : NoteData := ⟨1, .site, none, none, [1], parts, last, [], 0, false, 1⟩
theorem witness_note_part : waits .a .notePart (1 :: textWords [0x41]) (asking .notePart (1 :: textWords [0x41])
    { holding [one 1] with noteA := .assembling (noteData 2 0) }) ∧ (1 : Word).toNat = (noteData 2 0).lastPart + 1 ∧
    (1 : Word).toNat < (noteData 2 0).parts ∧ ([] : List Word).length ≠ 2 + ((([] : List Word).getD 1 0).toNat + 1) / 2 ∧
    64 < (([1, 65] : List Word).getD 1 0).toNat := by decide
/-- The last part of a note that cites record 1 and supersedes a note of number 2. -/
def lastPart : State :=
  asking .notePart (2 :: textWords [0x41]) { holding [one 1, noteRecord 2] with
    noteA := .assembling { noteData 2 1 with supersedes := some 2 } }
theorem witness_last_part : waits .a .notePart (2 :: textWords [0x41]) lastPart ∧ lastPart.survey.number = 1 ∧
    lastPart.journal.headSeq < 0xFFFFFF00 ∧ lastPart.journal.tailSeq ≤ 1 ∧ 2 < lastPart.journal.headSeq ∧
    (lastPart.journal.records.find? fun r => r.seq == 2) = some (noteRecord 2) ∧ (noteRecord 2).kind = .note ∧
    (makeRoom (slotsFor (24 + 16 * 1 + 1)) lastPart).isSome = true ∧ planIs (slotsFor (24 + 16 * 1 + 1)) 0 lastPart ∧
    JournalSound lastPart.journal := by decide

/-! Printing -/

theorem witness_submit : waits .a .printSubmit [1, 1, 0, 1, 0] (asking .printSubmit [1, 1, 0, 1, 0] (holding [one 1])) ∧
    readSubmit [1, 1, 0, 1, 0] = some ⟨.all, 1, 0, 1, 0⟩ ∧ readSubmit [3, 1, 0, 1, 0] = some ⟨.unknown, 1, 0, 1, 0⟩ ∧
    ([0, 1, 0, 1, 0] : List Word).length ≠ 9 ∧ QueueSound (holding [one 1]).comp ∧
    (holding [one 1]).comp.queue.length < 8 := by decide
theorem witness_cancel : waits .a .printCancel [7] (asking .printCancel [7] (served job (lineIn .sending))) ∧
    ((served job (lineIn .sending)).comp.queue.map Job.number).Nodup ∧ (served job (lineIn .sending)).comp.queue = [] ++ job :: [] ∧
    job.closing = .none ∧ job.state = .printing := by decide
def second : Job := { job with number := 8, state := .queued, position := .header, began := false }
theorem witness_cancel_queued : waits .a .printCancel [8] (asking .printCancel [8] { holding [one 1, one 2] with
      comp := { ComposerUnit.reset with queue := [job, second] } }) ∧ [job, second] = [job] ++ second :: [] ∧
    ([job, second].map Job.number).Nodup ∧ second.number = (8 : Word).toNat ∧ second.closing = .none := by decide
theorem witness_cancel_stalled : waits .a .printCancel [7] (asking .printCancel [7] (served { job with state := .stalled } (lineIn .stalled))) ∧
    (served { job with state := .stalled } (lineIn .stalled)).comp.queue = [] ++ { job with state := .stalled } :: [] := by decide
theorem witness_cancel_suspended :
    waits .a .printCancel [7] (asking .printCancel [7] (served { job with state := .suspended } (lineIn .suspended))) ∧
    (served { job with state := .suspended } (lineIn .suspended)).comp.queue = [] ++ { job with state := .suspended } :: [] := by decide
theorem witness_cancel_decided : waits .a .printCancel [7] (asking .printCancel [7]
      (served { job with closing := .yield, hold := none } (lineIn .sending))) ∧
    ({ job with closing := .yield, hold := none } : Job).closing ≠ .none := by decide
theorem witness_resume : waits .a .printResume [7] (asking .printResume [7] (served { job with state := .suspended } (lineIn .suspended))) ∧
    (served { job with state := .suspended } (lineIn .suspended)).comp.queue.head? = some { job with state := .suspended } := by decide
theorem witness_list : waits .a .printList [] (asking .printList [] running) := by decide
theorem witness_room : (lineIn .sending).state = .sending ∧ (lineIn .sending).fifo.length < 64 ∧ ComposerUnit.reset.asked = false ∧
    wallTime running.survey.steps 0 = some (9000, 0) := by decide
/-- The shift register holds the last byte of what was sent. -/
def lastByte : LineUnit := { lineIn .sending with shift := some ⟨0x0A, 19200, false⟩, outstanding := true }
theorem witness_byte_end : lastByte.shift ≠ none ∧ lastByte.fifo = [] ∧ lastByte.outstanding = true ∧ lastByte.state = .sending ∧
    lastByte.leaving = false ∧ JournalSound (served job lastByte).journal ∧ job.position = .record (2 - 1) ∧
    job.last < (served job lastByte).journal.headSeq := by decide
theorem witness_footer : ({ job with position := .footer } : Job).current ≤ ({ job with position := .footer } : Job).copies := by decide
theorem witness_closing : ({ job with position := .closing, closing := .cancel } : Job).closing ≠ .none := by decide
theorem witness_line : ({ ComposerUnit.reset with asked := true } : ComposerUnit).asked = true ∧ (lineIn .idle).leaving = false ∧
    (lineIn .idle).ready ≠ false := by decide
theorem witness_stall_timer : ({ lineIn .stalled with stall := some 0 } : LineUnit).stall = some 0 ∧
    (served { job with state := .stalled } { lineIn .stalled with stall := some 0 }).comp.queue = { job with state := .stalled } :: [] := by
  decide
theorem witness_status : ({ lineIn .inquiring with holding := some 0x02 } : LineUnit).holding = some 0x02 ∧ (0x02 : Byte).getLsbD 1 = true ∧
    (lineIn .stalled).ready = true := by decide

/-- A job for latest notes only stalled at record 1, a NOTE that record 2 has superseded. -/
def latest : Job := { job with state := .stalled, last := 2, latestOnly := true }
def stalledAtNote : State :=
  { holding [{ noteRecord 1 with superseded := true }, noteRecord 2] with
    comp := { ComposerUnit.reset with queue := [latest] }, line := { lineIn .stalled with holding := some 0 } }
theorem witness_restart_filter : prints latest { noteRecord 1 with superseded := true } = false ∧ JournalSound stalledAtNote.journal ∧
    latest.last < stalledAtNote.journal.headSeq := by decide
/-- The NOTE is passed at the restart, and printing goes on with record 2 (R160). -/
theorem test_superseded_note_is_passed :
    (next .statusByte stalledAtNote).comp.queue.map Job.position = [.record 2] := by decide +kernel

/-! What every step keeps -/

/-- A running survey with a tick at the front of its queue. -/
def ticking : State := { running with pending := [.surveyClockTick] }
theorem witness_a_step : ∃ t, step ticking = .next t := ⟨_, rfl⟩
theorem witness_ranges : SettingsSound (settingsOf ticking) ∧ LinkSound ticking ∧ SamplesSound ticking ∧ WindowSound ticking.hcu ∧
    RingSound ticking.cap := by decide
theorem witness_journal : JournalSound ticking.journal ∧ StopSound ticking ∧ TimeSound ticking ∧ IdleEmpty ticking := by decide
theorem witness_cursors : CursorSound ticking := fun p => by cases p <;> decide
theorem witness_stopping : StopSound stopping ∧ IntervalIdle stopping := by decide
theorem witness_units : intervalSound inInterval.agg = true ∧ PortSound ticking.portA ∧ SupplySound ticking.kit ∧
    LineSound ticking.line ∧ noteSound (.assembling (noteData 2 0)) = true := by decide
theorem witness_queue : QueueSound (served job (lineIn .sending)).comp ∧ JournalSound (served job (lineIn .sending)).journal ∧
    HoldsSound (served job (lineIn .sending)) := by
  refine ⟨by decide, by decide, fun j hj _ => ?_⟩
  simp only [served, List.mem_singleton] at hj
  subst hj
  decide
theorem witness_presence : PresenceSound running.kit := by decide

end Sys2Proof.Tests
end

/-! The statements on SURVEY_START and SURVEY_CLEAR (R2, R3, R7): how a text field reads back, what each check of the two commands
answers, and the state equations of an accepted start and an accepted clear. -/

namespace Sys2Proof.Machine

open Sys2Proof

/-! ### Text fields (R211) -/

theorem wordBytes_cons (h l : Byte) (ws : List Word) : wordBytes ((h ++ l : Word) :: ws) = h :: l :: wordBytes ws := by
  have hh : (h ++ l : Word).extractLsb' 8 8 = h := BitVec.extractLsb'_append_eq_left
  have hl : (h ++ l : Word).extractLsb' 0 8 = l := BitVec.extractLsb'_append_eq_right
  simp [wordBytes, hh, hl]

theorem length_wordBytes (ws : List Word) : (wordBytes ws).length = 2 * ws.length := by
  induction ws with
  | nil => rfl
  | cons w ws ih => simp only [wordBytes, List.flatMap_cons, List.length_append, List.length_cons, List.length_nil] at ih ⊢; omega

theorem length_pairWords (b : List Byte) : (pairWords b).length = wordsFor b.length := by
  induction b using pairWords.induct with
  | case1 => rfl
  | case2 h => simp [pairWords, wordsFor]
  | case3 h l rest ih => simp only [pairWords, List.length_cons, ih, wordsFor]; omega

/-- The bytes of a text come back from its words; after an odd last byte one pad byte is left over. -/
theorem take_wordBytes_pairWords (b : List Byte) : (wordBytes (pairWords b)).take b.length = b := by
  induction b using pairWords.induct with
  | case1 => rfl
  | case2 h => simp [pairWords, wordBytes_cons]
  | case3 h l rest ih => simp [pairWords, wordBytes_cons, ih]

/-- A text field of a countable length reads back as its bytes, whatever follows it. -/
theorem readText_textWords (b : List Byte) (rest : List Word) (hb : b.length < 65536) :
    readText (textWords b ++ rest) = some (b, rest) := by
  have hn : (word b.length).toNat = b.length := by simp [word, Nat.mod_eq_of_lt hb]
  have hp := length_pairWords b
  simp only [textWords, List.cons_append, readText, hn, ← hp, List.take_left, List.drop_left, take_wordBytes_pairWords]
  rw [if_pos (by simp)]

/-- A text field that reads takes its count and the words for that many bytes. -/
theorem readText_some {body rest : List Word} {b : List Byte} (h : readText body = some (b, rest)) :
    b.length = (body.headD 0).toNat ∧ body.length = 1 + wordsFor (body.headD 0).toNat + rest.length := by
  cases body with
  | nil => simp [readText] at h
  | cons n ws =>
    simp only [readText] at h
    split at h
    · rename_i hw
      obtain ⟨rfl, rfl⟩ := by simpa using h
      simp only [List.length_take, length_wordBytes, List.headD_cons, List.length_cons, List.length_drop]
      simp only [wordsFor] at hw ⊢
      omega
    · simp at h

/-! ### The body of SURVEY_START (R2) -/

theorem readStart_textWords (site : List Byte) (date h l freq : Word) (hs : site.length < 65536) :
    readStart (textWords site ++ [date, h, l, freq]) = some ⟨site, date.toNat, join32 h l, freq.toNat⟩ := by
  rw [readStart, readText_textWords site _ hs]

/-- A body that reads is as long as its byte count says, and its site id has that many bytes. -/
theorem readStart_some {body : List Word} {v : StartValues} (h : readStart body = some v) :
    v.site.length = (body.headD 0).toNat ∧ body.length = 1 + wordsFor (body.headD 0).toNat + 4 := by
  unfold readStart at h
  split at h
  · rename_i site date hi lo freq hr
    obtain rfl := by simpa using h
    exact readText_some hr
  · simp at h

/-! ### The checks of SURVEY_START (R2) -/

section Checks

variable {v : StartValues} {s : State}

theorem startRefusal_withdrawn (p : Port) : startRefusal v (withdrawn p s) = startRefusal v s := by simp [startRefusal]

theorem startRefusal_of_running (h : s.survey.state = .running) : startRefusal v s = some .wrongState := by
  rw [startRefusal, if_pos h]

theorem startRefusal_of_queue (h : s.survey.state = .stopped) (hq : s.comp.queue ≠ []) : startRefusal v s = some .printActive := by
  simp [startRefusal, h, hq]

theorem startRefusal_of_bad_value (hr : s.survey.state ≠ .running) (hq : s.survey.state = .stopped → s.comp.queue = [])
    (hv : (v.freq ≠ 50 ∧ v.freq ≠ 60) ∨ 86399999 < v.time) : startRefusal v s = some .badValue := by
  rw [startRefusal, if_neg hr, if_neg fun h => h.2 (hq h.1)]
  by_cases hf : v.freq ≠ 50 ∧ v.freq ≠ 60
  · rw [if_pos hf]
  · have ht : Config.dayMs ≤ v.time := hv.resolve_left hf
    rw [if_neg hf, if_pos ht]

theorem startRefusal_none (hr : s.survey.state ≠ .running) (hq : s.survey.state = .stopped → s.comp.queue = [])
    (hf : v.freq = 50 ∨ v.freq = 60) (ht : v.time ≤ 86399999) : startRefusal v s = none := by
  have hd : ¬ Config.dayMs ≤ v.time := Nat.not_le.2 (Nat.lt_succ_of_le ht)
  rw [startRefusal, if_neg hr, if_neg fun h => h.2 (hq h.1), if_neg (by omega), if_neg hd]

end Checks

/-! ### What SURVEY_START answers -/

section Start

variable {p : Port} {s : State} {body : List Word} {v : StartValues}

theorem exec_surveyStart (p : Port) (s : State) : exec (.surveyStart p) s = execSurveyStart p s := rfl

theorem exec_surveyStart_bad_request (hw : waits p .surveyStart body s)
    (hb : ∀ v, readStart body = some v → 16 < v.site.length) :
    exec (.surveyStart p) s = .next (answered p .surveyStart .badRequest [] s) := by
  rw [exec_surveyStart, execSurveyStart, takeRequest_of_waits _ hw]
  cases hr : readStart body with
  | none => simp only [respond_withdrawn]
  | some v => simp only [if_pos (hb v hr), respond_withdrawn]

theorem exec_surveyStart_refused {code : ResultCode} (hw : waits p .surveyStart body s) (hr : readStart body = some v)
    (hs : v.site.length ≤ 16) (hc : startRefusal v s = some code) :
    exec (.surveyStart p) s = .next (answered p .surveyStart code [] s) := by
  rw [exec_surveyStart, execSurveyStart, takeRequest_of_waits _ hw]
  simp only [hr, if_neg (Nat.not_lt.2 hs), startRefusal_withdrawn, hc, respond_withdrawn]

theorem exec_surveyStart_accepted (hw : waits p .surveyStart body s) (hr : readStart body = some v)
    (hs : v.site.length ≤ 16) (hc : startRefusal v s = none) :
    exec (.surveyStart p) s = .next (respond p .surveyStart .ok [] (startSurvey v (withdrawn p s))) := by
  rw [exec_surveyStart, execSurveyStart, takeRequest_of_waits _ hw]
  simp only [hr, if_neg (Nat.not_lt.2 hs), startRefusal_withdrawn, hc]

end Start

/-! ### What SURVEY_CLEAR answers (R7) -/

section Clear

variable {p : Port} {s : State} {body : List Word}

theorem exec_surveyClear (p : Port) (s : State) : exec (.surveyClear p) s = execSurveyClear p s := rfl

theorem exec_surveyClear_bad_request (hw : waits p .surveyClear body s) (hb : body ≠ []) :
    exec (.surveyClear p) s = .next (answered p .surveyClear .badRequest [] s) := by
  rw [exec_surveyClear, execSurveyClear, takeRequest_of_waits _ hw, if_pos hb, respond_withdrawn]

theorem exec_surveyClear_wrong_state (hw : waits p .surveyClear [] s) (hs : s.survey.state ≠ .stopped) :
    exec (.surveyClear p) s = .next (answered p .surveyClear .wrongState [] s) := by
  rw [exec_surveyClear, execSurveyClear, takeRequest_of_waits _ hw, if_neg (not_not.2 rfl), withdrawn_survey, if_pos hs,
    respond_withdrawn]

theorem exec_surveyClear_print_active (hw : waits p .surveyClear [] s) (hs : s.survey.state = .stopped) (hq : s.comp.queue ≠ []) :
    exec (.surveyClear p) s = .next (answered p .surveyClear .printActive [] s) := by
  rw [exec_surveyClear, execSurveyClear, takeRequest_of_waits _ hw, if_neg (not_not.2 rfl), withdrawn_survey, if_neg (not_not.2 hs),
    withdrawn_comp, if_pos hq, respond_withdrawn]

theorem exec_surveyClear_accepted (hw : waits p .surveyClear [] s) (hs : s.survey.state = .stopped) (hq : s.comp.queue = []) :
    exec (.surveyClear p) s = .next (respond p .surveyClear .ok [] (clearSurvey (withdrawn p s))) := by
  rw [exec_surveyClear, execSurveyClear, takeRequest_of_waits _ hw, if_neg (not_not.2 rfl), withdrawn_survey, if_neg (not_not.2 hs),
    withdrawn_comp, if_neg (not_not.2 hq)]

end Clear

/-! ### The state after an accepted start and an accepted clear (R3, R7) -/

theorem restartPort_eq (u : PortUnit) :
    restartPort u =
      { u with
        response := if u.response.map Response.kind == some (some .readNext) then none else u.response
        fetchDue := if u.response.map Response.kind == some (some .readNext) then false else u.fetchDue
        cursor := 1, missed := 0, missedToClear := 0 } := by
  rw [restartPort, discardReadNext_eq]

/-- The mark of a start with a site id in its field of 16 bytes takes one slot (R17, R210). -/
theorem bodySlots_startMark {s : State} (h : s.survey.siteId.length ≤ 16) : bodySlots (startMark s) = 1 := by
  simp [startMark, bodySlots, bodyLen, markLen, slotsFor, Config.headerBytes, Config.slotBytes, Nat.max_eq_right h]

/-- The low-space warning is armed, or stays armed, above its mark (R32). -/
theorem checkLow_of_room {s : State} (h : Config.lowSpace ≤ s.journal.free) :
    checkLow s = s.setJournal { s.journal with armed := true } := by
  rw [checkLow, if_neg (Nat.not_lt.2 h)]

/-- The nine steps of R3 as one state equation: the mark is record 1 of the emptied journal, and each port is told of it. -/
theorem startSurvey_eq {v : StartValues} (s : State) (hs : v.site.length ≤ 16) :
    startSurvey v s = { s with
      survey := { s.survey with
        state := .running, stopPending := .none, number := (s.survey.number + 1) % 65536, siteId := v.site
        startDate := v.date, startTime := v.time, freq := v.freq, clock := 0, steps := [⟨0, v.date, v.time⟩] }
      journal := { s.journal with
        records := [⟨1, false, false, .survey, 0, (s.survey.number + 1) % 65536,
          .mark (.surveyStart v.site v.date v.time v.freq (maskOf s.kit.present.get) s.kit.faulted s.kit.enable)⟩]
        tailSeq := 1, tailSlot := 0, headSeq := 2, headSlot := 1, free := 8191
        lossEvent := 0, lossWave := 0, lossInterval := 0, lossMark := 0, armed := true }
      hcu := restartCounters s.hcu, agg := clearInterval none s.agg, cap := restartCapture s.cap
      comp := { s.comp with lastPrinted := 0 }
      portA := { restartPort s.portA with arrivals := (restartPort s.portA).arrivals ++ [.mark] }
      portB := { restartPort s.portB with arrivals := (restartPort s.portB).arrivals ++ [.mark] } } := by
  have hslots : bodySlots (startMark (startState v s)) = 1 := bodySlots_startMark hs
  have hfree : (placeRecord (startMark (startState v s)) false .survey (startState v s)).journal.free = 8191 := by
    show 8192 - bodySlots (startMark (startState v s)) = 8191
    rw [hslots]
  rw [startSurvey, checkLow_of_room (by rw [hfree]; decide), placeRecord, hslots]
  rfl

/-- The five steps of R7 as one state equation. -/
theorem clearSurvey_eq (s : State) :
    clearSurvey s = { s with
      journal := { s.journal with
        records := [], tailSeq := 1, tailSlot := 0, headSeq := 1, headSlot := 0, free := 8192
        lossEvent := 0, lossWave := 0, lossInterval := 0, lossMark := 0, armed := true }
      survey := { s.survey with state := .idle, clock := 0, steps := [] }
      hcu := { s.hcu with halfNo := 0 }
      comp := { s.comp with lastPrinted := 0 }
      portA := restartPort s.portA, portB := restartPort s.portB } := rfl

/-- Settles O6: each check by its own lemma, the accepted start by `startSurvey_eq`. -/
theorem surveyStartChecksThenBegins : Obligations.SurveyStartChecksThenBegins := by
  unfold Obligations.SurveyStartChecksThenBegins
  refine ⟨⟨fun p s body hw hb => ?malformed, fun p s site date h l freq hlen hw => ?checks⟩,
    fun p s site date h l freq hw hs hr hq hf ht => ?accepted⟩
  case malformed =>
    refine exec_surveyStart_bad_request hw fun v hv => ?_
    obtain ⟨hsite, hbody⟩ := readStart_some hv
    rw [wordsFor] at hbody
    omega
  case checks =>
    have hread := readStart_textWords site date h l freq hlen
    refine ⟨fun hlong => exec_surveyStart_bad_request hw fun v hv => ?_, fun hs => ⟨fun hrun => ?_, fun hst hq => ?_,
      fun hr hq hv => ?_⟩⟩
    · obtain rfl := by simpa [hread] using hv
      exact hlong
    · exact exec_surveyStart_refused hw hread hs (startRefusal_of_running hrun)
    · exact exec_surveyStart_refused hw hread hs (startRefusal_of_queue hst hq)
    · refine exec_surveyStart_refused hw hread hs (startRefusal_of_bad_value hr hq ?_)
      simpa [← BitVec.toNat_inj] using hv
  case accepted =>
    have hread := readStart_textWords site date h l freq (by omega)
    have hnone := startRefusal_none (v := ⟨site, date.toNat, join32 h l, freq.toNat⟩) hr hq
      (by simpa [← BitVec.toNat_inj] using hf) ht
    refine ⟨_, exec_surveyStart_accepted hw hread hs hnone, ?_⟩
    rw [startSurvey_eq _ hs]
    -- What the statement leaves open at a port is read off the state itself, so both sides of that choice agree.
    cases p <;>
      simp [respond, respondWith, withdrawn, State.modPort, State.setPort, State.port, restartPort_eq, restartCounters,
        restartCapture, clearInterval, AggregatorUnit.reset, zeroOccupancy]

/-- Settles O8: each check by its own lemma; the five steps of R7 leave the ports as `restartPort_eq` says. -/
theorem surveyClearEmptiesTheSurvey : Obligations.SurveyClearEmptiesTheSurvey := by
  unfold Obligations.SurveyClearEmptiesTheSurvey
  refine ⟨fun p s body hw hb _ _ => exec_surveyClear_bad_request hw hb, fun p s hw => ⟨exec_surveyClear_wrong_state hw,
    exec_surveyClear_print_active hw, fun hs hq => ⟨_, exec_surveyClear_accepted hw hs hq, ?_⟩⟩⟩
  rw [clearSurvey_eq]
  cases p <;> simp [respond, respondWith, withdrawn, State.modPort, State.setPort, State.port, restartPort_eq]

end Sys2Proof.Machine

/-! The statement on the attention line (R203): the eight flags are the eight places of a mask, so a mask is empty exactly when it
holds no flag. -/

namespace Sys2Proof.Machine

open Sys2Proof

/-! ### Flag masks (R202) -/

/-- The flag at a place of a mask. -/
def flagAt : Fin 8 → Flag
  | 0 => .newRecord
  | 1 => .eventOpen
  | 2 => .link
  | 3 => .print
  | 4 => .printer
  | 5 => .loss
  | 6 => .probe
  | 7 => .journalLow

@[simp] theorem flagIndex_flagAt : ∀ i : Fin 8, flagIndex (flagAt i) = i := by decide

/-- No place of a mask is without a flag: a mask is not empty exactly when it holds one of the eight. -/
theorem mask_ne_zero_iff (m : BitVec 8) : m ≠ 0 ↔ ∃ f : Flag, m.getLsbD (flagIndex f) = true := by
  constructor
  · intro hm
    by_contra hnone
    refine hm (BitVec.eq_of_getLsbD_eq fun i hi => ?_)
    have hclear := not_exists.1 hnone (flagAt ⟨i, hi⟩)
    simpa using hclear
  · rintro ⟨f, hf⟩ rfl
    simp at hf

/-- Settles O20: the line is the test of the flags under the enable mask, and a mask is empty only when it holds no flag. -/
theorem attentionFollowsEnabledFlags : Obligations.AttentionFollowsEnabledFlags := by
  unfold Obligations.AttentionFollowsEnabledFlags
  intro u
  calc attentionLine u = true
    _ ↔ u.flags &&& u.enable ≠ 0 := by simp [attentionLine]
    _ ↔ ∃ f : Flag, (u.flags &&& u.enable).getLsbD (flagIndex f) = true := mask_ne_zero_iff _
    _ ↔ ∃ f : Flag, u.flags.getLsbD (flagIndex f) = true ∧ u.enable.getLsbD (flagIndex f) = true := by
      simp only [BitVec.getLsbD_and, Bool.and_eq_true]

end Sys2Proof.Machine

/-! What an append may do, act by act (R21 to R32): every append of the model is a run of the acts below. A rule about all appends
then needs one proof for each act. -/

namespace Sys2Proof.Machine

open Sys2Proof

/-! ### The acts of an append -/

/-- One act of the Journal Manager within an append event: a plan's reclaims, a job's yield, a record placed where it fits, the
low-space warning, a record dropped, the loss counters zeroed after their mark, and a stop begun in RUNNING. -/
inductive JournalAct : State → State → Prop where
  | reclaim {s : State} {k free : Nat} {left : List Record} (h : planHere k s = some (left, free)) :
      JournalAct s (applyPlan left free s)
  | yields {s : State} (n : Nat) (h : s.journal.policy = .captureFirst) : JournalAct s (yieldJob n s)
  | place {s : State} {b : Body} (test : Bool) (o : Origin) (h : bodySlots b ≤ s.journal.free) : JournalAct s (placeRecord b test o s)
  | low (s : State) : JournalAct s (checkLow s)
  | lost (k : RecordKind) (s : State) : JournalAct s (dropRecord k s)
  | counted (s : State) : JournalAct s (s.setJournal (zeroLoss s.journal))
  | stop {s : State} {why : StopPending} (h : s.running = true) (hw : why ≠ .none) : JournalAct s (beginStop why s)

/-- Acts of the Journal Manager, one after another. -/
abbrev Appends : State → State → Prop := Relation.ReflTransGen JournalAct

theorem JournalAct.appends {s t : State} (h : JournalAct s t) : Appends s t := .single h

/-! ### Room -/

theorem planHere_free {k free : Nat} {s : State} {left : List Record} (h : planHere k s = some (left, free)) : k ≤ free := by
  obtain ⟨n, -, -, -, hk, -⟩ := planReclaim_some h
  exact hk

theorem appends_yieldUntil {k : Nat} {l : List Nat} {s t : State} (hp : s.journal.policy = .captureFirst)
    (h : yieldUntil k l s = some t) : Appends s t ∧ k ≤ t.journal.free := by
  induction l generalizing s with
  | nil =>
    simp only [yieldUntil, Option.map_eq_some_iff] at h
    obtain ⟨⟨left, free⟩, hplan, rfl⟩ := h
    exact ⟨(JournalAct.reclaim hplan).appends, planHere_free hplan⟩
  | cons n more ih =>
    simp only [yieldUntil] at h
    split at h
    · rename_i left free hplan
      obtain rfl := by simpa using h
      exact ⟨(JournalAct.reclaim hplan).appends, planHere_free hplan⟩
    · obtain ⟨hrun, hk⟩ := ih (by rwa [journal_yieldJob]) h
      exact ⟨.head (.yields n hp) hrun, hk⟩

theorem appends_makeRoom {k : Nat} {s t : State} (h : makeRoom k s = some t) : Appends s t ∧ k ≤ t.journal.free := by
  unfold makeRoom at h
  split at h
  · rename_i left free hplan
    obtain rfl := by simpa using h
    exact ⟨(JournalAct.reclaim hplan).appends, planHere_free hplan⟩
  · split at h
    · exact appends_yieldUntil ‹_› h
    · simp at h

/-! ### Records -/

theorem bodySlots_lossMark (j : JournalUnit) : bodySlots (lossMark j) = 1 := by
  simp [lossMark, bodySlots, bodyLen, markLen, slotsFor, Config.headerBytes, Config.slotBytes]

@[simp] theorem placeRecord_free (b : Body) (test : Bool) (o : Origin) (s : State) :
    (placeRecord b test o s).journal.free = s.journal.free - bodySlots b := rfl

@[simp] theorem placeLoss_free (s : State) : (placeLoss s).journal.free = s.journal.free - 1 := by
  show s.journal.free - bodySlots (lossMark s.journal) = _
  rw [bodySlots_lossMark]

theorem appends_placeLoss {s : State} (h : 1 ≤ s.journal.free) : Appends s (placeLoss s) :=
  .tail (JournalAct.place false .survey (bodySlots_lossMark s.journal ▸ h)).appends (.counted _)

theorem appends_checkLimit (s : State) : Appends s (checkLimit s) := by
  unfold checkLimit
  split
  · rename_i h
    exact (JournalAct.stop (Bool.and_eq_true_iff.1 h).1 (by decide)).appends
  · exact .refl

/-- A record placed where it fits, and the warning at its event's end. -/
theorem appends_placeRecord {b : Body} {test : Bool} {o : Origin} {s : State} (h : bodySlots b ≤ s.journal.free) :
    Appends s (checkLow (placeRecord b test o s)) := .tail (JournalAct.place test o h).appends (.low _)

theorem appends_hardwareOne (b : Body) (test : Bool) (s : State) : Appends s (hardwareOne b test s).1 := by
  have alone : Appends s (match makeRoom (bodySlots b) s with
      | some s1 => (checkLow (placeRecord b test (hardwareOrigin b) s1), some s1.journal.headSeq)
      | none => (dropRecord (bodyKind b) s, none)).1 := by
    split
    · obtain ⟨hroom, hk⟩ := appends_makeRoom ‹_›
      exact hroom.trans (appends_placeRecord hk)
    · exact (JournalAct.lost _ _).appends
  unfold hardwareOne
  dsimp only
  split
  · split
    · obtain ⟨hroom, hk⟩ := appends_makeRoom ‹_›
      refine hroom.trans ((appends_placeLoss (by omega)).trans (appends_placeRecord ?_))
      rw [placeLoss_free]; omega
    · exact alone
  · exact alone

theorem appends_hardwareAppend (b : Body) (test : Bool) (s : State) : Appends s (hardwareAppend b test s).1 :=
  (appends_hardwareOne b test s).trans (appends_checkLimit _)

theorem appends_appendMark (m : MarkBody) (s : State) : Appends s (appendMark m s) := appends_hardwareAppend _ _ _

theorem appends_appendTwoMarks (m m' : MarkBody) (s : State) : Appends s (appendTwoMarks m m' s) :=
  (appends_hardwareOne _ _ s).trans ((appends_hardwareOne _ _ _).trans (appends_checkLimit _))

theorem appends_portAppend {p : Port} {b : Body} {s t : State} (h : portAppend p b s = some t) : Appends s t := by
  simp only [portAppend, Option.map_eq_some_iff] at h
  obtain ⟨u, hroom, rfl⟩ := h
  obtain ⟨hrun, hk⟩ := appends_makeRoom hroom
  exact hrun.trans (appends_placeRecord hk)

theorem appends_appendSettled (l : List PendingRec) (s : State) : Appends s (appendSettled l s).2 := by
  induction l generalizing s with
  | nil => exact .refl
  | cons r rest ih =>
    rw [appendSettled]
    split
    · exact (appends_hardwareAppend _ _ s).trans (ih _)
    · exact .refl

end Sys2Proof.Machine

/-! What an append leaves alone. -/

namespace Sys2Proof.Machine

open Sys2Proof

/-! ### Jobs that leave or close -/

/-- The line after its job has left, or the line as it was. -/
def lineServes (l l' : LineUnit) : Prop := l' = l ∨ ∃ hasNext, l' = stopServing hasNext l

theorem headLeaves_shape (e : JobEnd) (s : State) : headLeaves e s = s ∨
    ∃ k l, lineServes s.line l ∧ headLeaves e s = raiseBoth .print { s with comp := k, line := l } := by
  unfold headLeaves
  split
  · exact .inl rfl
  · exact .inr ⟨_, _, .inr ⟨_, rfl⟩, rfl⟩

/-- Setting the head job's closing changes the print queue, the line where the job leaves, and raises PRINT. -/
theorem closeHead_shape (c : Closing) (s : State) : closeHead c s = s ∨
    ∃ k l, lineServes s.line l ∧ closeHead c s = raiseBoth .print { s with comp := k, line := l } := by
  rcases hq : s.comp.queue with _ | ⟨j, rest⟩
  · simp [closeHead, hq]
  · cases hs : j.state <;> simp only [closeHead, hq, hs]
    case suspended => exact .inr ⟨_, _, .inr ⟨_, rfl⟩, rfl⟩
    case stalled => exact .inr ⟨_, _, .inl rfl, rfl⟩
    all_goals
      split
      · exact .inr ⟨_, _, .inl rfl, rfl⟩
      · exact .inr ⟨_, _, .inl rfl, rfl⟩

theorem queuedLeaves_shape (n : Nat) (e : JobEnd) (s : State) : queuedLeaves n e s = s ∨
    ∃ k, queuedLeaves n e s = raiseBoth .print { s with comp := k } := by
  unfold queuedLeaves
  split
  · exact .inr ⟨_, rfl⟩
  · exact .inl rfl

theorem yieldJob_shape (n : Nat) (s : State) : yieldJob n s = s ∨
    ∃ k l, lineServes s.line l ∧ yieldJob n s = raiseBoth .print { s with comp := k, line := l } := by
  unfold yieldJob
  split
  · exact .inl rfl
  · split
    · split
      · exact closeHead_shape _ _
      · exact .inl rfl
    · obtain h | ⟨k, h⟩ := queuedLeaves_shape n .yielded s
      · exact .inl h
      · exact .inr ⟨k, s.line, .inl rfl, h⟩

/-- The settings of the printer line (R179). -/
def sameLineSettings (l l' : LineUnit) : Prop :=
  l'.baud = l.baud ∧ l'.evenParity = l.evenParity ∧ l'.stallTimeout = l.stallTimeout

theorem sameLineSettings_stopServing (b : Bool) (l : LineUnit) : sameLineSettings l (stopServing b l) := by
  unfold stopServing
  split
  case h_3 => split <;> (try split) <;> exact ⟨rfl, rfl, rfl⟩
  case h_4 => split <;> exact ⟨rfl, rfl, rfl⟩
  all_goals exact ⟨rfl, rfl, rfl⟩

theorem lineServes.settings {l l' : LineUnit} (h : lineServes l l') : sameLineSettings l l' := by
  obtain rfl | ⟨b, rfl⟩ := h
  · exact ⟨rfl, rfl, rfl⟩
  · exact sameLineSettings_stopServing b l

/-! ### The frame of an append -/

/-- A port's select period, request, response and settings are as they were. -/
def portKept (u v : PortUnit) : Prop :=
  v = { u with cursor := v.cursor, missed := v.missed, flags := v.flags, clearSet := v.clearSet, arrivals := v.arrivals }

/-- What acts of the Journal Manager leave alone: every other capture block, the Kit Line Unit, the notes, the survey but for its stop,
the messages on their way but for the stop notices, each setting, and what a port is answering. -/
structure BesideAppend (s t : State) : Prop where
  blocks : t = { s with
    journal := t.journal, comp := t.comp, line := t.line, portA := t.portA, portB := t.portB
    survey := { s.survey with stopPending := t.survey.stopPending, yetToFinish := t.survey.yetToFinish }
    flight := { s.flight with stopNotices := t.flight.stopNotices } }
  settings : settingsOf t = settingsOf s
  ports : ∀ p, portKept (s.port p) (t.port p)

theorem BesideAppend.refl (s : State) : BesideAppend s s := ⟨rfl, rfl, fun _ => rfl⟩

theorem BesideAppend.trans {s t u : State} (h : BesideAppend s t) (g : BesideAppend t u) : BesideAppend s u where
  blocks := by rw [g.blocks, h.blocks]
  settings := g.settings.trans h.settings
  ports p := by
    have e := h.ports p
    rw [portKept] at e
    rw [portKept, g.ports p, e]

/-- The settings that an append could reach are the journal's policy and the line's own. -/
theorem settings_of_policy_line {s : State} (j : JournalUnit) (k : ComposerUnit) (l : LineUnit) (a b : PortUnit)
    (hj : j.policy = s.journal.policy) (hl : sameLineSettings s.line l) :
    settingsOf { s with journal := j, comp := k, line := l, portA := a, portB := b } = settingsOf s := by
  obtain ⟨hb, hp, ht⟩ := hl
  simp [settingsOf, hj, hb, hp, ht]

theorem portKept_raiseOn (f : Flag) (u : PortUnit) : portKept u (raiseOn f u) := rfl

theorem portKept_pushCursor (n : Nat) (u : PortUnit) : portKept u (pushCursor n u) := by
  unfold pushCursor portKept
  split <;> rfl

theorem portKept_told (k : RecordKind) (u : PortUnit) : portKept u { u with arrivals := u.arrivals ++ [k] } := rfl

theorem besideAppend_bothPorts {s : State} {f : PortUnit → PortUnit} (h : ∀ u, portKept u (f u)) :
    BesideAppend s (s.bothPorts f) := ⟨rfl, rfl, fun p => by rw [State.bothPorts_port]; exact h _⟩

theorem besideAppend_journal (s : State) (j : JournalUnit) (h : j.policy = s.journal.policy) : BesideAppend s (s.setJournal j) :=
  ⟨rfl, settings_of_policy_line j s.comp s.line s.portA s.portB h ⟨rfl, rfl, rfl⟩, fun p => by cases p <;> rfl⟩

theorem countLoss_policy (k : RecordKind) (j : JournalUnit) : (countLoss k j).policy = j.policy := by cases k <;> rfl

theorem besideAppend_yieldJob (n : Nat) (s : State) : BesideAppend s (yieldJob n s) := by
  obtain h | ⟨k, l, hl, h⟩ := yieldJob_shape n s
  · rw [h]; exact .refl s
  · rw [h]
    refine ⟨rfl, settings_of_policy_line s.journal k l _ _ rfl hl.settings, fun p => by cases p <;> rfl⟩

theorem JournalAct.beside {s t : State} (h : JournalAct s t) : BesideAppend s t := by
  cases h with
  | reclaim h => exact .trans (besideAppend_journal s _ (by rfl)) (besideAppend_bothPorts (portKept_pushCursor _))
  | yields n h => exact besideAppend_yieldJob n s
  | @place _ b test o h =>
    exact .trans (besideAppend_journal s _ (by rfl)) (besideAppend_bothPorts (portKept_told (bodyKind b)))
  | low =>
    unfold checkLow
    split
    · split
      · exact .trans (besideAppend_journal s _ (by rfl)) (besideAppend_bothPorts (portKept_raiseOn _))
      · exact .refl s
    · exact besideAppend_journal s _ rfl
  | lost k => exact (besideAppend_journal s _ (countLoss_policy k _)).trans (besideAppend_bothPorts (portKept_raiseOn _))
  | counted => exact besideAppend_journal s _ rfl
  | stop h hw => exact ⟨rfl, rfl, fun p => by cases p <;> rfl⟩

theorem Appends.beside {s t : State} (h : Appends s t) : BesideAppend s t := by
  induction h with
  | refl => exact .refl s
  | tail _ hact ih => exact ih.trans hact.beside

section Frame

variable {s t : State}

theorem BesideAppend.link (h : BesideAppend s t) : t.link = s.link := by rw [h.blocks]
theorem BesideAppend.gen (h : BesideAppend s t) : t.gen = s.gen := by rw [h.blocks]
theorem BesideAppend.hcu (h : BesideAppend s t) : t.hcu = s.hcu := by rw [h.blocks]
theorem BesideAppend.det (h : BesideAppend s t) : t.det = s.det := by rw [h.blocks]
theorem BesideAppend.cap (h : BesideAppend s t) : t.cap = s.cap := by rw [h.blocks]
theorem BesideAppend.agg (h : BesideAppend s t) : t.agg = s.agg := by rw [h.blocks]
theorem BesideAppend.kit (h : BesideAppend s t) : t.kit = s.kit := by rw [h.blocks]
theorem BesideAppend.noteA (h : BesideAppend s t) : t.noteA = s.noteA := by rw [h.blocks]
theorem BesideAppend.noteB (h : BesideAppend s t) : t.noteB = s.noteB := by rw [h.blocks]
theorem BesideAppend.note (h : BesideAppend s t) (p : Port) : t.note p = s.note p := by
  cases p
  · exact h.noteA
  · exact h.noteB
theorem BesideAppend.free (h : BesideAppend s t) : t.free = s.free := by rw [h.blocks]
theorem BesideAppend.pending (h : BesideAppend s t) : t.pending = s.pending := by rw [h.blocks]
theorem BesideAppend.clock (h : BesideAppend s t) : t.survey.clock = s.survey.clock := by rw [h.blocks]
theorem BesideAppend.steps (h : BesideAppend s t) : t.survey.steps = s.survey.steps := by rw [h.blocks]
theorem BesideAppend.surveyState (h : BesideAppend s t) : t.survey.state = s.survey.state := by rw [h.blocks]
theorem BesideAppend.hcuIn (h : BesideAppend s t) : t.flight.hcuIn = s.flight.hcuIn := by rw [h.blocks]
theorem BesideAppend.capIn (h : BesideAppend s t) : t.flight.capIn = s.flight.capIn := by rw [h.blocks]
theorem BesideAppend.ctx (h : BesideAppend s t) (x : DetCtx) : t.ctx x = s.ctx x := by rw [State.ctx, h.det]; rfl
theorem BesideAppend.waiting (h : BesideAppend s t) (p : Port) : (t.port p).waiting = (s.port p).waiting := by rw [h.ports p]
theorem BesideAppend.response (h : BesideAppend s t) (p : Port) : (t.port p).response = (s.port p).response := by rw [h.ports p]

end Frame

/-! ### The survey state through an append -/

/-- A capture block may begin something: in RUNNING, with no stop pending or while the block is still to finish (R1, R5). -/
def mayOpen (block : Blocks → Bool) (s : State) : Prop :=
  s.survey.state = .running ∧ (s.survey.stopPending = .none ∨ block s.survey.yetToFinish = true)

theorem mayOpen_of_running {block : Blocks → Bool} {s : State} (h : s.running = true) : mayOpen block s :=
  have h := (running_iff s).1 h
  ⟨h.1, .inl h.2⟩

theorem sameSurvey_yieldJob (n : Nat) (s : State) : (yieldJob n s).survey = s.survey ∧ (yieldJob n s).flight = s.flight := by
  obtain h | ⟨k, l, -, h⟩ := yieldJob_shape n s <;> rw [h] <;> exact ⟨rfl, rfl⟩

@[simp] theorem checkLow_survey (s : State) : (checkLow s).survey = s.survey := by
  unfold checkLow; split
  · split <;> rfl
  · rfl
@[simp] theorem checkLow_flight (s : State) : (checkLow s).flight = s.flight := by
  unfold checkLow; split
  · split <;> rfl
  · rfl

/-- An act of an append leaves the survey and the stop notices alone, or it begins a stop. -/
theorem JournalAct.survey {s t : State} (h : JournalAct s t) : (t.survey = s.survey ∧ t.flight = s.flight) ∨
    s.running = true ∧ ∃ why, why ≠ .none ∧ t = beginStop why s := by
  cases h with
  | yields n h => exact .inl (sameSurvey_yieldJob n s)
  | low => exact .inl ⟨checkLow_survey s, checkLow_flight s⟩
  | stop h hw => exact .inr ⟨h, _, hw, rfl⟩
  | _ => exact .inl ⟨rfl, rfl⟩

theorem mayOpen_act {block : Blocks → Bool} (hb : block allBlocks = true) {s t : State} (h : JournalAct s t)
    (hs : mayOpen block s) : mayOpen block t := by
  obtain ⟨hsur, -⟩ | ⟨-, why, -, rfl⟩ := h.survey
  · rwa [mayOpen, hsur]
  · exact ⟨hs.1, .inr hb⟩

/-- A block that may begin something still may after an append, also where the append began a stop. -/
theorem mayOpen_appends {block : Blocks → Bool} (hb : block allBlocks = true) {s t : State} (h : Appends s t)
    (hs : mayOpen block s) : mayOpen block t := by
  induction h with
  | refl => exact hs
  | tail _ hact ih => exact mayOpen_act hb hact ih

end Sys2Proof.Machine

/-! What a command may do, act by act. Each constructor of `Act` is one block's own change, with what that block's invariants ask of
it; an append is one act. A command's run is shown once to be a list of acts, and a rule about every command then needs one proof for
each act. -/

namespace Sys2Proof.Machine

open Sys2Proof

/-! ### The acts of a command -/

/-- The settings are as they were; or the command is one that sets an item, and they stay in their ranges (R12). -/
def SettingsMove (c : Instr) (s t : State) : Prop :=
  settingsOf t = settingsOf s ∨
    (∃ i p, c = setCommand i p) ∧ (SettingsSound (settingsOf s) → SettingsSound (settingsOf t))

/-- A port's own change: it keeps its figures, a request begins to wait at a request frame alone, the cursor is moved by a SEEK or a
completed fetch alone and stays in the journal, and flags are cleared by a completed fetch alone (R194 to R208). -/
structure PortMove (c : Instr) (s : State) (p : Port) (u : PortUnit) : Prop where
  sound : PortSound (s.port p) → PortSound u
  waiting : u.waiting = (s.port p).waiting ∨ u.waiting = none ∨ ∃ q words select, c = .requestFrame q words select
  cursor : u.cursor = (s.port p).cursor ∨ c = .seek p ∨ c = .fetchComplete p
  within : JournalSound s.journal → CursorSound s →
    s.journal.tailSeq ≤ u.cursor ∧ u.cursor ≤ s.journal.headSeq ∧ deliveryWithin s.journal.headSeq u = true
  flags : (∃ q, c = .fetchComplete q) ∨ ∀ f, flagSet (s.port p) f = true → flagSet u f = true

/-- The receiver back in HUNT from LOOPBACK, with its source loss notice (R62). -/
def returned (s : State) : State :=
  if s.link.state = .loopback then sendLoss (s.setLink { toHunt s.link with lowRun := 0 }) else s

/-- The machine at the survey's stop (R5). -/
def surveyStopped (s : State) : State := s.setSurvey { s.survey with state := .stopped, stopPending := .none }

/-- The detector has taken its stop notice (R97). -/
def detectorNotified (s : State) : State :=
  { s with
    det := { s.det with stopTaken := true }
    flight := { s.flight with stopNotices := leaveDetector s.flight.stopNotices } }

/-- One act of command c, begun in state s₀. The Boolean says whether the command may still append: what guards appends, the print
queue's holds and the journal's policy, changes only once it no longer does. -/
inductive Act (c : Instr) (s₀ : State) : Bool → State → State → Prop where
  | reset {a : Bool} {s : State} (hc : c = .powerOn ∨ c = .resetPin) : Act c s₀ a s (resetAll s)
  | tick {a : Bool} {s t : State} (hc : c = .surveyClockTick) (h : execSurveyClockTick s = .next t) : Act c s₀ a s t
  | start {a : Bool} {s : State} {v : StartValues} {p : Port} (hc : c = .surveyStart p) (hr : s.survey.state ≠ .running)
      (hq : IdleEmpty s₀ → s.comp.queue = []) (hs : v.site.length ≤ 16) : Act c s₀ a s (startSurvey v s)
  | clear {a : Bool} {s : State} {p : Port} (hc : c = .surveyClear p) (hs : s.survey.state = .stopped) (hq : s.comp.queue = []) :
      Act c s₀ a s (clearSurvey s)
  | journal {s t : State} (live : StopSound s₀ → s₀.survey.state ≠ .idle) (h : Appends s t) : Act c s₀ true s t
  | generatorOff {s u : State} (live : StopSound s₀ → s₀.survey.state ≠ .idle)
      (h : Appends (s.setGen { s.gen with running := false }) u) : Act c s₀ true s (returned u)
  | supersede {a : Bool} {s : State} {n : Nat} (hc : ∃ p, c = .notePart p)
      (hk : JournalSound s₀.journal → ∀ r ∈ s.journal.records, r.seq = n → r.kind = .note) : Act c s₀ a s (supersede n s)
  | stop {a : Bool} {s : State} {why : StopPending} (h : s.running = true) (hw : why ≠ .none) : Act c s₀ a s (beginStop why s)
  | leave {a : Bool} {s : State} {d : DetectorUnit} {y : Blocks} (hd : d = s.det ∨ d = { s.det with stopTaken := false })
      (hs : StopSound s₀ → StopSound s → StopSound { s with det := d, survey := { s.survey with yetToFinish := y } })
      (hg : y.aggregator = false → s.survey.yetToFinish.aggregator = false ∨ s.agg.current = none) :
      Act c s₀ a s { s with det := d, survey := { s.survey with yetToFinish := y } }
  | stopped {a : Bool} {s : State} (hp : s.survey.stopPending ≠ .none) (hy : s.survey.yetToFinish = .empty)
      (h0 : StopSound s₀ → s₀.survey.stopPending ≠ .none) : Act c s₀ a s (surveyStopped s)
  | timeStep {a : Bool} {s : State} {date ms : Nat} (hc : ∃ p, c = .setTime p) (hi : s.survey.state ≠ .idle)
      (hn : s.survey.steps.length < 16) :
      Act c s₀ a s (s.setSurvey { s.survey with steps := s.survey.steps ++ [⟨s.survey.clock, date, ms⟩] })
  | free {a : Bool} {s : State} (n : Nat) : Act c s₀ a s { s with free := n }
  | notified {a : Bool} {s : State} (h : s.flight.stopNotices.detector = true) : Act c s₀ a s (detectorNotified s)
  | det {a : Bool} {s : State} {d : DetectorUnit} (hset : SettingsMove c s { s with det := d })
      (ht : d.stopTaken = true → s.det.stopTaken = true)
      (hd : detectorDone s.det = true → detectorDone d = true ∨ mayOpen Blocks.detector s) : Act c s₀ a s { s with det := d }
  | cap {a : Bool} {s : State} {k : CaptureUnit} (hset : SettingsMove c s { s with cap := k }) (hr : RingSound s.cap → RingSound k)
      (hd : k.capturing = true → s.cap.capturing = true ∨ mayOpen Blocks.capture s) : Act c s₀ a s { s with cap := k }
  | agg {a : Bool} {s : State} {g : AggregatorUnit} (hset : SettingsMove c s { s with agg := g })
      (hi : (∃ p, c = .postFrame p) ∨ (intervalSound s.agg = true → intervalSound g = true))
      (ha : AccumulatorsSound s.agg → AccumulatorsSound g)
      (hd : g.current ≠ none → s.agg.current ≠ none ∨ mayOpen Blocks.aggregator s) : Act c s₀ a s { s with agg := g }
  | flow {a : Bool} {s : State} {h : HalfCycleUnit} {f : Flight} (hset : SettingsMove c s { s with hcu := h })
      (hw : WindowSound s.hcu → WindowSound h) (hs : SamplesSound s → SamplesSound { s with hcu := h, flight := f })
      (hn : f.stopNotices.within s.flight.stopNotices = true) : Act c s₀ a s { s with hcu := h, flight := f }
  | link {a : Bool} {s : State} {l : LinkUnit} {g : Generator} {f : Flight} (hset : SettingsMove c s { s with link := l })
      (hl : LinkSound s → LinkSound { s with link := l, gen := g })
      (hs : SamplesSound s → SamplesSound { s with link := l, gen := g, flight := f })
      (hd : g.running = true → s.gen.running = true ∨ mayOpen Blocks.generator s)
      (hn : f.stopNotices = s.flight.stopNotices) : Act c s₀ a s { s with link := l, gen := g, flight := f }
  | kit {a : Bool} {s : State} {k : KitUnit} (hset : SettingsMove c s { s with kit := k }) (hs : SupplySound s.kit → SupplySound k)
      (hp : PresenceSound s.kit → PresenceSound k) : Act c s₀ a s { s with kit := k }
  | note {a : Bool} {s : State} {p : Port} {x : NoteCtx} (h : noteSound (s.note p) = true → noteSound x = true) :
      Act c s₀ a s (s.setNote p x)
  | comp {s : State} {k : ComposerUnit} (hi : s.survey.state = .idle → s.comp.queue = [] → k.queue = [])
      (hq : QueueSound s.comp → QueueSound k)
      (hh : JournalSound s.journal → QueueSound s.comp → HoldsSound s → HoldsSound { s with comp := k }) :
      Act c s₀ false s { s with comp := k }
  | line {a : Bool} {s : State} {l : LineUnit} (hset : SettingsMove c s { s with line := l }) (hl : LineSound s.line → LineSound l) :
      Act c s₀ a s { s with line := l }
  | policy {s : State} {x : Policy} (hc : ∃ p, c = .setJournalPolicy p) :
      Act c s₀ false s (s.setJournal { s.journal with policy := x })
  | port {a : Bool} {s : State} {p : Port} {u : PortUnit} (h : PortMove c s p u) : Act c s₀ a s (s.setPort p u)

/-- Acts of one phase, one after another. -/
abbrev Acts (c : Instr) (s₀ : State) (a : Bool) : State → State → Prop := Relation.ReflTransGen (Act c s₀ a)

/-- The acts of a command: those that may append, then those that append no more. -/
def Run (c : Instr) (s₀ s t : State) : Prop := ∃ u, Acts c s₀ true s u ∧ Acts c s₀ false u t

section Runs

variable {c : Instr} {s₀ s t u : State}

theorem Act.acts {a : Bool} (h : Act c s₀ a s t) : Acts c s₀ a s t := .single h

theorem Run.refl (s : State) : Run c s₀ s s := ⟨s, .refl, .refl⟩
theorem Acts.run {a : Bool} (h : Acts c s₀ a s t) : Run c s₀ s t := by
  cases a
  · exact ⟨s, .refl, h⟩
  · exact ⟨t, h, .refl⟩
theorem Act.run {a : Bool} (h : Act c s₀ a s t) : Run c s₀ s t := (Act.acts h).run
theorem Run.then (h : Run c s₀ s t) (g : Acts c s₀ false t u) : Run c s₀ s u := by
  obtain ⟨v, hv, ht⟩ := h
  exact ⟨v, hv, ht.trans g⟩
theorem Acts.thenRun (h : Acts c s₀ true s t) (g : Run c s₀ t u) : Run c s₀ s u := by
  obtain ⟨v, hv, hu⟩ := g
  exact ⟨v, h.trans hv, hu⟩

theorem Acts.keeps {X : State → Prop} (hact : ∀ {a : Bool} {s t : State}, Act c s₀ a s t → X s → X t) {a : Bool}
    (h : Acts c s₀ a s t) (hs : X s) : X t := by
  induction h with
  | refl => exact hs
  | tail _ hlast ih => exact hact hlast ih

/-- A rule that every act keeps, the run keeps. -/
theorem Run.keeps {X : State → Prop} (hact : ∀ {a : Bool} {s t : State}, Act c s₀ a s t → X s → X t) (h : Run c s₀ s t) (hs : X s) :
    X t := by
  obtain ⟨u, hu, ht⟩ := h
  exact Acts.keeps hact ht (Acts.keeps hact hu hs)

end Runs

end Sys2Proof.Machine

/-! The ports' own changes as acts, and the run of a request: it is withdrawn, its owner acts, and the answer stands in the buffer. -/

namespace Sys2Proof.Machine

open Sys2Proof

variable {c : Instr} {s₀ s t : State} {p : Port} {a : Bool}

/-! ### Changes that leave cursor and flags -/

theorem deliveryWithin_of_response {n : Nat} {u v : PortUnit} (h : v.response = u.response ∨ v.response = none)
    (hu : deliveryWithin n u = true) : deliveryWithin n v = true := by
  obtain h | h := h
  · simpa [deliveryWithin, h] using hu
  · simp [deliveryWithin, h]

/-- A change that leaves the cursor, sets no response, takes no flag away and lets no request wait. -/
theorem portMove_of_kept {u : PortUnit} (hs : PortSound (s.port p) → PortSound u)
    (hw : u.waiting = (s.port p).waiting ∨ u.waiting = none) (hc : u.cursor = (s.port p).cursor)
    (hr : u.response = (s.port p).response ∨ u.response = none)
    (hf : ∀ f, flagSet (s.port p) f = true → flagSet u f = true) : PortMove c s p u where
  sound := hs
  waiting := hw.imp_right .inl
  cursor := .inl hc
  within _ h := by
    obtain ⟨h1, h2, h3⟩ := h p
    exact ⟨hc ▸ h1, hc ▸ h2, deliveryWithin_of_response hr h3⟩
  flags := .inr hf

/-! ### Raises (R202) -/

theorem clearSet_raiseOn (m x y : BitVec 8) (h : x &&& ~~~y = 0) : x &&& ~~~m &&& ~~~(y ||| m) = 0 := by
  have e : x &&& ~~~m &&& ~~~(y ||| m) = (x &&& ~~~y) &&& ~~~m := by
    ext i hi
    simp only [BitVec.getElem_and, BitVec.getElem_not, BitVec.getElem_or, Bool.not_or]
    cases x[i] <;> cases y[i] <;> cases m[i] <;> rfl
  rw [e, h]
  exact BitVec.zero_and

theorem portSound_raiseOn (f : Flag) {u : PortUnit} (h : PortSound u) : PortSound (raiseOn f u) := by
  obtain ⟨h1, h2, h3, h4, h5, h6, h7, h8, h9, h10, h11⟩ := h
  exact ⟨h1, h2, h3, h4, h5, clearSet_raiseOn _ _ _ h6, h7, h8, h9, h10, h11⟩

theorem flagSet_raiseOn (f g : Flag) {u : PortUnit} (h : flagSet u g = true) : flagSet (raiseOn f u) g = true := by
  simp only [flagSet, raiseOn, BitVec.getLsbD_or] at h ⊢
  rw [h, Bool.true_or]

theorem portMove_raiseOn (f : Flag) : PortMove c s p (raiseOn f (s.port p)) :=
  portMove_of_kept (portSound_raiseOn f) (.inl rfl) rfl (.inl rfl) fun g => flagSet_raiseOn f g

theorem setPort_both (s : State) (f : PortUnit → PortUnit) :
    s.bothPorts f = (s.setPort .a (f (s.port .a))).setPort .b (f (s.port .b)) := rfl

theorem acts_bothPorts {f : PortUnit → PortUnit} (h : ∀ (s : State) (p : Port), PortMove c s p (f (s.port p))) (s : State) :
    Acts c s₀ a s (s.bothPorts f) :=
  setPort_both s f ▸ .tail (Act.acts (.port (h s .a))) (.port (h (s.setPort .a (f (s.port .a))) .b))

theorem acts_raiseBoth (f : Flag) (s : State) : Acts c s₀ a s (raiseBoth f s) := acts_bothPorts (fun _ _ => portMove_raiseOn f) s

/-! ### Requests (R197) -/

theorem act_withdrawn (p : Port) (s : State) : Act c s₀ a s (withdrawn p s) :=
  .port <| portMove_of_kept
    (fun ⟨h1, h2, h3, _, h5, h6, h7, h8, h9, h10, h11⟩ => ⟨h1, h2, h3, .inl rfl, h5, h6, h7, h8, h9, h10, h11⟩)
    (.inr rfl) rfl (.inl rfl) fun _ h => h

/-- An answer that delivers nothing of the journal when it is fetched. -/
theorem portMove_respond {k : Option RequestKind} {code : ResultCode} {body : List Word} {d : Delivery}
    (hw : (s.port p).waiting = none)
    (hd : JournalSound s.journal → CursorSound s → ∀ x y n, d = .readNext x y n → k = some .readNext ∧ y + n ≤ s.journal.headSeq) :
    PortMove c s p { s.port p with response := some ⟨code, body, k, d, false⟩ } where
  sound := fun ⟨h1, h2, h3, _, _, h6, h7, h8, h9, h10, h11⟩ =>
    ⟨h1, h2, h3, .inl hw, fun _ => by simp, h6, h7, h8, h9, h10, h11⟩
  waiting := .inl rfl
  cursor := .inl rfl
  within hj h := by
    refine ⟨(h p).1, (h p).2.1, ?_⟩
    cases d with
    | readNext x y n =>
      obtain ⟨hk, hle⟩ := hd hj h x y n rfl
      simp [deliveryWithin, hk, hle]
    | _ => rfl
  flags := .inr fun _ h => h

theorem restartPort_waiting (u : PortUnit) : (restartPort u).waiting = u.waiting := by rw [restartPort_eq]

/-- While a command that is no request frame runs, no request begins to wait. -/
theorem act_keeps_none_waiting (hc : ∀ q words select, c ≠ .requestFrame q words select) (p : Port)
    (h : Act c s₀ a s t) (hs : (s.port p).waiting = none) : (t.port p).waiting = none := by
  cases h with
  | reset =>
    unfold resetAll
    split <;> cases p <;> rfl
  | tick _ h =>
    obtain rfl := by simpa [execSurveyClockTick] using h.symm
    cases p <;> exact hs
  | start _ _ _ hl =>
    rw [startSurvey_eq _ hl]
    cases p <;> simpa [State.port, restartPort_waiting] using hs
  | clear =>
    rw [clearSurvey_eq]
    cases p <;> simpa [State.port, restartPort_waiting] using hs
  | journal _ h => rw [h.beside.waiting]; exact hs
  | @generatorOff _ u _ h =>
    have hu : ((returned u).port p).waiting = (u.port p).waiting := by
      unfold returned; split <;> cases p <;> rfl
    rw [hu, h.beside.waiting]
    cases p <;> exact hs
  | note => rw [State.setNote_port]; exact hs
  | @port _ _ q u hu =>
    by_cases hpq : p = q
    · subst hpq
      rw [State.setPort_port]
      obtain h | h | ⟨q, words, select, h⟩ := hu.waiting
      · rw [h, hs]
      · exact h
      · exact absurd h (hc q words select)
    · cases p <;> cases q <;> first | exact hs | exact absurd rfl hpq
  | _ => cases p <;> exact hs

theorem Run.none_waiting (hc : ∀ q words select, c ≠ .requestFrame q words select) (h : Run c s₀ (withdrawn p s) t) :
    (t.port p).waiting = none :=
  Run.keeps (X := fun s => (s.port p).waiting = none) (act_keeps_none_waiting hc p) h (by simp [withdrawn])

/-- The owner has acted, and its answer stands in the port's buffer. -/
def Answered (c : Instr) (s₀ : State) (p : Port) (k : RequestKind) (s t : State) : Prop :=
  ∃ code body u, Run c s₀ s u ∧ t = respond p k code body u

theorem answered_refused (c : Instr) (s₀ : State) (p : Port) (k : RequestKind) (code : ResultCode) (body : List Word) (s : State) :
    Answered c s₀ p k s (respond p k code body s) := ⟨code, body, s, .refl s, rfl⟩

theorem Run.answered {u : State} {k : RequestKind} {code : ResultCode} {body : List Word} (h : Run c s₀ s u) :
    Answered c s₀ p k s (respond p k code body u) := ⟨code, body, u, h, rfl⟩

theorem Acts.answered {u : State} {k : RequestKind} {code : ResultCode} {body : List Word} (h : Acts c s₀ a s u) :
    Answered c s₀ p k s (respond p k code body u) := h.run.answered

/-- A command that takes a request is a run when what its owner does is one. -/
theorem run_takeRequest {k : RequestKind} {f : List Word → State → State}
    (hc : ∀ q words select, c ≠ .requestFrame q words select)
    (h : ∀ body, waits p k body s → Answered c s₀ p k (withdrawn p s) (f body (withdrawn p s))) :
    Run c s₀ s (takeRequest p k f s) := by
  by_cases hw : ∃ body, waits p k body s
  · obtain ⟨body, hw⟩ := hw
    rw [takeRequest_of_waits f hw]
    obtain ⟨code, answer, u, hu, he⟩ := h body hw
    rw [he]
    have hrun : Run c s₀ s u := Acts.thenRun (act_withdrawn p s).acts hu
    exact hrun.then (Act.acts (.port (portMove_respond (hu.none_waiting hc) (by simp))))
  · rw [takeRequest_of_other f (not_exists.1 hw)]
    exact .refl s

end Sys2Proof.Machine

/-! The commands of the Master Port Units are runs (R194 to R208). -/

namespace Sys2Proof.Machine

open Sys2Proof

variable {c : Instr} {s₀ s t : State} {p : Port} {a : Bool}

theorem act_modPort {f : PortUnit → PortUnit} (h : PortMove c s p (f (s.port p))) : Act c s₀ a s (s.modPort p f) := .port h

/-! ### Select periods (R195) -/

theorem portMove_out (ws : List Word) : PortMove c s p { s.port p with out := ws } :=
  portMove_of_kept id (.inl rfl) rfl (.inl rfl) fun _ h => h

theorem act_clockZeros (n : Nat) (s : State) : Act c s₀ a s (clockZeros p n s) := act_modPort (portMove_out _)

/-- A period that goes on begins with the word that the held one begins with. -/
theorem head_of_mayGoOn {words : List Word} {u : PortUnit} (h : mayGoOn words u = true) {w : Word}
    (hu : u.intake.bind List.head? = some w) : words.head? = some w := by
  unfold mayGoOn at h
  cases hi : u.intake with
  | none => simp [hi] at hu
  | some held =>
    simp only [hi, Option.bind_some] at hu h
    obtain ⟨rest, rfl⟩ := List.isPrefixOf_iff_prefix.1 h
    rw [List.head?_append, hu]
    rfl

theorem act_holdIntake {words : List Word} (h : mayGoOn words (s.port p) = true) : Act c s₀ a s (holdIntake p words s) :=
  act_modPort <| portMove_of_kept
    (fun ⟨h1, h2, h3, h4, h5, h6, h7, h8, h9, h10, h11⟩ =>
      ⟨h1, h2, h3, h4, h5, h6, h7, h8, h9, h10, fun ha => head_of_mayGoOn h (h11 ha)⟩)
    (.inl rfl) rfl (.inl rfl) fun _ h => h

theorem acts_inPeriod {words : List Word} {released : Bool} {f : State → State} (h : Acts c s₀ a s (f s)) :
    Acts c s₀ a s (inPeriod p words released f s) := by
  unfold inPeriod
  split
  · split
    · exact .tail h (act_clockZeros _ _)
    · exact .tail (act_holdIntake ‹_›).acts (act_clockZeros _ _)
  · exact .refl

/-! ### Released periods (R196, R198, R201) -/

/-- A discarded response takes its clear-on-fetch set with it. -/
theorem discardResponse_eq (u : PortUnit) : discardResponse u =
    { u with
      response := none, fetchDue := false
      clearSet := if u.response.bind Response.kind = some .status then 0 else u.clearSet
      missedToClear := if u.response.bind Response.kind = some .status then 0 else u.missedToClear } := by
  unfold discardResponse
  cases u.response with
  | none => rfl
  | some r => by_cases h : r.kind = some .status <;> simp [h]

theorem portMove_released : PortMove c s p { discardResponse (s.port p) with waiting := none, intake := none, answer := [] } := by
  rw [discardResponse_eq]
  refine portMove_of_kept (fun ⟨h1, h2, h3, _, _, h6, h7, h8, h9, h10, _⟩ => ?_) (.inr rfl) rfl (.inr rfl) fun _ h => h
  refine ⟨h1, h2, h3, .inl rfl, fun h => (Bool.false_ne_true h).elim, ?_, h7, h8, h9, h10, fun h => absurd rfl h⟩
  dsimp only
  split
  · exact BitVec.zero_and
  · exact h6

theorem act_releasePeriod (p : Port) (s : State) : Act c s₀ a s (releasePeriod p s) := act_modPort portMove_released

theorem act_emptyIntake (s : State) : Act c s₀ a s (s.modPort p fun u => { u with intake := none, answer := [] }) :=
  act_modPort <| portMove_of_kept
    (fun ⟨h1, h2, h3, h4, h5, h6, h7, h8, h9, h10, _⟩ => ⟨h1, h2, h3, h4, h5, h6, h7, h8, h9, h10, fun h => absurd rfl h⟩)
    (.inl rfl) rfl (.inl rfl) fun _ h => h

theorem releasePeriod_waiting (p : Port) (s : State) : ((releasePeriod p s).port p).waiting = none := by
  simp [releasePeriod]

theorem releasePeriod_response (p : Port) (s : State) : ((releasePeriod p s).port p).response = none := by
  simp [releasePeriod, discardResponse_eq]

theorem act_respond {k : RequestKind} {code : ResultCode} {body : List Word} (hw : (s.port p).waiting = none) :
    Act c s₀ a s (respond p k code body s) := .port (portMove_respond hw (by simp))

theorem acts_takeStatus {body : List Word} (hw : (s.port p).waiting = none) : Acts c s₀ a s (takeStatus p body s) := by
  unfold takeStatus
  split
  · exact (act_respond hw).acts
  · refine .tail (Act.acts (act_modPort (f := fun u => { u with clearSet := u.flags, missedToClear := u.missed }) ?_))
      (.port (portMove_respond (by simpa using hw) (by simp)))
    refine portMove_of_kept (fun ⟨h1, h2, h3, h4, h5, _, h7, h8, h9, h10, h11⟩ => ?_) (.inl rfl) rfl (.inl rfl) fun _ h => h
    exact ⟨h1, h2, h3, h4, h5, by ext i hi; simp, h7, h8, h9, h10, h11⟩

theorem clampTo_le {lo hi v : Nat} (h : lo ≤ hi) : clampTo lo hi v ≤ hi := by unfold clampTo; omega
theorem le_clampTo (lo hi v : Nat) : lo ≤ clampTo lo hi v := by unfold clampTo; omega

theorem portMove_config (enable : BitVec 8) (kinds : BitVec 6) (d : Nat) :
    PortMove c s p { s.port p with enable := enable, kinds := kinds, divider := clampTo 1 15 d, recordCount := 0 } :=
  portMove_of_kept
    (fun ⟨_, _, _, h4, h5, h6, h7, h8, h9, h10, h11⟩ =>
      ⟨le_clampTo 1 15 d, clampTo_le (by decide), le_clampTo 1 15 d, h4, h5, h6, h7, h8, h9, h10, h11⟩)
    (.inl rfl) rfl (.inl rfl) fun _ h => h

theorem acts_takeConfig {body : List Word} (hw : (s.port p).waiting = none) : Acts c s₀ a s (takeConfig p body s) := by
  unfold takeConfig
  split
  · exact (act_respond hw).acts
  · exact .tail (Act.acts (act_modPort (portMove_config _ _ _))) (act_respond (by simpa using hw))

theorem acts_releaseRequest {kind : Nat} {body : List Word} (hc : ∃ q words select, c = .requestFrame q words select) :
    Acts c s₀ a s (releaseRequest p kind body s) := by
  have hw := releasePeriod_waiting p s
  unfold releaseRequest
  refine .trans (act_releasePeriod p s).acts ?_
  dsimp only
  split
  · exact Act.acts (.port (portMove_respond hw (by simp)))
  · exact acts_takeStatus hw
  · exact acts_takeConfig hw
  · refine Act.acts (act_modPort ⟨fun ⟨h1, h2, h3, _, h5, h6, h7, h8, h9, h10, h11⟩ => ?_, .inr (.inr hc), .inl rfl, fun _ h => h p,
      .inr fun _ h => h⟩)
    exact ⟨h1, h2, h3, .inr (releasePeriod_response p s), h5, h6, h7, h8, h9, h10, h11⟩

theorem acts_releaseFrame {words : List Word} {extraBits : Nat} (hc : ∃ q words select, c = .requestFrame q words select) :
    Acts c s₀ a s (releaseFrame p words extraBits s) := by
  unfold releaseFrame
  split
  · exact (act_emptyIntake s).acts
  · exact acts_releaseRequest hc
  · exact (act_releasePeriod _ s).acts

/-! ### Fetches (R199, R200) -/

theorem response_of_fetchWhole {u : PortUnit} {n : Nat} (h : fetchWhole u n = true) : u.response ≠ none := by
  simp only [fetchWhole, Bool.and_eq_true] at h
  exact Option.isSome_iff_ne_none.1 h.1.1.2

theorem portMove_fetchWords (n : Nat) (released : Bool) : PortMove c s p (fetchWords n released (s.port p)) :=
  portMove_of_kept
    (fun ⟨h1, h2, h3, h4, h5, h6, h7, h8, h9, h10, _⟩ =>
      ⟨h1, h2, h3, h4, fun h => (Bool.or_eq_true_iff.1 h).elim h5 response_of_fetchWhole, h6, h7, h8, h9, h10, fun ha => by
        cases released
        · rfl
        · exact absurd rfl ha⟩)
    (.inl rfl) rfl (.inl rfl) fun _ h => h

theorem portSound_deliver (d : Delivery) {u : PortUnit} (h : PortSound u) : PortSound (deliver d u) := by
  obtain ⟨h1, h2, h3, h4, h5, h6, h7, h8, h9, h10, h11⟩ := h
  cases d with
  | nothing => exact ⟨h1, h2, h3, h4, h5, h6, h7, h8, h9, h10, h11⟩
  | readNext x y n => exact ⟨h1, h2, h3, h4, h5, h6, (Nat.sub_le _ _).trans h7, h8, h9, h10, h11⟩
  | status x y z =>
    exact ⟨h1, h2, h3, h4, h5, BitVec.zero_and, (Nat.sub_le _ _).trans h7, (Nat.sub_le _ _).trans h8, (Nat.sub_le _ _).trans h9,
      (Nat.sub_le _ _).trans h10, h11⟩

theorem deliver_waiting (d : Delivery) (u : PortUnit) : (deliver d u).waiting = u.waiting := by cases d <;> rfl
theorem deliver_response (d : Delivery) (u : PortUnit) : (deliver d u).response = u.response := by cases d <;> rfl

theorem completeFetch_waiting (u : PortUnit) : (completeFetch u).waiting = u.waiting := by
  unfold completeFetch
  split
  · split
    · dsimp only; split
      · rfl
      · exact deliver_waiting _ _
    · rfl
  · rfl

theorem portSound_fetched {u : PortUnit} {r : Response} (h : PortSound u) (hr : u.response ≠ none) :
    PortSound { u with fetchDue := false, response := some r } := by
  obtain ⟨h1, h2, h3, h4, _, h6, h7, h8, h9, h10, h11⟩ := h
  exact ⟨h1, h2, h3, .inl (h4.resolve_right hr), fun h => (Bool.false_ne_true h).elim, h6, h7, h8, h9, h10, h11⟩

theorem portSound_completeFetch {u : PortUnit} (h : PortSound u) : PortSound (completeFetch u) := by
  unfold completeFetch
  split
  · split
    · rename_i r hr
      have hn : u.response ≠ none := by simp [hr]
      dsimp only
      split
      · exact portSound_fetched h hn
      · exact portSound_fetched (portSound_deliver _ h) (by rwa [deliver_response])
    · obtain ⟨h1, h2, h3, h4, _, h⟩ := h
      exact ⟨h1, h2, h3, h4, fun h => (Bool.false_ne_true h).elim, h⟩
  · exact h

/-- A delivery moves the cursor up to what was delivered, and no further. -/
theorem deliver_cursor {head : Nat} {u : PortUnit} {r : Response} (hr : u.response = some r) (hw : deliveryWithin head u = true)
    (hc : u.cursor ≤ head) : u.cursor ≤ (deliver r.delivery u).cursor ∧ (deliver r.delivery u).cursor ≤ head := by
  obtain ⟨code, body, kind, delivery, delivered⟩ := r
  cases delivery with
  | readNext x y n =>
    simp only [deliveryWithin, hr, Bool.and_eq_true, decide_eq_true_eq] at hw
    simp only [deliver]
    split
    · exact ⟨le_rfl, hc⟩
    · exact ⟨Nat.le_max_left _ _, Nat.max_le.2 ⟨hc, hw.2⟩⟩
  | _ => exact ⟨le_rfl, hc⟩

theorem completeFetch_within {tail head : Nat} {u : PortUnit} (h : tail ≤ u.cursor ∧ u.cursor ≤ head ∧ deliveryWithin head u = true) :
    tail ≤ (completeFetch u).cursor ∧ (completeFetch u).cursor ≤ head ∧ deliveryWithin head (completeFetch u) = true := by
  obtain ⟨h1, h2, h3⟩ := h
  unfold completeFetch
  split
  · split
    · rename_i r hr
      have hd : ∀ v : PortUnit, v.response = some { r with delivered := true } → deliveryWithin head v = true := by
        intro v hv
        obtain ⟨code, body, kind, delivery, delivered⟩ := r
        cases delivery <;> simp_all [deliveryWithin]
      dsimp only
      split
      · exact ⟨h1, h2, hd _ rfl⟩
      · obtain ⟨hle, hle'⟩ := deliver_cursor hr h3 h2
        exact ⟨h1.trans hle, hle', hd _ rfl⟩
    · exact ⟨h1, h2, h3⟩
  · exact ⟨h1, h2, h3⟩

/-! ### Each command -/

theorem run_requestFrame {words : List Word} {select : Select} (h : exec (.requestFrame p words select) s = .next t) :
    Run (.requestFrame p words select) s₀ s t := by
  simp only [exec, execRequestFrame, Host.Outcome.next.injEq] at h
  subst h
  split
  · exact .refl s
  · exact .refl s
  · exact (acts_inPeriod (a := true) .refl).run
  · exact (acts_inPeriod (a := true) (acts_releaseFrame ⟨_, _, _, rfl⟩)).run

theorem resetNotes_eq (p : Port) (s : State) : resetNotes p s = s.setNote p .empty := by cases p <;> rfl

theorem act_clearPeriod (p : Port) (s : State) :
    Act c s₀ a s (s.modPort p fun u => { u with clearSet := 0, missedToClear := 0 }) :=
  act_modPort <| portMove_of_kept
    (fun ⟨h1, h2, h3, h4, h5, _, h7, h8, h9, h10, h11⟩ => ⟨h1, h2, h3, h4, h5, BitVec.zero_and, h7, h8, h9, h10, h11⟩)
    (.inl rfl) rfl (.inl rfl) fun _ h => h

theorem run_portReset {period : ResetPeriod} (h : exec (.portReset period) s = .next t) : Run (.portReset period) s₀ s t := by
  simp only [exec, execPortReset, Host.Outcome.next.injEq] at h
  subst h
  have hnote : ∀ s, Act (.portReset period) s₀ true s (resetNotes period.port s) := fun s => by
    rw [resetNotes_eq]
    exact .note fun _ => rfl
  exact (acts_inPeriod (a := true) (.tail (.tail (act_releasePeriod period.port s).acts (act_clearPeriod period.port _)) (hnote _))).run

theorem run_fetchFrame {clocked : Clocked} (h : exec (.fetchFrame p clocked) s = .next t) : Run (.fetchFrame p clocked) s₀ s t := by
  simp only [exec, execFetchFrame, Host.Outcome.next.injEq] at h
  subst h
  split
  · exact (act_modPort (a := true) (portMove_fetchWords _ _)).run
  · exact .refl s

theorem run_fetchComplete (h : exec (.fetchComplete p) s = .next t) : Run (.fetchComplete p) s₀ s t := by
  simp only [exec, execFetchComplete, Host.Outcome.next.injEq] at h
  subst h
  exact (act_modPort (a := true) ⟨portSound_completeFetch, .inl (completeFetch_waiting _), .inr (.inr rfl),
    fun _ h => completeFetch_within (h p), .inl ⟨p, rfl⟩⟩).run

theorem run_status {body : List Word} (h : exec (.status p body) s = .next t) : Run (.status p body) s₀ s t := by
  simp only [exec, execStatus, Host.Outcome.next.injEq] at h
  subst h
  exact (acts_inPeriod (a := true) ((act_releasePeriod _ s).acts.trans (acts_takeStatus (releasePeriod_waiting p s)))).run

theorem run_portConfig {body : List Word} (h : exec (.portConfig p body) s = .next t) : Run (.portConfig p body) s₀ s t := by
  simp only [exec, execPortConfig, Host.Outcome.next.injEq] at h
  subst h
  exact (acts_inPeriod (a := true) ((act_releasePeriod _ s).acts.trans (acts_takeConfig (releasePeriod_waiting p s)))).run

/-- The divider's count stays below it (R205). -/
theorem portMove_countRecord (k : RecordKind) (rest : List RecordKind) :
    PortMove c s p (countRecord k { s.port p with arrivals := rest }) := by
  refine portMove_of_kept (fun h => ?_) (.inl ?_) ?_ (.inl ?_) fun g hg => ?_ <;> unfold countRecord
  · obtain ⟨h1, h2, h3, h4, h5, h6, h7, h8, h9, h10, h11⟩ := h
    split
    · split
      · exact portSound_raiseOn _ ⟨h1, h2, h1, h4, h5, h6, h7, h8, h9, h10, h11⟩
      · exact ⟨h1, h2, Nat.lt_of_not_le ‹_›, h4, h5, h6, h7, h8, h9, h10, h11⟩
    · exact ⟨h1, h2, h3, h4, h5, h6, h7, h8, h9, h10, h11⟩
  · split <;> (try split) <;> rfl
  · split <;> (try split) <;> rfl
  · split <;> (try split) <;> rfl
  · split
    · split
      · exact flagSet_raiseOn .newRecord g (u := { s.port p with arrivals := rest, recordCount := 0 }) hg
      · exact hg
    · exact hg

theorem run_newRecordDivider (h : exec (.newRecordDivider p) s = .next t) : Run (.newRecordDivider p) s₀ s t := by
  simp only [exec, execNewRecordDivider, Host.Outcome.next.injEq] at h
  subst h
  split
  · rename_i k rest _
    exact (act_modPort (a := true) (f := fun u => countRecord k { u with arrivals := rest }) (portMove_countRecord k rest)).run
  · exact .refl s

end Sys2Proof.Machine

/-! The commands of the Survey Control Unit and of the Journal Manager, and those that only read, are runs (R1 to R38). -/

namespace Sys2Proof.Machine

open Sys2Proof

variable {c : Instr} {s₀ s t : State} {p : Port} {a : Bool}

/-! ### Requests that only read -/

/-- An owner that only answers leaves the rest alone. -/
theorem run_reading {k : RequestKind} {f : List Word → State → State} (hc : ∀ q words select, c ≠ .requestFrame q words select)
    (h : ∀ body s, ∃ code answer, f body s = respond p k code answer s) : Run c s₀ s (takeRequest p k f s) := by
  refine run_takeRequest hc fun body _ => ?_
  obtain ⟨code, answer, e⟩ := h body (withdrawn p s)
  rw [e]
  exact answered_refused _ _ _ _ _ _ _

theorem run_get (h : exec (.get p) s = .next t) : Run (.get p) s₀ s t := by
  simp only [exec, execGet, Host.Outcome.next.injEq] at h
  subst h
  refine run_reading (by simp) fun body s => ?_
  split
  · exact ⟨_, _, rfl⟩
  · split <;> exact ⟨_, _, rfl⟩

theorem run_live (h : exec (.live p) s = .next t) : Run (.live p) s₀ s t := by
  simp only [exec, execLive, Host.Outcome.next.injEq] at h
  subst h
  refine run_reading (by simp) fun body s => ?_
  split <;> exact ⟨_, _, rfl⟩

theorem run_counters (h : exec (.counters p) s = .next t) : Run (.counters p) s₀ s t := by
  simp only [exec, execCounters, Host.Outcome.next.injEq] at h
  subst h
  refine run_reading (by simp) fun body s => ?_
  split <;> exact ⟨_, _, rfl⟩

theorem run_printList (h : exec (.printList p) s = .next t) : Run (.printList p) s₀ s t := by
  simp only [exec, execPrintList, Host.Outcome.next.injEq] at h
  subst h
  refine run_reading (by simp) fun body s => ?_
  split <;> exact ⟨_, _, rfl⟩

/-! ### READ_NEXT and SEEK (R34 to R38) -/

theorem snapshotRecords_prefix (n room : Nat) (rs : List Record) : snapshotRecords n room rs <+: rs := by
  induction n generalizing room rs with
  | zero => simp [snapshotRecords]
  | succ n ih =>
    cases rs with
    | nil => simp [snapshotRecords]
    | cons r rest =>
      rw [snapshotRecords]
      split
      · exact List.cons_prefix_cons.2 ⟨rfl, ih _ _⟩
      · exact List.nil_prefix

/-- The numbers from a cursor on are consecutive. -/
theorem filter_ge_range' (x tail n : Nat) : (List.range' tail n).filter (fun i => decide (x ≤ i)) =
    List.range' (max x tail) (tail + n - max x tail) := by
  induction n generalizing tail with
  | zero => simp
  | succ n ih =>
    rw [List.range'_succ, List.filter_cons, ih]
    by_cases hx : x ≤ tail
    · rw [if_pos (by simpa using hx), Nat.max_eq_right hx, Nat.max_eq_right (by omega), show tail + (n + 1) - tail = n + 1 by omega,
        List.range'_succ]
      congr 2; omega
    · rw [if_neg (by simpa using hx), Nat.max_eq_left (by omega), Nat.max_eq_left (by omega)]
      congr 1; omega

/-- A snapshot's records have consecutive numbers, the last of them below the head. -/
theorem snapshotAt_within {n x : Nat} (hj : JournalSound s.journal) (hx : x ≤ s.journal.headSeq) :
    (((snapshotAt n x s).head?.map Record.seq).getD x) + (snapshotAt n x s).length ≤ s.journal.headSeq := by
  obtain ⟨-, hh, hseq, -⟩ := hj
  have hpre := (snapshotRecords_prefix n (Config.responseBytes - preambleBytes)
    (s.journal.records.filter fun r => decide (x ≤ r.seq))).map Record.seq
  have hfil : (s.journal.records.filter fun r => decide (x ≤ r.seq)).map Record.seq =
      List.range' (max x s.journal.tailSeq) (s.journal.tailSeq + s.journal.records.length - max x s.journal.tailSeq) := by
    rw [← filter_ge_range', ← hseq, List.filter_map]
    rfl
  rw [hfil] at hpre
  have hlen := hpre.length_le
  change _ <+: _ at hpre
  rw [List.length_map, List.length_range'] at hlen
  change (((snapshotAt n x s).map Record.seq) <+: _) at hpre
  change (snapshotAt n x s).length ≤ _ at hlen
  cases hs : snapshotAt n x s with
  | nil => simpa using hx
  | cons r rest =>
    rw [hs] at hpre hlen
    simp only [List.length_cons] at hlen
    obtain ⟨m, hm⟩ : ∃ m, s.journal.tailSeq + s.journal.records.length - max x s.journal.tailSeq = m + 1 :=
      Nat.exists_eq_add_one.2 (by omega)
    rw [hm, List.range'_succ, List.map_cons, List.cons_prefix_cons] at hpre
    simp only [List.head?_cons, Option.map_some, Option.getD_some, List.length_cons, hpre.1]
    omega

theorem run_readNext (h : exec (.readNext p) s = .next t) : Run (.readNext p) s₀ s t := by
  simp only [exec, execReadNext, Host.Outcome.next.injEq] at h
  subst h
  by_cases hw : ∃ body, waits p .readNext body s
  · obtain ⟨body, hw⟩ := hw
    rw [takeRequest_of_waits _ hw]
    have hnone : ((withdrawn p s).port p).waiting = none := by simp [withdrawn]
    refine Acts.run (a := true) (.tail (act_withdrawn p s).acts ?_)
    split
    · split
      · exact act_respond hnone
      · refine .port (portMove_respond hnone fun hj hcur x y n hd => ?_)
        simp only [Delivery.readNext.injEq] at hd
        obtain ⟨-, rfl, rfl⟩ := hd
        exact ⟨rfl, snapshotAt_within hj (hcur p).2.1⟩
    · exact act_respond hnone
  · rw [takeRequest_of_other _ (not_exists.1 hw)]
    exact .refl s

theorem seekTo_within {f : SeekForm} {j : JournalUnit} (h : j.tailSeq ≤ j.headSeq) :
    j.tailSeq ≤ (seekTo f j).1 ∧ (seekTo f j).1 ≤ j.headSeq := by
  cases f with
  | number n => exact ⟨le_clampTo _ _ _, clampTo_le h⟩
  | oldest => exact ⟨le_rfl, h⟩
  | newest => exact ⟨h, le_rfl⟩

theorem run_seek (h : exec (.seek p) s = .next t) : Run (.seek p) s₀ s t := by
  simp only [exec, execSeek, Host.Outcome.next.injEq] at h
  subst h
  refine run_takeRequest (by simp) fun body _ => ?_
  split
  · exact answered_refused _ _ _ _ _ _ _
  · rename_i f _
    refine Acts.answered (a := true) (Act.acts (act_modPort (f := fun u => { u with cursor := (seekTo f (withdrawn p s).journal).1 })
      ⟨id, .inl rfl, .inr (.inl rfl), fun hj h => ?_, .inr fun _ h => h⟩))
    have hle : (withdrawn p s).journal.tailSeq ≤ (withdrawn p s).journal.headSeq := (h p).1.trans (h p).2.1
    exact ⟨(seekTo_within hle).1, (seekTo_within hle).2, (h p).2.2⟩

/-! ### Resets, the clock and the survey (R1 to R10) -/

theorem run_powerOn (h : exec .powerOn s = .next t) : Run .powerOn s₀ s t := by
  simp only [exec, execPowerOn, Host.Outcome.next.injEq] at h
  subst h
  exact (Act.reset (a := true) (.inl rfl)).run

theorem run_resetPin (h : exec .resetPin s = .next t) : Run .resetPin s₀ s t := by
  simp only [exec, execResetPin, Host.Outcome.next.injEq] at h
  subst h
  exact (Act.reset (a := true) (.inr rfl)).run

theorem run_surveyClockTick (h : exec .surveyClockTick s = .next t) : Run .surveyClockTick s₀ s t :=
  (Act.tick (a := true) rfl h).run

theorem live_of_state (h : s.survey.state ≠ .idle) : StopSound s → s.survey.state ≠ .idle := fun _ => h

theorem live_of_running (h : s.running = true) : StopSound s → s.survey.state ≠ .idle := fun _ => by
  rw [((running_iff s).1 h).1]; decide

theorem startRefusal_none_iff {v : StartValues} : startRefusal v s = none ↔
    s.survey.state ≠ .running ∧ ¬ (s.survey.state = .stopped ∧ s.comp.queue ≠ []) ∧ ¬ (v.freq ≠ 50 ∧ v.freq ≠ 60) ∧
      ¬ Config.dayMs ≤ v.time := by
  unfold startRefusal
  by_cases h1 : s.survey.state = .running <;> by_cases h2 : s.survey.state = .stopped ∧ s.comp.queue ≠ [] <;>
    by_cases h3 : v.freq ≠ 50 ∧ v.freq ≠ 60 <;> by_cases h4 : Config.dayMs ≤ v.time <;> simp [h1, h2, h3, h4]

theorem run_surveyStart (h : exec (.surveyStart p) s = .next t) : Run (.surveyStart p) s s t := by
  simp only [exec, execSurveyStart, Host.Outcome.next.injEq] at h
  subst h
  refine run_takeRequest (by simp) fun body _ => ?_
  split
  · rename_i v _
    split
    · exact answered_refused _ _ _ _ _ _ _
    · split
      · exact answered_refused _ _ _ _ _ _ _
      · rename_i hlen _ hnone
        rw [startRefusal_withdrawn, startRefusal_none_iff] at hnone
        obtain ⟨hr, hq, -⟩ := hnone
        refine Acts.answered (a := true) (Act.acts (.start rfl (by simpa using hr) (fun hidle => ?_) (by omega)))
        rw [withdrawn_comp]
        cases hst : s.survey.state with
        | idle => exact (hidle hst).2.2
        | running => exact absurd hst hr
        | stopped => exact not_not.1 fun hne => hq ⟨hst, hne⟩
  · exact answered_refused _ _ _ _ _ _ _

theorem run_surveyStop (h : exec (.surveyStop p) s = .next t) : Run (.surveyStop p) s₀ s t := by
  simp only [exec, execSurveyStop, Host.Outcome.next.injEq] at h
  subst h
  refine run_takeRequest (by simp) fun body _ => ?_
  split
  · exact answered_refused _ _ _ _ _ _ _
  · split
    · exact Acts.answered (a := true) (Act.acts (.stop ‹_› (by simp)))
    · exact answered_refused _ _ _ _ _ _ _

theorem run_surveyClear (h : exec (.surveyClear p) s = .next t) : Run (.surveyClear p) s₀ s t := by
  simp only [exec, execSurveyClear, Host.Outcome.next.injEq] at h
  subst h
  refine run_takeRequest (by simp) fun body _ => ?_
  split
  · exact answered_refused _ _ _ _ _ _ _
  · split
    · exact answered_refused _ _ _ _ _ _ _
    · split
      · exact answered_refused _ _ _ _ _ _ _
      · exact Acts.answered (a := true) (Act.acts (.clear rfl (not_not.1 ‹_›) (not_not.1 ‹_›)))

theorem acts_checkLimit (s : State) : Acts c s₀ a s (checkLimit s) := by
  unfold checkLimit
  split
  · rename_i h
    exact Act.acts (.stop (Bool.and_eq_true_iff.1 h).1 (by decide))
  · exact .refl

theorem run_seqLimitStop (h : exec .seqLimitStop s = .next t) : Run .seqLimitStop s₀ s t := by
  simp only [exec, execSeqLimitStop, Host.Outcome.next.injEq] at h
  subst h
  exact (acts_checkLimit (a := true) s).run

/-- The old wall time takes at most a free value. -/
theorem oldWallTime_state (s : State) : ∃ n, (oldWallTime s).2.2 = { s with free := n } := by
  unfold oldWallTime
  dsimp only
  split
  · exact ⟨_, rfl⟩
  · exact ⟨s.free, rfl⟩

/-- An accepted SET_TIME is an append, an entry of the table, and the limit test. -/
theorem stepTime_some {date ms : Nat} (h : stepTime p date ms s = some t) :
    ∃ n u, Appends { s with free := n } u ∧
      t = checkLimit (u.setSurvey { u.survey with steps := u.survey.steps ++ [⟨u.survey.clock, date, ms⟩] }) := by
  obtain ⟨n, hn⟩ := oldWallTime_state s
  simp only [stepTime, Option.map_eq_some_iff] at h
  obtain ⟨u, hu, rfl⟩ := h
  exact ⟨n, u, hn ▸ appends_portAppend hu, rfl⟩

theorem run_setTime (h : exec (.setTime p) s = .next t) : Run (.setTime p) s s t := by
  simp only [exec, execSetTime, Host.Outcome.next.injEq] at h
  subst h
  refine run_takeRequest (by simp) fun body _ => ?_
  split
  · exact answered_refused _ _ _ _ _ _ _
  · split
    · exact answered_refused _ _ _ _ _ _ _
    · split
      · exact answered_refused _ _ _ _ _ _ _
      · split
        · exact answered_refused _ _ _ _ _ _ _
        · split
          · exact answered_refused _ _ _ _ _ _ _
          · split
            · exact answered_refused _ _ _ _ _ _ _
            · rename_i hidle _ _ hfull _ u hu
              obtain ⟨n, v, happ, rfl⟩ := stepTime_some hu
              have hst : v.survey.state = s.survey.state := by rw [happ.beside.surveyState]; simp
              have hsteps : v.survey.steps = s.survey.steps := by rw [happ.beside.steps]; simp
              rw [withdrawn_survey] at hidle hfull
              refine Acts.answered (a := true) (.trans (.tail (.tail (Act.acts (.free n)) (.journal (live_of_state hidle) happ))
                (.timeStep ⟨p, rfl⟩ ?_ ?_)) (acts_checkLimit _))
              · rwa [hst]
              · rw [hsteps]; omega

/-! ### Appends (R20, R21) -/

/-- The capture's part of an answer to a WAVE append: its ring, its settings and whether it is capturing are as they were. -/
theorem waveAnswered_shape (r : State × Option Nat) : ∃ k : CaptureUnit,
    waveAnswered r = { r.1 with cap := k } ∧ k.ring = r.1.cap.ring ∧ k.cur = r.1.cap.cur ∧ k.pre = r.1.cap.pre ∧
      k.post = r.1.cap.post ∧ k.capturing = r.1.cap.capturing := by
  unfold waveAnswered
  dsimp only
  split <;> exact ⟨_, rfl, rfl, rfl, rfl, rfl, rfl⟩

/-- The capture's change that leaves ring, settings and CAPTURING. -/
theorem act_cap_kept {k : CaptureUnit} (hr : k.ring = s.cap.ring) (hcur : k.cur = s.cap.cur) (hpre : k.pre = s.cap.pre)
    (hpost : k.post = s.cap.post) (hd : k.capturing = true → s.cap.capturing = true ∨ mayOpen Blocks.capture s) :
    Act c s₀ a s { s with cap := k } := by
  refine .cap (.inl (by simp [settingsOf, hpre, hpost])) (fun h => ?_) hd
  rwa [RingSound, hr, hcur]

theorem acts_waveAnswered {b : Body} {test : Bool} (live : StopSound s₀ → s₀.survey.state ≠ .idle) :
    Acts c s₀ true s (waveAnswered (hardwareAppend b test s)) := by
  obtain ⟨k, e, hr, hcur, hpre, hpost, hcap⟩ := waveAnswered_shape (hardwareAppend b test s)
  rw [e]
  exact .tail (Act.acts (.journal live (appends_hardwareAppend b test s))) (act_cap_kept hr hcur hpre hpost fun h => .inl (hcap ▸ h))

theorem run_append {b : Body} {test : Bool} (h : exec (.append b test) s = .next t) : Run (.append b test) s s t := by
  simp only [exec, execAppend, Host.Outcome.next.injEq] at h
  subst h
  split
  · rename_i hrun
    have live : StopSound s → s.survey.state ≠ .idle := live_of_state (by rw [hrun.1]; decide)
    split
    · split
      · exact (acts_waveAnswered live).run
      · exact (Act.journal live (appends_hardwareAppend _ _ _)).run
    · exact (Act.journal live (appends_hardwareAppend _ _ _)).run
  · exact .refl s

end Sys2Proof.Machine

/-! The commands of the Sample Link Receiver are runs (R42 to R57). -/

namespace Sys2Proof.Machine

open Sys2Proof

variable {c : Instr} {s₀ s t : State} {p : Port} {a : Bool}

/-! ### Marks in RUNNING -/

theorem besideAppend_markInRunning (m : MarkBody) (s : State) : BesideAppend s (markInRunning m s) := by
  unfold markInRunning
  split
  · exact (appends_appendMark m s).beside
  · exact .refl s

theorem acts_markInRunning (m : MarkBody) (hsur : s.survey.state = s₀.survey.state) : Acts c s₀ true s (markInRunning m s) := by
  unfold markInRunning
  split
  · rename_i hrun
    refine Act.acts (.journal (live_of_state ?_) (appends_appendMark m s))
    rw [← hsur, ((running_iff s).1 hrun).1]
    decide
  · exact .refl

/-! ### The receiver's figures -/

/-- The figures of the receiver alone: all that `LinkSound` asks but the generator's part. -/
def linkFigures (l : LinkUnit) : Prop :=
  linkPlace l = true ∧ l.badRun ≤ 2 ∧ l.lowRun ≤ 352 ∧ l.badTotal ≤ 0xFFFFFFFF ∧ l.instants ≤ 0xFFFFFFFF

theorem linkSound_iff (s : State) : LinkSound s ↔ linkFigures s.link ∧ (s.gen.running = true ↔ s.link.state = .loopback) := by
  simp only [LinkSound, linkFigures, and_assoc]

/-- The sync words and the last good set are as they were. -/
abbrev linkKept (l l' : LinkUnit) : Prop :=
  l'.syncA = l.syncA ∧ l'.syncB = l.syncB ∧ l'.syncF = l.syncF ∧ l'.lastGood = l.lastGood

/-- A change of the receiver alone, with the messages it sends. -/
theorem act_link {l : LinkUnit} {f : Flight} (hsync : l.syncA = s.link.syncA ∧ l.syncB = s.link.syncB ∧ l.syncF = s.link.syncF)
    (hfig : linkFigures s.link → linkFigures l) (hstate : l.state = .loopback ↔ s.link.state = .loopback)
    (hs : SamplesSound s → SamplesSound { s with link := l, flight := f }) (hn : f.stopNotices = s.flight.stopNotices) :
    Act c s₀ a s { s with link := l, flight := f } := by
  obtain ⟨ha, hb, hf⟩ := hsync
  refine .link (g := s.gen) (.inl (by simp [settingsOf, ha, hb, hf])) (fun h => ?_) hs .inl hn
  rw [linkSound_iff] at h ⊢
  exact ⟨hfig h.1, h.2.trans hstate.symm⟩

/-- A change of the receiver that sends nothing. -/
theorem act_setLink {l : LinkUnit} (hk : linkKept s.link l) (hfig : linkFigures s.link → linkFigures l)
    (hstate : l.state = .loopback ↔ s.link.state = .loopback) : Act c s₀ a s (s.setLink l) :=
  act_link (f := s.flight) ⟨hk.1, hk.2.1, hk.2.2.1⟩ hfig hstate (fun h => by rwa [SamplesSound, hk.2.2.2]) rfl

theorem linkKept_refl (l : LinkUnit) : linkKept l l := ⟨rfl, rfl, rfl, rfl⟩

/-! ### What an arrival does to the figures -/

theorem linkFigures_shiftBit (b : Bool) {l : LinkUnit} (h : linkFigures l) : linkFigures (shiftBit b l) := by
  obtain ⟨h1, h2, h3, h4, h5⟩ := h
  refine ⟨h1, h2, ?_, h4, h5⟩
  simp only [shiftBit, satInc, Config.breakRun]
  split <;> omega

theorem linkFigures_toHunt {l : LinkUnit} (h : linkFigures l) : linkFigures (toHunt l) := ⟨rfl, h.2⟩

theorem linkFigures_huntCompare {l : LinkUnit} (h : linkFigures l) : linkFigures (huntCompare l) := by
  unfold huntCompare
  split
  · exact ⟨rfl, h.2⟩
  · exact h

theorem linkFigures_nextFrame {l : LinkUnit} (hl : l.state = .locked) (h : linkFigures l) : linkFigures (nextFrame l) :=
  ⟨by simp [linkPlace, nextFrame, hl], h.2⟩

theorem huntCompare_kept (l : LinkUnit) : linkKept l (huntCompare l) := by
  unfold huntCompare; split <;> exact linkKept_refl l

theorem huntCompare_loopback {l : LinkUnit} (h : l.state ≠ .loopback) : (huntCompare l).state ≠ .loopback := by
  unfold huntCompare; split
  · simp
  · exact h

theorem plainArrival_kept (l : LinkUnit) : linkKept l (plainArrival l) ∧ (plainArrival l).state = l.state := by
  unfold plainArrival
  split
  · exact ⟨linkKept_refl l, rfl⟩
  · split <;> exact ⟨linkKept_refl l, rfl⟩

/-- An arrival that completes nothing leaves the receiver's place in its range. -/
theorem linkFigures_plainArrival {b : Bool} {l : LinkUnit} (hk : arrivalKind b l = .plain) (h : linkFigures l) :
    linkFigures (plainArrival l) := by
  obtain ⟨hplace, h⟩ := h
  unfold plainArrival
  cases hw : l.wordPos with
  | none => exact ⟨hplace, h⟩
  | some n =>
    dsimp only
    cases hs : l.state with
    | confirm =>
      have hn : n ≠ 15 := by
        rintro rfl
        simp [arrivalKind, hs, wordDone, hw] at hk
      simp only [linkPlace, hs, hw, Option.getD_some, Bool.and_eq_true, decide_eq_true_eq] at hplace
      rw [if_pos (by omega)]
      exact ⟨by simp [linkPlace, hplace]; omega, h⟩
    | locked =>
      simp only [linkPlace, hs, hw, Option.getD_some, Bool.and_eq_true, decide_eq_true_eq] at hplace
      split
      · exact ⟨by simp [linkPlace, hplace]; omega, h⟩
      · refine ⟨?_, h⟩
        obtain rfl : n = 15 := by omega
        -- A word that completes a frame of eleven would be judged, and so be no plain arrival.
        have hlen : l.frame.length + 1 < 11 := by
          by_contra hge
          simp only [arrivalKind, hs, wordDone, hw, judgeWords, List.length_append, List.length_singleton, hge, if_false,
            beq_self_eq_true, if_true] at hk
          split at hk
          · simp at hk
          · revert hk
            split_ifs <;> simp
        simp [linkPlace]; omega
    | _ => simp [linkPlace, hs, hw] at hplace

/-! ### Samples -/

/-- A word other than 0x8000 is a sample of the part's range. -/
theorem natAbs_sampleOf {w : Word} (h : w ≠ 0x8000) : (sampleOf w).natAbs ≤ 32767 := by
  have hw := BitVec.toInt_eq_toNat_cond w
  have hl := w.isLt
  have hn : w.toNat ≠ 32768 := fun e => h (BitVec.eq_of_toNat_eq e)
  rw [sampleOf, hw]
  split <;> omega

/-- The samples of a set lie from -32767 to 32767. -/
def samplesInRange (x : Eight Int) : Prop := (x.toList.all fun v => decide (v.natAbs ≤ 32767)) = true

theorem samplesInRange_frameSamples {l : LinkUnit} {frame : List Word} (hg : goodData l frame = true) (hlen : 11 ≤ frame.length) :
    samplesInRange (frameSamples frame) := by
  simp only [goodData, Bool.and_eq_true, frameChannels, List.all_eq_true, bne_iff_ne] at hg
  have hword : ∀ i < 8, (sampleOf (frame.getD (i + 2) 0)).natAbs ≤ 32767 := by
    intro i hi
    refine natAbs_sampleOf (hg.1.2 _ ?_)
    rw [List.getD_eq_getElem _ _ (by omega)]
    refine List.mem_take_iff_getElem.2 ⟨i, by simp; omega, ?_⟩
    simp [Nat.add_comm]
  simp only [samplesInRange, frameSamples, Eight.ofFn, Eight.toList, List.all_cons, List.all_nil, Bool.and_true, Bool.and_eq_true,
    decide_eq_true_eq]
  exact ⟨hword 0 (by decide), hword 1 (by decide), hword 2 (by decide), hword 3 (by decide), hword 4 (by decide),
    hword 5 (by decide), hword 6 (by decide), hword 7 (by decide)⟩

/-- A set in range may be sent, and a set in range may become the last good one. -/
theorem samplesSound_sent {x : Eight Int} {held test : Bool} {l : LinkUnit} {g : Generator} {era : Nat} (h : SamplesSound s)
    (hx : samplesInRange x) (hl : samplesInRange l.lastGood) (hg : g.levelA ≤ 32767 ∧ g.levelB ≤ 32767) :
    SamplesSound { s with link := l, gen := g, flight := { s.flight with
      hcuIn := s.flight.hcuIn ++ [.set ⟨x, held, test, era⟩], capIn := s.flight.capIn ++ [.set ⟨x, held, test, era⟩] } } := by
  obtain ⟨h1, h2, h3, -, -, -⟩ := h
  refine ⟨h1, ?_, ?_, hl, hg⟩ <;> simp only [List.all_append, Bool.and_eq_true, List.all_cons, List.all_nil, Bool.and_true]
  · exact ⟨h2, hx⟩
  · exact ⟨h3, hx⟩

theorem samplesSound_lossSent {l : LinkUnit} (h : SamplesSound s) (hl : l.lastGood = s.link.lastGood) :
    SamplesSound { s with link := l, flight := { s.flight with
      hcuIn := s.flight.hcuIn ++ [.loss], capIn := s.flight.capIn ++ [.loss] } } := by
  obtain ⟨h1, h2, h3, h4, h5, h6⟩ := h
  refine ⟨h1, ?_, ?_, by rwa [hl], h5, h6⟩ <;> simp [*, setSound]

/-! ### Arrivals as acts -/

theorem act_setHuntCompare (h : s.link.state ≠ .loopback) : Act c s₀ a s (s.setLink (huntCompare s.link)) :=
  act_setLink (huntCompare_kept _) linkFigures_huntCompare (iff_of_false (huntCompare_loopback h) h)

theorem acts_enterLocked {filler : Bool} {frame : List Word} (hsur : s.survey.state = s₀.survey.state) (hf : frame.length ≤ 10)
    (h : s.link.state ≠ .loopback) : Acts c s₀ true s (enterLocked filler frame s) := by
  unfold enterLocked
  refine .trans (.trans ?_ (acts_raiseBoth .link _)) (acts_markInRunning _ hsur)
  refine Act.acts (act_setLink ⟨rfl, rfl, rfl, rfl⟩ (fun ⟨_, _, h3, h4, _⟩ => ?_) (iff_of_false (by simp) h))
  exact ⟨by simpa [linkPlace] using hf, Nat.zero_le _, h3, h4, Nat.zero_le _⟩

theorem acts_decideConfirm (hsur : s.survey.state = s₀.survey.state) (h : s.link.state ≠ .loopback) :
    Acts c s₀ true s (decideConfirm s) := by
  unfold decideConfirm
  dsimp only
  split
  · exact acts_enterLocked hsur (by simp) h
  · split
    · exact acts_enterLocked hsur (by simp) h
    · refine Act.acts (act_setLink (huntCompare_kept (toHunt s.link)) (fun hf => linkFigures_huntCompare (linkFigures_toHunt hf))
        (iff_of_false (huntCompare_loopback (by simp [toHunt])) h))

theorem act_takeGoodFrame (hl : s.link.state = .locked) (hg : samplesInRange (frameSamples (s.link.frame ++ [s.link.window]))) :
    Act c s₀ a s (takeGoodFrame s) :=
  act_link ⟨rfl, rfl, rfl⟩
    (fun ⟨h1, _, h3, h4, _⟩ => linkFigures_nextFrame hl ⟨h1, Nat.zero_le _, h3, h4, Nat.min_le_left _ _⟩) Iff.rfl
    (fun h => samplesSound_sent h hg hg h.2.2.2.2) rfl

theorem act_takeBadFrame (hl : s.link.state = .locked) (hb : s.link.badRun < 2) : Act c s₀ a s (takeBadFrame s) := by
  have hfig : ∀ n, n ≤ 0xFFFFFFFF → linkFigures s.link → linkFigures (nextFrame { s.link with
      badTotal := satInc Config.max32 s.link.badTotal, badRun := s.link.badRun + 1, instants := n }) := fun n hn ⟨h1, _, h3, _, _⟩ =>
    linkFigures_nextFrame hl ⟨h1, hb, h3, Nat.min_le_left _ _, hn⟩
  unfold takeBadFrame
  dsimp only
  split
  · exact act_setLink ⟨rfl, rfl, rfl, rfl⟩ (fun h => hfig _ h.2.2.2.2 h) Iff.rfl
  · exact act_link ⟨rfl, rfl, rfl⟩ (hfig _ (Nat.min_le_left _ _)) Iff.rfl
      (fun h => samplesSound_sent h h.2.2.2.1 h.2.2.2.1 h.2.2.2.2) rfl

/-- The receiver sends a source loss notice as it leaves for another state. -/
theorem act_sendLoss {l : LinkUnit} (hk : linkKept s.link l) (hfig : linkFigures s.link → linkFigures l)
    (hstate : l.state = .loopback ↔ s.link.state = .loopback) : Act c s₀ a s (sendLoss (s.setLink l)) :=
  act_link (l := { l with losses := l.losses + 1 }) ⟨hk.1, hk.2.1, hk.2.2.1⟩ hfig hstate
    (fun h => samplesSound_lossSent h hk.2.2.2) rfl

theorem acts_loseLock (r : DownReason) (hsur : s.survey.state = s₀.survey.state) (h : s.link.state ≠ .loopback) :
    Acts c s₀ true s (loseLock r s) := by
  unfold loseLock
  refine .trans (.trans ?_ (acts_raiseBoth .link _)) (acts_markInRunning _ hsur)
  exact Act.acts (act_sendLoss ⟨rfl, rfl, rfl, rfl⟩ linkFigures_toHunt (iff_of_false (by simp [toHunt]) h))

theorem loseLock_link (r : DownReason) (s : State) :
    (loseLock r s).link = { toHunt s.link with losses := s.link.losses + 1 } := by
  unfold loseLock
  rw [(besideAppend_markInRunning _ _).link]
  rfl

theorem acts_takeLossOfLock (hsur : s.survey.state = s₀.survey.state) (h : s.link.state ≠ .loopback) :
    Acts c s₀ true s (takeLossOfLock s) := by
  unfold takeLossOfLock
  dsimp only
  refine .tail ?_ (act_setHuntCompare ?_)
  · refine .trans ?_ (acts_loseLock .badFrames hsur h)
    exact Act.acts (act_setLink ⟨rfl, rfl, rfl, rfl⟩
      (fun ⟨h1, _, h3, _, h5⟩ => ⟨h1, Nat.zero_le _, h3, Nat.min_le_left _ _, h5⟩) Iff.rfl)
  · rw [loseLock_link]; simp [toHunt]

theorem acts_enterBreak (hsur : s.survey.state = s₀.survey.state) (h : s.link.state ≠ .loopback) :
    Acts c s₀ true s (enterBreak s) := by
  have hfig : linkFigures s.link →
      linkFigures { s.link with state := .brk, wordPos := none, frame := [], badRun := 0 } :=
    fun ⟨_, _, h⟩ => ⟨rfl, Nat.zero_le _, h⟩
  unfold enterBreak
  dsimp only
  split
  · have hloss : Acts c s₀ true s (raiseBoth .link (sendLoss (s.setLink
        { s.link with state := .brk, wordPos := none, frame := [], badRun := 0 }))) := by
      refine .trans ?_ (acts_raiseBoth _ _)
      exact Act.acts (act_sendLoss ⟨rfl, rfl, rfl, rfl⟩ hfig (iff_of_false (by simp) h))
    split
    · rename_i hrun
      refine .tail hloss (.journal (live_of_state ?_) (appends_appendTwoMarks _ _ _))
      have hst : s.survey.state = .running := ((running_iff _).1 hrun).1
      rw [← hsur, hst]
      decide
    · exact hloss
  · refine .trans (.trans ?_ (acts_raiseBoth .link _)) (acts_markInRunning _ hsur)
    exact Act.acts (act_setLink ⟨rfl, rfl, rfl, rfl⟩ hfig (iff_of_false (by simp) h))

theorem acts_leaveBreak (h : s.link.state ≠ .loopback) : Acts c s₀ a s (leaveBreak s) :=
  .trans (Act.acts (act_setLink (huntCompare_kept (toHunt s.link)) (fun hf => linkFigures_huntCompare (linkFigures_toHunt hf))
    (iff_of_false (huntCompare_loopback (by simp [toHunt])) h))) (acts_raiseBoth .link _)

theorem act_shiftBit (b : Bool) (s : State) : Act c s₀ a s (s.setLink (shiftBit b s.link)) :=
  act_setLink ⟨rfl, rfl, rfl, rfl⟩ (linkFigures_shiftBit b) Iff.rfl

/-- The state of the receiver on an arrival that is not plain: none is taken in LOOPBACK, and a frame ends in LOCKED alone. -/
theorem arrivalKind_state {b : Bool} {l : LinkUnit} (h : arrivalKind b l ≠ .plain) : l.state ≠ .loopback := by
  intro hs
  simp [arrivalKind, hs] at h

/-- The kinds of arrival that a whole frame is. -/
theorem judgeWords_of_arrivalKind {b : Bool} {l : LinkUnit} {k : ArrivalKind} (h : arrivalKind b l = k)
    (hk : k = .goodDataFrame ∨ k = .fillerFrame ∨ k = .badFrame ∨ k = .lossOfLock) :
    l.state = .locked ∧ judgeWords l (l.frame ++ [l.window]) = k := by
  unfold arrivalKind at h
  split at h
  · rcases hk with rfl | rfl | rfl | rfl <;> simp at h
  · split at h
    · rcases hk with rfl | rfl | rfl | rfl <;> simp at h
    · split at h <;> rcases hk with rfl | rfl | rfl | rfl <;> simp at h
  · split at h <;> rcases hk with rfl | rfl | rfl | rfl <;> simp at h
  · split at h
    · rcases hk with rfl | rfl | rfl | rfl <;> simp at h
    · split at h
      · exact ⟨‹_›, h⟩
      · rcases hk with rfl | rfl | rfl | rfl <;> simp at h
  · split at h <;> rcases hk with rfl | rfl | rfl | rfl <;> simp at h

theorem good_of_judgeWords {l : LinkUnit} {frame : List Word} (h : judgeWords l frame = .goodDataFrame) :
    goodData l frame = true ∧ 11 ≤ frame.length := by
  unfold judgeWords at h
  dsimp only at h
  split at h
  · split at h
    · simp at h
    · split at h <;> simp at h
  · split at h
    · simp at h
    · split at h
      · exact ⟨‹_›, by omega⟩
      · split at h <;> simp at h

theorem run_of_judgeWords {l : LinkUnit} {frame : List Word} (h : judgeWords l frame = .badFrame) : l.badRun < 2 := by
  by_contra hge
  unfold judgeWords at h
  simp only [show 2 ≤ l.badRun by omega, if_true] at h
  revert h
  split_ifs <;> simp

theorem acts_takeBit (b : Bool) (hsur : s.survey.state = s₀.survey.state) : Acts c s₀ true s (takeBit b s) := by
  have hshift : Acts c s₀ true s (s.setLink (shiftBit b s.link)) := (act_shiftBit b s).acts
  unfold takeBit
  dsimp only
  split
  · rename_i hk
    obtain ⟨hkept, hst⟩ := plainArrival_kept (shiftBit b s.link)
    exact Act.acts (act_setLink hkept (fun h => linkFigures_plainArrival hk (linkFigures_shiftBit b h)) (by rw [hst]; rfl))
  · rename_i hk
    exact .tail hshift (act_setHuntCompare (arrivalKind_state (b := b) (by simp [hk])))
  · rename_i hk
    exact .trans hshift (acts_decideConfirm hsur (arrivalKind_state (b := b) (by simp [hk])))
  · rename_i hk
    obtain ⟨hl, hj⟩ := judgeWords_of_arrivalKind hk (by simp)
    obtain ⟨hg, hlen⟩ := good_of_judgeWords hj
    exact .tail hshift (act_takeGoodFrame hl (samplesInRange_frameSamples hg hlen))
  · rename_i hk
    obtain ⟨hl, -⟩ := judgeWords_of_arrivalKind hk (by simp)
    exact .tail hshift (act_setLink ⟨rfl, rfl, rfl, rfl⟩ (linkFigures_nextFrame hl) Iff.rfl)
  · rename_i hk
    obtain ⟨hl, hj⟩ := judgeWords_of_arrivalKind hk (by simp)
    exact .tail hshift (act_takeBadFrame hl (run_of_judgeWords hj))
  · rename_i hk
    exact .trans hshift (acts_takeLossOfLock hsur (arrivalKind_state (b := b) (by simp [hk])))
  · rename_i hk
    exact .trans hshift (acts_enterBreak hsur (arrivalKind_state (b := b) (by simp [hk])))
  · rename_i hk
    exact .trans hshift (acts_leaveBreak (arrivalKind_state (b := b) (by simp [hk])))

theorem run_takeBit (b : Bool) (s : State) : Run c s s (takeBit b s) := (acts_takeBit b rfl).run

theorem run_takeBitAs (k : ArrivalKind) (b : Bool) (s : State) : Run c s s (takeBitAs k b s) := by
  unfold takeBitAs
  split
  · exact run_takeBit b s
  · exact .refl s

/-- A changed sync word at the receiver (R45). -/
theorem acts_syncChanged (hsur : s.survey.state = s₀.survey.state) : Acts c s₀ true s (syncChanged s) := by
  unfold syncChanged
  split
  · rename_i hs
    exact Act.acts (act_setLink ⟨rfl, rfl, rfl, rfl⟩ linkFigures_toHunt (iff_of_false (by simp [toHunt]) (by rw [hs]; simp)))
  · rename_i hs
    exact acts_loseLock _ hsur (by rw [hs]; simp)
  · exact .refl

end Sys2Proof.Machine

/-! Blocks leaving the stop sequence (R5), and the commands of the Test Frame Generator, are runs (R58 to R63). -/

namespace Sys2Proof.Machine

open Sys2Proof

variable {c : Instr} {s₀ s t : State} {p : Port} {a : Bool}

/-! ### A block leaves the set (R5) -/

/-- The detector has taken its notice and has nothing left, and so its notice is no longer on its way. -/
theorem stopSound_leaveDetector (hd : detectorDone s.det = true) (ht : s.det.stopTaken = true) (h : StopSound s) :
    StopSound { s with
      det := { s.det with stopTaken := false }
      survey := { s.survey with yetToFinish := leaveDetector s.survey.yetToFinish } } := by
  obtain ⟨h1, h2, h3, h4, h5, h6⟩ := h
  have hn := (h4 ht).2
  refine ⟨h1, fun hp => ?_, ?_, fun htk => (Bool.false_ne_true htk).elim, fun hp => ?_, fun hst => ?_⟩
  · obtain ⟨hy, hno, -⟩ := h2 hp
    exact ⟨by simp [leaveDetector, hy, Blocks.empty], hno, rfl⟩
  · revert h3; simp [Blocks.within, leaveDetector, hn]
  · have := h5 hp
    revert this
    change detectorDone { s.det with stopTaken := false } = true at hd
    simp [Blocks.within, Blocks.others, leaveDetector, blockDone, hd]
    tauto
  · have := h6 hst
    simp [blockDone, ht] at this

theorem stopSound_leaveCapture (hn : s.flight.stopNotices.capture = false) (hd : s.cap.capturing = false) (h : StopSound s) :
    StopSound (s.setSurvey { s.survey with yetToFinish := leaveCapture s.survey.yetToFinish }) := by
  obtain ⟨h1, h2, h3, h4, h5, h6⟩ := h
  refine ⟨h1, fun hp => ?_, ?_, h4, fun hp => ?_, h6⟩
  · obtain ⟨hy, hrest⟩ := h2 hp
    exact ⟨by simp [leaveCapture, hy, Blocks.empty], hrest⟩
  · revert h3; simp [Blocks.within, leaveCapture, hn]
  · have := h5 hp
    revert this
    simp [Blocks.within, Blocks.others, leaveCapture, blockDone, hd]

theorem stopSound_leaveAggregator (hn : s.flight.stopNotices.aggregator = false) (hd : s.agg.current = none) (h : StopSound s) :
    StopSound (s.setSurvey { s.survey with yetToFinish := leaveAggregator s.survey.yetToFinish }) := by
  obtain ⟨h1, h2, h3, h4, h5, h6⟩ := h
  refine ⟨h1, fun hp => ?_, ?_, h4, fun hp => ?_, h6⟩
  · obtain ⟨hy, hrest⟩ := h2 hp
    exact ⟨by simp [leaveAggregator, hy, Blocks.empty], hrest⟩
  · revert h3; simp [Blocks.within, leaveAggregator, hn]
  · have := h5 hp
    revert this
    simp [Blocks.within, Blocks.others, leaveAggregator, blockDone, hd]

theorem stopSound_leaveGenerator (hn : s.flight.stopNotices.generator = false) (hd : s.gen.running = false) (h : StopSound s) :
    StopSound (s.setSurvey { s.survey with yetToFinish := leaveGenerator s.survey.yetToFinish }) := by
  obtain ⟨h1, h2, h3, h4, h5, h6⟩ := h
  refine ⟨h1, fun hp => ?_, ?_, h4, fun hp => ?_, h6⟩
  · obtain ⟨hy, hrest⟩ := h2 hp
    exact ⟨by simp [leaveGenerator, hy, Blocks.empty], hrest⟩
  · revert h3; simp [Blocks.within, leaveGenerator, hn]
  · have := h5 hp
    revert this
    simp [Blocks.within, Blocks.others, leaveGenerator, blockDone, hd]

theorem stopping_iff (s : State) : s.stopping = true ↔ s.survey.stopPending ≠ .none := by simp [State.stopping]

/-- A stop that was pending when the command began finds the survey in RUNNING. -/
theorem live_of_pending (h : StopSound s → s.survey.stopPending ≠ .none) : StopSound s → s.survey.state ≠ .idle := fun hs => by
  rw [hs.1 (h hs)]; decide

/-- The acts of an append leave a pending stop and the blocks yet to finish as they are. -/
theorem pending_appends (h : Appends s t) (hp : s.survey.stopPending ≠ .none) :
    t.survey.stopPending = s.survey.stopPending ∧ t.survey.yetToFinish = s.survey.yetToFinish := by
  induction h with
  | refl => exact ⟨rfl, rfl⟩
  | tail _ hact ih =>
    obtain ⟨e, -⟩ | ⟨hrun, -⟩ := hact.survey
    · rw [e]; exact ih
    · exact absurd (((running_iff _).1 hrun).2) (ih.1 ▸ hp)

/-- While a stop is pending an append leaves the stop notices as they are. -/
theorem notices_appends (h : Appends s t) (hp : s.survey.stopPending ≠ .none) : t.flight.stopNotices = s.flight.stopNotices := by
  induction h with
  | refl => rfl
  | @tail u v hu hact ih =>
    obtain ⟨-, e⟩ | ⟨hrun, -⟩ := hact.survey
    · rw [e]; exact ih
    · exact absurd (((running_iff u).1 hrun).2) ((pending_appends hu hp).1 ▸ hp)

/-- A block that has nothing open leaves the set, and the last one completes the stop. -/
theorem acts_finishBlock_of_det {leave : Blocks → Blocks} {d : DetectorUnit} (hd : d = s.det ∨ d = { s.det with stopTaken := false })
    (hs : StopSound s₀ → StopSound s →
      StopSound { s with det := d, survey := { s.survey with yetToFinish := leave s.survey.yetToFinish } })
    (hg : (leave s.survey.yetToFinish).aggregator = false → s.survey.yetToFinish.aggregator = false ∨ s.agg.current = none)
    (h0 : StopSound s₀ → s₀.survey.stopPending ≠ .none) : Acts c s₀ true s (finishBlock leave { s with det := d }) := by
  have hleave : Acts c s₀ true s { s with det := d, survey := { s.survey with yetToFinish := leave s.survey.yetToFinish } } :=
    Act.acts (.leave hd hs hg)
  unfold finishBlock
  dsimp only
  split
  · rename_i hlast
    obtain ⟨hempty, hstop⟩ := hlast
    have hp := (stopping_iff s).1 hstop
    have happ := appends_appendMark (.surveyStop (match s.survey.stopPending with | .request p => .request p | _ => .seqLimit))
      { s with det := d, survey := { s.survey with yetToFinish := leave s.survey.yetToFinish } }
    obtain ⟨e1, e2⟩ := pending_appends happ hp
    refine .tail (.tail hleave (.journal (live_of_pending h0) happ)) (.stopped ?_ ?_ h0)
    · rw [e1]; exact hp
    · rw [e2]; exact hempty
  · exact hleave

theorem acts_finishBlock {leave : Blocks → Blocks}
    (hs : StopSound s₀ → StopSound s → StopSound (s.setSurvey { s.survey with yetToFinish := leave s.survey.yetToFinish }))
    (hg : (leave s.survey.yetToFinish).aggregator = false → s.survey.yetToFinish.aggregator = false ∨ s.agg.current = none)
    (h0 : StopSound s₀ → s₀.survey.stopPending ≠ .none) : Acts c s₀ true s (finishBlock leave s) :=
  acts_finishBlock_of_det (.inl rfl) hs hg h0

/-! ### Stop notices (R5) -/

theorem within_leaveCapture (b : Blocks) : (leaveCapture b).within b = true := by
  obtain ⟨_ | _, _ | _, _ | _, _ | _⟩ := b <;> decide

theorem within_leaveAggregator (b : Blocks) : (leaveAggregator b).within b = true := by
  obtain ⟨_ | _, _ | _, _ | _, _ | _⟩ := b <;> decide

theorem within_leaveGenerator (b : Blocks) : (leaveGenerator b).within b = true := by
  obtain ⟨_ | _, _ | _, _ | _, _ | _⟩ := b <;> decide

theorem within_refl (b : Blocks) : b.within b = true := by
  obtain ⟨_ | _, _ | _, _ | _, _ | _⟩ := b <;> decide

theorem within_empty {b : Blocks} (h : b.within .empty = true) : b = .empty := by
  obtain ⟨_ | _, _ | _, _ | _, _ | _⟩ := b <;> first | rfl | exact absurd h (by decide)

/-- A notice is on its way only while a stop is pending. -/
theorem pending_of_notice (hn : s.flight.stopNotices ≠ .empty) : StopSound s → s.survey.stopPending ≠ .none :=
  fun h hp => hn (h.2.1 hp).2.1

/-- Messages on their way that a command takes or sends, samples and stop notices apart. -/
theorem act_flight {f : Flight} (hin : f.hcuIn = s.flight.hcuIn) (hcap : f.capIn = s.flight.capIn)
    (hn : f.stopNotices.within s.flight.stopNotices = true) : Act c s₀ a s { s with flight := f } :=
  .flow (h := s.hcu) (.inl rfl) id (fun h => by simpa [SamplesSound, hin, hcap] using h) hn

/-! ### The generator stops (R62) -/

/-- A running generator has the survey in RUNNING. -/
theorem live_of_generator (hg : s.gen.running = true) : StopSound s → s.survey.state ≠ .idle := fun h hi => by
  have := h.2.2.2.2.2 (by rw [hi]; decide)
  simp [blockDone, hg] at this

theorem leaveLoopback_acts (s : State) : Acts c s₀ a (returned s) (leaveLoopback s) := by
  unfold leaveLoopback returned
  split
  · exact acts_raiseBoth .link _
  · exact .refl

theorem acts_stopGenerator (r : OffReason) (live : StopSound s₀ → s₀.survey.state ≠ .idle) :
    Acts c s₀ true s (stopGenerator r s) :=
  .trans (Act.acts (.generatorOff live (appends_appendMark _ _))) (leaveLoopback_acts _)

theorem stopGenerator_off (r : OffReason) (s : State) : (stopGenerator r s).gen.running = false := by
  have hg := (appends_appendMark (.selftestOff r s.gen.repeatsDone s.gen.frames) (s.setGen { s.gen with running := false })).beside.gen
  unfold stopGenerator leaveLoopback
  dsimp only
  split <;> exact congrArg Generator.running hg

theorem stopGenerator_notices (r : OffReason) (hp : s.survey.stopPending ≠ .none) :
    (stopGenerator r s).flight.stopNotices = s.flight.stopNotices := by
  have hn := notices_appends (appends_appendMark (.selftestOff r s.gen.repeatsDone s.gen.frames)
    (s.setGen { s.gen with running := false })) hp
  unfold stopGenerator leaveLoopback
  dsimp only
  split <;> exact hn

/-! ### Generated frames (R61) -/

theorem natAbs_sine (j : Nat) : (sine j).natAbs ≤ 32767 := by
  have hq : ∀ i, quarterSine.getD i 0 ≤ 32767 := by
    intro i
    have hall : ∀ x ∈ quarterSine, x ≤ 32767 := by decide
    rw [List.getD_eq_getElem?_getD]
    cases hi : quarterSine[i]? with
    | none => exact Nat.zero_le _
    | some x => exact hall x (List.mem_of_getElem? hi)
  unfold sine
  split
  · rw [Int.natAbs_natCast]; exact hq j
  · split
    · rw [Int.natAbs_natCast]; exact hq (128 - j)
    · split
      · rw [Int.natAbs_neg, Int.natAbs_natCast]; exact hq (j - 128)
      · rw [Int.natAbs_neg, Int.natAbs_natCast]; exact hq (256 - j)

theorem natAbs_testSample {g : Generator} (ha : g.levelA ≤ 32767) (hb : g.levelB ≤ 32767) (o : Nat) :
    (testSample g o).natAbs ≤ 32767 := by
  have hl : currentLevel g ≤ 32767 := by unfold currentLevel; split <;> assumption
  have hm : ((currentLevel g : Int) * sine ((g.k + o) % 256)).natAbs ≤ 32767 * 32767 := by
    rw [Int.natAbs_mul, Int.natAbs_natCast]
    exact Nat.mul_le_mul hl (natAbs_sine _)
  unfold testSample
  generalize (currentLevel g : Int) * sine ((g.k + o) % 256) = m at hm ⊢
  omega

theorem samplesInRange_testSamples {g : Generator} (ha : g.levelA ≤ 32767) (hb : g.levelB ≤ 32767) :
    samplesInRange (testSamples g) := by
  simp [samplesInRange, testSamples, Eight.toList, natAbs_testSample ha hb]

theorem linkFigures_takeGood {x : Eight Int} {l : LinkUnit} (h : linkFigures l) : linkFigures (takeGood x l) :=
  ⟨h.1, Nat.zero_le _, h.2.2.1, h.2.2.2.1, Nat.min_le_left _ _⟩

theorem act_deliverTest (s : State) : Act c s₀ a s (deliverTest s) := by
  refine .link (g := s.gen) (.inl rfl) (fun h => ?_) (fun h => ?_) .inl rfl
  · rw [linkSound_iff] at h ⊢
    exact ⟨linkFigures_takeGood h.1, h.2⟩
  · have hx := samplesInRange_testSamples h.2.2.2.2.1 h.2.2.2.2.2
    exact samplesSound_sent h hx hx h.2.2.2.2

/-- The generator goes on with its program: its levels stay, and it runs as before. -/
theorem act_setGen {g : Generator} (hr : g.running = s.gen.running) (ha : g.levelA = s.gen.levelA) (hb : g.levelB = s.gen.levelB) :
    Act c s₀ a s (s.setGen g) :=
  .link (l := s.link) (f := s.flight) (.inl rfl) (fun h => by simpa [linkSound_iff, hr] using h)
    (fun h => by simpa [SamplesSound, ha, hb] using h) (fun h => .inl (hr ▸ h)) rfl

theorem changePhase_kept (g : Generator) : (changePhase g).1.running = g.running ∧ (changePhase g).1.levelA = g.levelA ∧
    (changePhase g).1.levelB = g.levelB := by
  unfold changePhase
  split
  · dsimp only; split <;> exact ⟨rfl, rfl, rfl⟩
  · exact ⟨rfl, rfl, rfl⟩

theorem acts_takeTestFrame (live : StopSound s₀ → s₀.survey.state ≠ .idle) : Acts c s₀ true s (takeTestFrame s) := by
  have hset : Acts c s₀ true s (deliverTest s) := (act_deliverTest s).acts
  unfold takeTestFrame
  dsimp only
  split
  · obtain ⟨h1, h2, h3⟩ := changePhase_kept (countFrame (deliverTest s).gen)
    split
    · exact .trans (.tail hset (act_setGen h1 h2 h3)) (acts_stopGenerator _ live)
    · exact .tail hset (act_setGen h1 h2 h3)
  · split
    · exact .tail hset (act_setGen rfl rfl rfl)
    · exact .tail hset (act_setGen rfl rfl rfl)

theorem run_testFrame (h : exec .testFrame s = .next t) : Run .testFrame s s t := by
  simp only [exec, execTestFrame, Host.Outcome.next.injEq] at h
  subst h
  split
  · exact (acts_takeTestFrame (live_of_generator ‹_›)).run
  · exact .refl s

theorem run_phaseChange (h : exec .phaseChange s = .next t) : Run .phaseChange s s t := by
  simp only [exec, execPhaseChange, Host.Outcome.next.injEq] at h
  subst h
  split
  · rename_i hrun
    exact (acts_takeTestFrame (live_of_generator (Bool.and_eq_true_iff.1 hrun).1)).run
  · exact .refl s

/-! ### The self-test (R59, R60, R63) -/

/-- LOOPBACK is entered as the generator starts, from whatever state the receiver was in. -/
theorem act_startGenerator {v : TestValues} (hrun : s.running = true) (ha : v.levelA ≤ 32767) (hb : v.levelB ≤ 32767) :
    Act c s₀ a s (enterLoopback (s.setGen (startGenerator v))) := by
  have hfig : ∀ l : LinkUnit, linkFigures l → linkFigures { toHunt l with state := .loopback, lowRun := 0 } :=
    fun _ ⟨_, h2, _, h4⟩ => ⟨rfl, h2, Nat.zero_le _, h4⟩
  unfold enterLoopback
  dsimp only
  split
  · refine .link (.inl rfl) (fun h => ?_) (fun h => ?_) (fun _ => .inr (mayOpen_of_running hrun)) rfl
    · rw [linkSound_iff] at h ⊢
      exact ⟨hfig s.link h.1, iff_of_true rfl rfl⟩
    · obtain ⟨h1, h2, h3, h4, -, -⟩ := h
      refine ⟨h1, ?_, ?_, h4, ha, hb⟩ <;> simp [toHunt, setSound, h2, h3]
  · refine .link (f := s.flight) (.inl rfl) (fun h => ?_) (fun ⟨h1, h2, h3, h4, _, _⟩ => ⟨h1, h2, h3, h4, ha, hb⟩)
      (fun _ => .inr (mayOpen_of_running hrun)) rfl
    rw [linkSound_iff] at h ⊢
    obtain ⟨-, -, h3, h4⟩ := hfig s.link h.1
    exact ⟨⟨rfl, Nat.zero_le _, h3, h4⟩, iff_of_true rfl rfl⟩

theorem run_selftestStart (h : exec (.selftestStart p) s = .next t) : Run (.selftestStart p) s s t := by
  simp only [exec, execSelftestStart, Host.Outcome.next.injEq] at h
  subst h
  refine run_takeRequest (by simp) fun body _ => ?_
  split
  · exact answered_refused _ _ _ _ _ _ _
  · rename_i v _
    split
    · exact answered_refused _ _ _ _ _ _ _
    · rename_i hrun
      replace hrun : (withdrawn p s).running = true := by simpa using hrun
      split
      · exact answered_refused _ _ _ _ _ _ _
      · have live : StopSound s → s.survey.state ≠ .idle := live_of_running (by simpa using hrun)
        have hlevel : ∀ x, min 32767 x ≤ 32767 := fun _ => Nat.min_le_left _ _
        have hstart : Acts (.selftestStart p) s true (withdrawn p s)
            (raiseBoth .link (enterLoopback ((withdrawn p s).setGen (startGenerator (clampTest v))))) :=
          .trans (Act.acts (act_startGenerator hrun (hlevel _) (hlevel _))) (acts_raiseBoth .link _)
        exact Acts.answered (.tail hstart (.journal live (appends_appendMark _ _)))

theorem run_selftestStop (h : exec (.selftestStop p) s = .next t) : Run (.selftestStop p) s s t := by
  simp only [exec, execSelftestStop, Host.Outcome.next.injEq] at h
  subst h
  refine run_takeRequest (by simp) fun body _ => ?_
  split
  · exact answered_refused _ _ _ _ _ _ _
  · split
    · rename_i hg
      exact (acts_stopGenerator _ (live_of_generator (by simpa using hg))).answered
    · exact answered_refused _ _ _ _ _ _ _

/-- A generator that is still running stops at its notice, and the block leaves the set (R62). -/
theorem acts_noticeGenerator (hp : StopSound s₀ → s.survey.stopPending ≠ .none) (hn : s.flight.stopNotices.generator = false)
    (h0 : StopSound s₀ → s₀.survey.stopPending ≠ .none) :
    Acts c s₀ true s (finishBlock leaveGenerator (if s.gen.running then stopGenerator .surveyStop s else s)) := by
  split
  · refine .trans (acts_stopGenerator _ (live_of_pending h0))
      (acts_finishBlock (fun h => stopSound_leaveGenerator ?_ (stopGenerator_off _ _)) .inl h0)
    rw [stopGenerator_notices _ (hp h)]
    exact hn
  · rename_i hoff
    exact acts_finishBlock (fun _ => stopSound_leaveGenerator hn (by simpa using hoff)) .inl h0

theorem run_stopNoticeGenerator (h : exec .stopNoticeGenerator s = .next t) : Run .stopNoticeGenerator s s t := by
  simp only [exec, execStopNoticeGenerator, Host.Outcome.next.injEq] at h
  subst h
  split
  · rename_i hn
    have h0 : StopSound s → s.survey.stopPending ≠ .none := pending_of_notice (by intro e; simp [e, Blocks.empty] at hn)
    have hnotice : Acts .stopNoticeGenerator s true s
        { s with flight := { s.flight with stopNotices := leaveGenerator s.flight.stopNotices } } :=
      Act.acts (act_flight rfl rfl (within_leaveGenerator _))
    exact Acts.run (.trans hnotice (acts_noticeGenerator h0 rfl h0))
  · exact .refl s

end Sys2Proof.Machine

/-! The commands of the Waveform Capture are runs (R98 to R107). -/

namespace Sys2Proof.Machine

open Sys2Proof

variable {c : Instr} {s₀ s t : State} {p : Port} {a : Bool}

/-! ### The ring (R98) -/

/-- Four lists of samples, each of n. -/
def sampleLengths (n : Nat) (x : Four (List Int)) : Prop := (x.toList.all fun l => l.length == n) = true

theorem ringSound_iff (k : CaptureUnit) : RingSound k ↔ k.ring.length ≤ 8 ∧ k.cur.count ≤ 255 ∧
    (∀ r ∈ k.ring, sampleLengths 64 r.samples) ∧ sampleLengths ((k.cur.count + 3) / 4) k.cur.samples := Iff.rfl

theorem sampleLengths_empty : sampleLengths ((CurCycle.empty.count + 3) / 4) CurCycle.empty.samples := by
  unfold sampleLengths; decide

/-- Every fourth set of a cycle adds a sample to each channel. -/
theorem sampleLengths_addToCycle {x : SampleSet} {k : CurCycle} (h : sampleLengths ((k.count + 3) / 4) k.samples) :
    sampleLengths ((k.count + 1 + 3) / 4) (addToCycle x k).samples := by
  unfold addToCycle
  dsimp only
  split
  · have : (k.count + 1 + 3) / 4 = (k.count + 3) / 4 + 1 := by omega
    simpa [sampleLengths, Four.toList, this] using h
  · have : (k.count + 1 + 3) / 4 = (k.count + 3) / 4 := by omega
    rwa [this]

theorem length_pushCycle (r : RingCycle) {l : List RingCycle} (h : l.length ≤ 8) : (pushCycle r l).length ≤ 8 := by
  unfold pushCycle
  split <;> simp <;> omega

theorem mem_pushCycle {r x : RingCycle} {l : List RingCycle} (h : x ∈ pushCycle r l) : x = r ∨ x ∈ l := by
  unfold pushCycle at h
  rw [List.mem_append, List.mem_singleton] at h
  refine h.symm.imp_right fun h => ?_
  split at h
  · exact List.mem_of_mem_drop h
  · exact h

theorem ringSound_added {k : CaptureUnit} (x : SampleSet) (hc : completesCycle k.cur = false) (h : RingSound k) :
    RingSound { k with cur := addToCycle x k.cur } := by
  obtain ⟨h1, h2, h3, h4⟩ := h
  simp only [completesCycle, decide_eq_false_iff_not, Nat.not_le] at hc
  exact ⟨h1, hc, h3, sampleLengths_addToCycle h4⟩

theorem ringSound_pushed {k : CaptureUnit} {x : SampleSet} {r : RingCycle} (n : Nat) (hr : r.samples = (addToCycle x k.cur).samples)
    (hc : completesCycle k.cur = true) (h : RingSound k) :
    RingSound { k with ring := pushCycle r k.ring, cur := .empty, done := n } := by
  obtain ⟨h1, h2, h3, h4⟩ := h
  simp only [completesCycle, decide_eq_true_eq] at hc
  refine ⟨length_pushCycle r h1, Nat.zero_le _, fun y hy => ?_, sampleLengths_empty⟩
  obtain rfl | hy := mem_pushCycle hy
  · have := sampleLengths_addToCycle (x := x) h4
    rw [show k.cur.count = 255 by omega] at this
    rw [hr]
    exact this
  · exact h3 y hy

/-! ### WAVE records (R101, R103) -/

theorem mayAppend_running (h : mayAppend s = true) : s.running = true := (Bool.and_eq_true_iff.1 h).2

theorem live_of_sameState (hsur : s.survey.state = s₀.survey.state) (h : s.running = true) :
    StopSound s₀ → s₀.survey.state ≠ .idle := fun _ => by
  rw [← hsur, ((running_iff s).1 h).1]; decide

theorem appendWave_surveyState (i : Int) (r : RingCycle) (s : State) : (appendWave i r s).survey.state = s.survey.state := by
  obtain ⟨k, e, -⟩ := waveAnswered_shape (hardwareAppend (.wave (waveBody s.cap i r)) r.test s)
  rw [appendWave, e]
  exact (appends_hardwareAppend _ _ s).beside.surveyState

theorem acts_appendPre {l : List (Int × RingCycle)} (hsur : s.survey.state = s₀.survey.state) :
    Acts c s₀ true s (appendPre l s) := by
  induction l generalizing s with
  | nil => exact .refl
  | cons x rest ih =>
    rw [appendPre]
    split
    · rename_i hmay
      exact .trans (acts_waveAnswered (live_of_sameState hsur (mayAppend_running hmay)))
        (ih ((appendWave_surveyState _ _ _).trans hsur))
    · exact .refl

/-! ### The end of a capture (R101, R104 to R107) -/

theorem acts_endCapture (cut : Bool) (s : State) : Acts c s₀ a s (endCapture cut s) := by
  have hcap : Act c s₀ a s { s with cap := { s.cap with capturing := false, refused := false } } :=
    act_cap_kept rfl rfl rfl rfl fun h => (Bool.false_ne_true h).elim
  exact .tail hcap.acts (act_flight rfl rfl (within_refl _))

theorem acts_cutCapture (s : State) : Acts c s₀ a s (cutCapture s) := by
  unfold cutCapture
  split
  · exact acts_endCapture true s
  · exact .refl

theorem cutCapture_done (s : State) : (cutCapture s).cap.capturing = false ∧
    (cutCapture s).flight.stopNotices = s.flight.stopNotices := by
  unfold cutCapture
  split
  · exact ⟨rfl, rfl⟩
  · exact ⟨by simpa using ‹¬ s.cap.capturing = true›, rfl⟩

/-! ### Triggers (R100, R102) -/

/-- The capture's own figures change and a message leaves it. -/
theorem acts_capFlight {k : CaptureUnit} {f : Flight} (hr : k.ring = s.cap.ring) (hcur : k.cur = s.cap.cur) (hpre : k.pre = s.cap.pre)
    (hpost : k.post = s.cap.post) (hd : k.capturing = true → s.cap.capturing = true ∨ mayOpen Blocks.capture s)
    (hin : f.hcuIn = s.flight.hcuIn) (hcap : f.capIn = s.flight.capIn) (hn : f.stopNotices = s.flight.stopNotices) :
    Acts c s₀ a s { s with cap := k, flight := f } :=
  have hcap' : Act c s₀ a s (s.setCap k) := act_cap_kept hr hcur hpre hpost hd
  .tail hcap'.acts (act_flight (s := s.setCap k) hin hcap (by rw [hn]; exact within_refl _))

theorem acts_startCapture (x : DetCtx) (hsur : s.survey.state = s₀.survey.state) (hrun : s.running = true) :
    Acts c s₀ true s (startCapture x s) := by
  unfold startCapture
  dsimp only
  refine .trans ?_ (acts_appendPre hsur)
  exact acts_capFlight rfl rfl rfl rfl (fun _ => .inr (mayOpen_of_running hrun)) rfl rfl rfl

theorem acts_takeTrigger (x : DetCtx) (hsur : s.survey.state = s₀.survey.state) : Acts c s₀ true s (takeTrigger x s) := by
  unfold takeTrigger
  dsimp only
  split
  · rename_i hcap
    split
    · exact Act.acts (act_flight rfl rfl (within_refl _))
    · exact acts_capFlight (by cases x <;> rfl) (by cases x <;> rfl) (by cases x <;> rfl) (by cases x <;> rfl)
        (fun _ => .inl hcap) rfl rfl rfl
  · split
    · rename_i hmay
      exact acts_startCapture x hsur (Bool.and_eq_true_iff.1 hmay).1
    · exact Act.acts (act_flight rfl rfl (within_refl _))

theorem run_trigger {x : DetCtx} (h : exec (.trigger x) s = .next t) : Run (.trigger x) s s t := by
  simp only [exec, execTrigger, Host.Outcome.next.injEq] at h
  subst h
  split
  · refine Acts.run (.trans ?_ (acts_takeTrigger x rfl))
    exact Act.acts (act_flight rfl rfl (within_refl _))
  · exact .refl s

/-! ### Sample sets (R98, R101) -/

theorem acts_captureCycle {n : Nat} {r : RingCycle} (hsur : s.survey.state = s₀.survey.state) :
    Acts c s₀ true s (captureCycle n r s) := by
  unfold captureCycle
  split
  · rename_i c0 _
    split
    · rename_i hmay
      have hrun : s.running = true := by
        simp only [Bool.and_eq_true] at hmay
        exact mayAppend_running hmay.1.1
      have hwave : Acts c s₀ true s (appendWave ((n - c0 : Nat) : Int) r s) :=
        acts_waveAnswered (live_of_sameState hsur hrun)
      have hcount : ∀ u : State, Act c s₀ true u (u.setCap { u.cap with postDone := u.cap.postDone + 1 }) :=
        fun u => act_cap_kept rfl rfl rfl rfl .inl
      dsimp only
      split
      · exact hwave
      · split
        · exact .trans (.tail hwave (hcount _)) (acts_endCapture false _)
        · exact .tail hwave (hcount _)
    · exact .refl
  · exact .refl

theorem acts_ringSet (x : SampleSet) (hsur : s.survey.state = s₀.survey.state) : Acts c s₀ true s (ringSet x s) := by
  unfold ringSet
  dsimp only
  split
  · rename_i hc
    refine .trans ?_ (acts_captureCycle hsur)
    exact Act.acts (.cap (.inl rfl) (ringSound_pushed (x := x) _ rfl hc) .inl)
  · rename_i hc
    exact Act.acts (.cap (.inl rfl) (ringSound_added x (by simpa using hc)) .inl)

/-- The front message of the capture's input is taken. -/
theorem act_capIn {m : SourceMsg} {rest : List SourceMsg} (h : s.flight.capIn = m :: rest) :
    Act c s₀ a s { s with flight := { s.flight with capIn := rest } } :=
  .flow (h := s.hcu) (.inl rfl) id
    (fun ⟨h1, h2, h3, h4⟩ => ⟨h1, h2, by rw [h, List.all_cons, Bool.and_eq_true] at h3; exact h3.2, h4⟩) (within_refl _)

theorem run_ringSampleSet (h : exec .ringSampleSet s = .next t) : Run .ringSampleSet s s t := by
  simp only [exec, execRingSampleSet, Host.Outcome.next.injEq] at h
  subst h
  split
  · exact Acts.run (.trans (Act.acts (act_capIn ‹_›)) (acts_ringSet _ rfl))
  · exact .refl s

theorem run_ringCycleComplete (h : exec .ringCycleComplete s = .next t) : Run .ringCycleComplete s s t := by
  simp only [exec, execRingCycleComplete, Host.Outcome.next.injEq] at h
  subst h
  split
  · split
    · exact Acts.run (.trans (Act.acts (act_capIn ‹_›)) (acts_ringSet _ rfl))
    · exact .refl s
  · exact .refl s

/-! ### Refusal, loss of source, stop (R104 to R106) -/

theorem run_appendRefusalTaken (h : exec .appendRefusalTaken s = .next t) : Run .appendRefusalTaken s₀ s t := by
  simp only [exec, execAppendRefusalTaken, Host.Outcome.next.injEq] at h
  subst h
  split
  · exact (acts_endCapture (a := true) true s).run
  · exact .refl s

theorem run_captureSourceLossNotice (h : exec .captureSourceLossNotice s = .next t) : Run .captureSourceLossNotice s₀ s t := by
  simp only [exec, execCaptureSourceLossNotice, Host.Outcome.next.injEq] at h
  subst h
  split
  · split
    · have hring : ∀ u : State, Act .captureSourceLossNotice s₀ true u
          (u.setCap { u.cap with ring := [], cur := .empty, done := 0, losses := u.cap.losses + 1 }) :=
        fun u => .cap (.inl rfl) (fun _ => ⟨Nat.zero_le _, Nat.zero_le _, by simp, sampleLengths_empty⟩) .inl
      refine Acts.run (a := true) (.trans ?_ (acts_cutCapture _))
      exact .tail (Act.acts (act_capIn ‹_›)) (hring _)
    · exact .refl s
  · exact .refl s

theorem run_stopNoticeCapture (h : exec .stopNoticeCapture s = .next t) : Run .stopNoticeCapture s s t := by
  simp only [exec, execStopNoticeCapture, Host.Outcome.next.injEq] at h
  subst h
  split
  · rename_i hn
    have h0 : StopSound s → s.survey.stopPending ≠ .none := pending_of_notice (by intro e; simp [e, Blocks.empty] at hn)
    have hcap : Act .stopNoticeCapture s true s { s with cap := { s.cap with stopTaken := true } } :=
      act_cap_kept rfl rfl rfl rfl .inl
    refine Acts.run (.trans (.trans ?_ (acts_cutCapture _))
      (acts_finishBlock (fun _ => stopSound_leaveCapture ?_ (cutCapture_done _).1) .inl h0))
    · exact .tail hcap.acts (act_flight rfl rfl (within_leaveCapture _))
    · rw [(cutCapture_done _).2]; rfl
  · exact .refl s

end Sys2Proof.Machine

/-! The commands of the Event Detector are runs (R84 to R97, R102, R107). -/

namespace Sys2Proof.Machine

open Sys2Proof

variable {c : Instr} {s₀ s t u : State} {p : Port} {a : Bool} {x : DetCtx}

/-! ### A context with nothing left -/

/-- A context in IDLE with an empty pending list (R97). -/
def quiet (k : DetContext) : Prop := k.state = .idle ∧ k.pendingRecs = []

theorem detectorDone_iff (d : DetectorUnit) : detectorDone d = true ↔ quiet d.low ∧ quiet d.high := by
  simp only [detectorDone, quiet, Bool.and_eq_true, beq_iff_eq, List.isEmpty_iff]
  tauto

theorem settingsOf_setCtx (x : DetCtx) (k : DetContext) (s : State) : settingsOf (s.setCtx x k) = settingsOf s := by cases x <;> rfl
@[simp] theorem setCtx_ctx (x : DetCtx) (k : DetContext) (s : State) : (s.setCtx x k).ctx x = k := by cases x <;> rfl
theorem setCtx_survey (x : DetCtx) (k : DetContext) (s : State) : (s.setCtx x k).survey = s.survey := rfl
@[simp] theorem setCtx_stopTaken (x : DetCtx) (k : DetContext) (s : State) : (s.setCtx x k).det.stopTaken = s.det.stopTaken := by
  cases x <;> rfl

/-- A change of one context: a context with nothing left opens where it may alone. -/
theorem act_setCtx {k : DetContext} (h : quiet (s.ctx x) → quiet k ∨ mayOpen Blocks.detector s) : Act c s₀ a s (s.setCtx x k) := by
  refine .det (.inl (settingsOf_setCtx x k s)) (setCtx_stopTaken x k s).symm.trans fun hd => ?_
  obtain ⟨hlow, hhigh⟩ := (detectorDone_iff _).1 hd
  cases x
  · exact (h hlow).imp_left fun hk => (detectorDone_iff _).2 ⟨hk, hhigh⟩
  · exact (h hhigh).imp_left fun hk => (detectorDone_iff _).2 ⟨hlow, hk⟩

/-! ### What a context does in one event -/

/-- Acts that leave a detector that may open an event one that may, and its stop notice as it was. -/
structure DetectorRun (c : Instr) (s₀ s t : State) : Prop where
  acts : Acts c s₀ true s t
  mayOpen : mayOpen Blocks.detector s → mayOpen Blocks.detector t
  stopTaken : t.det.stopTaken = s.det.stopTaken

theorem DetectorRun.refl (s : State) : DetectorRun c s₀ s s := ⟨.refl, id, rfl⟩
theorem DetectorRun.trans (h : DetectorRun c s₀ s t) (g : DetectorRun c s₀ t u) : DetectorRun c s₀ s u :=
  ⟨h.acts.trans g.acts, fun hs => g.mayOpen (h.mayOpen hs), g.stopTaken.trans h.stopTaken⟩

theorem detectorRun_setCtx {k : DetContext} (h : quiet (s.ctx x) → quiet k ∨ Machine.mayOpen Blocks.detector s) :
    DetectorRun c s₀ s (s.setCtx x k) := ⟨Act.acts (act_setCtx h), id, setCtx_stopTaken x k s⟩

/-- A change of a context that has an event. -/
theorem detectorRun_setCtx_of_event {k : DetContext} (h : (s.ctx x).state ≠ .idle) : DetectorRun c s₀ s (s.setCtx x k) :=
  detectorRun_setCtx fun hq => absurd hq.1 h

theorem detectorRun_free (n : Nat) (s : State) : DetectorRun c s₀ s { s with free := n } := ⟨Act.acts (.free n), id, rfl⟩

/-! ### Records that fall due (R91) -/

theorem detectorRun_flushPending (live : (s.ctx x).pendingRecs ≠ [] → StopSound s₀ → s₀.survey.state ≠ .idle) :
    DetectorRun c s₀ s (flushPending x s) := by
  unfold flushPending
  dsimp only
  have happ := appends_appendSettled (s.ctx x).pendingRecs s
  have hctx := happ.beside.ctx x
  have hrun : DetectorRun c s₀ s (appendSettled (s.ctx x).pendingRecs s).2 := by
    refine ⟨?_, mayOpen_appends rfl happ, congrArg DetectorUnit.stopTaken happ.beside.det⟩
    by_cases hp : (s.ctx x).pendingRecs = []
    · rw [hp, appendSettled]
    · exact Act.acts (.journal (live hp) happ)
  refine hrun.trans (detectorRun_setCtx fun hq => .inl ⟨hq.1, ?_⟩)
  have : (s.ctx x).pendingRecs = [] := by rw [← hctx]; exact hq.2
  rw [this, appendSettled]

theorem detectorRun_fallDue (h : (s.ctx x).state ≠ .idle) (live : StopSound s₀ → s₀.survey.state ≠ .idle) :
    DetectorRun c s₀ s (fallDue x s) := by
  unfold fallDue
  exact (detectorRun_setCtx_of_event h).trans (detectorRun_flushPending fun _ => live)

/-! ### A value (R85 to R89, R95) -/

theorem detectorRun_triggered (triggers : List Trigger) (openings : List DetCtx) (s : State) :
    DetectorRun c s₀ s
      (raiseBoth .eventOpen { s with flight := { s.flight with triggers := triggers, openings := openings } }) :=
  have hsent : Act c s₀ true s { s with flight := { s.flight with triggers := triggers, openings := openings } } :=
    act_flight rfl rfl (within_refl _)
  ⟨.head hsent (acts_raiseBoth _ _), id, rfl⟩

theorem detectorRun_openEvent {v : HalfValue} (h : mayOpen Blocks.detector s) : DetectorRun c s₀ s (openEvent x v s) := by
  unfold openEvent
  dsimp only
  exact (detectorRun_setCtx fun _ => .inr h).trans (detectorRun_triggered _ _ _)

/-- An event's figures are set, and its record falls due. -/
theorem detectorRun_setDue {k : DetContext} (h : (s.ctx x).state ≠ .idle) (hk : k.state ≠ .idle)
    (live : StopSound s₀ → s₀.survey.state ≠ .idle) : DetectorRun c s₀ s (fallDue x (s.setCtx x k)) := by
  have hset : DetectorRun c s₀ s (s.setCtx x k) := detectorRun_setCtx_of_event h
  exact hset.trans (detectorRun_fallDue (by rw [setCtx_ctx]; exact hk) live)

/-- A context that ends for good falls due at once, and otherwise changes alone. -/
theorem detectorRun_setOrDue {k : DetContext} {due : Prop} [Decidable due] (h : (s.ctx x).state ≠ .idle) (hk : k.state ≠ .idle)
    (live : StopSound s₀ → s₀.survey.state ≠ .idle) :
    DetectorRun c s₀ s (if due then fallDue x (s.setCtx x k) else s.setCtx x k) := by
  split
  · exact detectorRun_setDue h hk live
  · exact detectorRun_setCtx_of_event h

theorem detectorRun_openStep {v : HalfValue} {k : DetContext} (h : (s.ctx x).state ≠ .idle)
    (live : StopSound s₀ → s₀.survey.state ≠ .idle) : DetectorRun c s₀ s (openStep x v k s) := by
  unfold openStep
  dsimp only
  split
  · exact detectorRun_setOrDue h (CtxState.noConfusion : CtxState.closing ≠ .idle) live
  · exact detectorRun_setCtx_of_event h

theorem detectorRun_closingStep {v : HalfValue} {k : DetContext} (h : (s.ctx x).state ≠ .idle) (hk : k.state ≠ .idle)
    (live : StopSound s₀ → s₀.survey.state ≠ .idle) : DetectorRun c s₀ s (closingStep x v k s) := by
  unfold closingStep
  dsimp only
  split
  · exact detectorRun_openStep h live
  · exact detectorRun_setOrDue h (by exact hk) live

theorem detectorRun_cutEvent (h : (s.ctx x).state ≠ .idle) (live : StopSound s₀ → s₀.survey.state ≠ .idle) :
    DetectorRun c s₀ s (cutEvent x s) := by
  unfold cutEvent
  dsimp only [takeFreeMs]
  split
  · exact (detectorRun_free (s.free + 1) s).trans (detectorRun_setDue (by exact h) (by exact h) live)
  · exact detectorRun_setDue h (by exact h) live

theorem noteChannels_state (v : HalfValue) (k : DetContext) : (noteChannels v k).state = k.state := by
  unfold noteChannels; split <;> rfl

theorem detectorRun_valueAt (x : DetCtx) (v : HalfValue) (hm : mayOpen Blocks.detector s)
    (live : StopSound s₀ → s₀.survey.state ≠ .idle) : DetectorRun c s₀ s (valueAt x v s) := by
  unfold valueAt
  dsimp only
  split
  case h_1 hs =>
    split
    · exact detectorRun_openEvent hm
    · exact .refl s
  all_goals
    rename_i hs
    have h : (s.ctx x).state ≠ .idle := by rw [hs]; decide
    split
    · exact detectorRun_cutEvent h live
  · exact detectorRun_openStep h live
  · exact detectorRun_closingStep h (by rw [noteChannels_state]; exact h) live

theorem acts_takeValue (v : HalfValue) (hsur : s.survey.state = s₀.survey.state) : Acts c s₀ true s (takeValue v s) := by
  unfold takeValue
  split
  · rename_i hrun
    have live : StopSound s₀ → s₀.survey.state ≠ .idle := live_of_sameState hsur hrun
    have hm : mayOpen Blocks.detector s := mayOpen_of_running hrun
    have hlow : DetectorRun c s₀ s (valueAt .low v s) := detectorRun_valueAt .low v hm live
    exact (hlow.trans (detectorRun_valueAt .high v (hlow.mayOpen hm) live)).acts
  · exact .refl

theorem acts_nextTaken (v : HalfValue) (s : State) : Acts c s true s (takeValue v (dropValue s)) :=
  .head (act_flight (f := { s.flight with values := s.flight.values.drop 1 }) rfl rfl (within_refl _))
    (acts_takeValue (s := dropValue s) v rfl)

theorem run_halfCycleValue (h : exec .halfCycleValue s = .next t) : Run .halfCycleValue s s t := by
  simp only [exec, execHalfCycleValue, Host.Outcome.next.injEq] at h
  subst h
  split
  · exact (acts_nextTaken _ s).run
  · exact .refl s

theorem run_holdOffExpiry (h : exec .holdOffExpiry s = .next t) : Run .holdOffExpiry s s t := by
  simp only [exec, execHoldOffExpiry, Host.Outcome.next.injEq] at h
  subst h
  split
  · split
    · exact (acts_nextTaken _ s).run
    · exact .refl s
  · exact .refl s

/-! ### Probe notices (R94) -/

theorem noteProbe_quiet {n : ProbeNotice} {k : DetContext} (h : quiet k) : quiet (noteProbe n k) := by
  unfold noteProbe; split <;> exact h

theorem run_probeNotice (h : exec .probeNotice s = .next t) : Run .probeNotice s₀ s t := by
  simp only [exec, execProbeNotice, Host.Outcome.next.injEq] at h
  subst h
  split
  · rename_i n rest _
    have hdet : Act .probeNotice s₀ true s
        { s with det := { s.det with low := noteProbe n s.det.low, high := noteProbe n s.det.high } } :=
      .det (.inl rfl) id fun hd => by
        obtain ⟨hlow, hhigh⟩ := (detectorDone_iff _).1 hd
        exact .inl ((detectorDone_iff _).2 ⟨noteProbe_quiet hlow, noteProbe_quiet hhigh⟩)
    exact Acts.run (.tail hdet.acts (act_flight rfl rfl (within_refl _)))
  · exact .refl s

/-! ### Survey stop (R97) -/

theorem acts_reportFinished (h0 : s.det.stopTaken = true → StopSound s₀ → s₀.survey.stopPending ≠ .none) :
    Acts c s₀ true s (reportFinished s) := by
  unfold reportFinished
  split
  · rename_i h
    obtain ⟨ht, hd⟩ := Bool.and_eq_true_iff.1 h
    exact acts_finishBlock_of_det (.inr rfl) (fun _ => stopSound_leaveDetector hd ht) .inl (h0 ht)
  · exact .refl

theorem detectorRun_stopContext (x : DetCtx) (live : StopSound s₀ → s₀.survey.state ≠ .idle) :
    DetectorRun c s₀ s (stopContext x s) := by
  unfold stopContext
  dsimp only [takeFreeMs]
  split
  case h_1 => exact .refl s
  all_goals
    rename_i hs
    have h : (s.ctx x).state ≠ .idle := by rw [hs]; decide
  · exact detectorRun_fallDue h live
  · split
    · exact detectorRun_setDue h (by exact h) live
    · exact (detectorRun_free (s.free + 1) s).trans (detectorRun_setDue (by exact h) (by exact h) live)

theorem run_stopNoticeDetector (h : exec .stopNoticeDetector s = .next t) : Run .stopNoticeDetector s s t := by
  simp only [exec, execStopNoticeDetector, Host.Outcome.next.injEq] at h
  subst h
  split
  · rename_i hn
    have h0 : StopSound s → s.survey.stopPending ≠ .none := pending_of_notice (by intro e; simp [e, Blocks.empty] at hn)
    have hctx := (detectorRun_stopContext (c := .stopNoticeDetector) .low (s := detectorNotified s) (live_of_pending h0)).trans
      (detectorRun_stopContext .high (live_of_pending h0))
    exact Acts.run (.trans (.head (.notified hn) hctx.acts) (acts_reportFinished fun _ => h0))
  · exact .refl s

/-! ### Loss of the sample source (R96) -/

theorem detectorRun_loseContext (x : DetCtx) (live : StopSound s₀ → s₀.survey.state ≠ .idle) :
    DetectorRun c s₀ s (loseContext x s) := by
  unfold loseContext
  dsimp only
  split
  case h_1 => exact .refl s
  all_goals
    rename_i hs
    have h : (s.ctx x).state ≠ .idle := by rw [hs]; decide
    split
    · exact detectorRun_setCtx_of_event h
    · exact detectorRun_setDue h (by exact h) live

theorem loseContext_idle (h : (s.ctx x).state = .idle) : loseContext x s = s := by
  unfold loseContext
  simp only [h]

/-- An event open or closing has the survey in RUNNING. -/
theorem live_of_event (h : s.det.low.state ≠ .idle ∨ s.det.high.state ≠ .idle) : StopSound s → s.survey.state ≠ .idle := fun hs hi => by
  have hdone := hs.2.2.2.2.2 (by rw [hi]; decide)
  simp only [blockDone, Blocks.mk.injEq, Bool.and_eq_true, detectorDone_iff] at hdone
  obtain ⟨⟨⟨hlow, hhigh⟩, -⟩, -⟩ := hdone
  exact h.elim (absurd hlow.1) (absurd hhigh.1)

theorem run_detectorSourceLossNotice (h : exec .detectorSourceLossNotice s = .next t) : Run .detectorSourceLossNotice s s t := by
  simp only [exec, execDetectorSourceLossNotice, Host.Outcome.next.injEq] at h
  subst h
  have hcount : Act .detectorSourceLossNotice s true s { s with det := { s.det with losses := s.det.losses + 1 } } :=
    .det (.inl rfl) id .inl
  split
  · by_cases hidle : s.det.low.state = .idle ∧ s.det.high.state = .idle
    · rw [loseContext_idle (x := .low) (by exact hidle.1), loseContext_idle (x := .high) (by exact hidle.2)]
      exact hcount.run
    · have live := live_of_event (by tauto)
      exact Acts.run (.trans hcount.acts
        ((detectorRun_loseContext .low live).trans (detectorRun_loseContext .high live)).acts)
  · exact .refl s

/-! ### The capture's answers and end notices (R102, R107) -/

/-- A context takes a message, and what is then settled is appended. -/
theorem run_messageTaken {f : Flight} {k : DetContext} (hin : f.hcuIn = s.flight.hcuIn) (hcap : f.capIn = s.flight.capIn)
    (hn : f.stopNotices = s.flight.stopNotices) (hk : quiet (s.ctx x) → quiet k) (hrecs : (s.ctx x).pendingRecs = [] → k.pendingRecs = []) :
    Run c s s (reportFinished (flushPending x (({ s with flight := f } : State).setCtx x k))) := by
  have hset : DetectorRun c s { s with flight := f } (({ s with flight := f } : State).setCtx x k) :=
    detectorRun_setCtx fun hq => .inl (hk hq)
  have live : k.pendingRecs ≠ [] → StopSound s → s.survey.state ≠ .idle := fun hp hs hi => by
    have hdone := hs.2.2.2.2.2 (by rw [hi]; decide)
    simp only [blockDone, Blocks.mk.injEq, Bool.and_eq_true, detectorDone_iff] at hdone
    obtain ⟨⟨⟨hlow, hhigh⟩, -⟩, -⟩ := hdone
    cases x
    · exact hp (hrecs hlow.2)
    · exact hp (hrecs hhigh.2)
  have hflush : DetectorRun c s { s with flight := f } (flushPending x (({ s with flight := f } : State).setCtx x k)) :=
    hset.trans (detectorRun_flushPending (by rw [setCtx_ctx]; exact live))
  refine Acts.run (.trans (.head (act_flight hin hcap (by rw [hn]; exact within_refl _)) hflush.acts) (acts_reportFinished ?_))
  intro ht hs hp
  have : s.det.stopTaken = true := hflush.stopTaken ▸ ht
  exact absurd ((hs.2.1 hp).2.2) (by rw [this]; decide)

theorem answerRecords_nil (m : AnswerKind) : answerRecords m [] = none := rfl

theorem answerContext_recs {m : AnswerKind} {k : DetContext} (h : k.pendingRecs = []) : (answerContext m k).pendingRecs = [] := by
  unfold answerContext
  simp only [h, answerRecords_nil]
  split
  · rfl
  · exact h

theorem answerContext_quiet {m : AnswerKind} {k : DetContext} (h : quiet k) : quiet (answerContext m k) := by
  refine ⟨?_, answerContext_recs h.2⟩
  unfold answerContext
  simp only [h.2, answerRecords_nil]
  split <;> exact h.1

theorem run_triggerAnswer (h : exec (.triggerAnswer x) s = .next t) : Run (.triggerAnswer x) s s t := by
  simp only [exec, execTriggerAnswer, Host.Outcome.next.injEq] at h
  subst h
  split
  · exact run_messageTaken rfl rfl rfl answerContext_quiet answerContext_recs
  · exact .refl s

theorem endContext_recs {m : EndNotice} {k : DetContext} (h : k.pendingRecs = []) : (endContext m k).pendingRecs = [] := by
  unfold endContext
  dsimp only
  split <;> simp [h]

theorem endContext_quiet {m : EndNotice} {k : DetContext} (h : quiet k) : quiet (endContext m k) := by
  refine ⟨?_, endContext_recs h.2⟩
  unfold endContext
  dsimp only
  split <;> exact h.1

theorem run_endNotice (h : exec (.endNotice x) s = .next t) : Run (.endNotice x) s s t := by
  simp only [exec, execEndNotice, Host.Outcome.next.injEq] at h
  subst h
  split
  · split
    · exact run_messageTaken rfl rfl rfl endContext_quiet endContext_recs
    · exact .refl s
  · exact .refl s

end Sys2Proof.Machine

/-! The commands of the Half-Cycle Unit are runs (R65 to R76). -/

namespace Sys2Proof.Machine

open Sys2Proof

variable {c : Instr} {s₀ s t : State} {p : Port} {a : Bool}

theorem four_get_zip {α β γ : Type} (g : α → β → γ) (x : Four α) (y : Four β) : ∀ i, (Four.zip g x y).get i = g (x.get i) (y.get i)
  | 0 | 1 | 2 | _ + 3 => rfl

theorem four_get_all {α : Type} (v : α) : ∀ i, (Four.all v).get i = v
  | 0 | 1 | 2 | _ + 3 => rfl

/-! ### The window (R65) -/

/-- With room in the window nothing leaves; a full window loses its oldest sample. -/
theorem dropOldest_cases (h : HalfCycleUnit) : (h.window.length < 256 ∧ dropOldest h = h) ∨
    ∃ o rest, h.window = o :: rest ∧ 256 ≤ rest.length + 1 ∧ dropOldest h =
      { h with
        window := rest, sums := .zip (fun s x => s - square x) h.sums o.c
        testCount := if o.test then h.testCount - 1 else h.testCount } := by
  by_cases hlt : h.window.length < 256
  · exact .inl ⟨hlt, if_pos hlt⟩
  · cases hw : h.window with
    | nil => simp [hw] at hlt
    | cons o rest =>
      refine .inr ⟨o, rest, rfl, by simpa [hw] using hlt, ?_⟩
      rw [dropOldest, if_neg (c := h.window.length < Config.windowSize) hlt]
      simp only [hw]

theorem windowSound_dropOldest {h : HalfCycleUnit} (hs : WindowSound h) :
    (dropOldest h).window.length = min h.window.length 255 ∧ (∀ i : Fin 4, sumSound (dropOldest h) i = true) ∧
      (dropOldest h).testCount = ((dropOldest h).window.filter WinSample.test).length := by
  obtain ⟨h1, h2, h3, -, -⟩ := hs
  obtain ⟨hlt, e⟩ | ⟨o, rest, hw, hfull, e⟩ := dropOldest_cases h
  · rw [e]
    exact ⟨by omega, h2, h3⟩
  · rw [hw, List.length_cons] at h1
    rw [e, hw, List.length_cons]
    refine ⟨by dsimp only; omega, fun i => ?_, ?_⟩
    · have := h2 i
      simp only [sumSound, hw, List.map_cons, List.sum_cons, beq_iff_eq] at this
      simp only [sumSound, four_get_zip, this, Nat.add_sub_cancel_left, beq_iff_eq]
    · dsimp only
      rw [h3, hw, List.filter_cons]
      split <;> simp

theorem windowSound_takeSamples (x : SampleSet) {h : HalfCycleUnit} (hs : WindowSound h) : WindowSound (takeSamples x h) := by
  obtain ⟨hlen, hsum, htest⟩ := windowSound_dropOldest hs
  obtain ⟨h1, -, -, h4, -⟩ := hs
  have hnew : (takeSamples x h).window.length = min h.window.length 255 + 1 := by simp [takeSamples, addNewest, hlen]
  refine ⟨by omega, fun i => ?_, ?_, ?_, ?_⟩
  · have := hsum i
    simp only [sumSound, beq_iff_eq] at this
    simp [sumSound, takeSamples, addNewest, four_get_zip, this]
  · simp only [takeSamples, addNewest, htest, List.filter_append, List.length_append, List.filter_cons, List.filter_nil]
    split <;> simp
  · show (sinceAfter h).1 < 128
    unfold sinceAfter
    split
    · exact Nat.zero_lt_succ _
    · split
      · assumption
      · exact Nat.zero_lt_succ _
  · intro hshort
    show (sinceAfter h).1 = 0
    rw [hnew] at hshort
    rw [sinceAfter, if_pos (by simp only [Config.windowSize]; omega)]

/-! ### Values and counts (R67 to R76) -/

/-- The window, its sums and count, and the band edges stay. -/
def sameWindow (h g : HalfCycleUnit) : Prop :=
  g.window = h.window ∧ g.sums = h.sums ∧ g.testCount = h.testCount ∧ g.since = h.since ∧ g.edges = h.edges

theorem sameWindow_countChannel (edges : List Nat) (i : Nat) (v : Option ChanValue) (h : HalfCycleUnit) :
    sameWindow h (countChannel edges i v h) := by
  unfold countChannel
  split <;> exact ⟨rfl, rfl, rfl, rfl, rfl⟩

theorem sameWindow.trans {h g k : HalfCycleUnit} (e : sameWindow h g) (f : sameWindow g k) : sameWindow h k := by
  obtain ⟨e1, e2, e3, e4, e5⟩ := e
  obtain ⟨f1, f2, f3, f4, f5⟩ := f
  exact ⟨f1.trans e1, f2.trans e2, f3.trans e3, f4.trans e4, f5.trans e5⟩

theorem sameWindow_countChannels (v : HalfValue) (l : List Nat) (h : HalfCycleUnit) :
    sameWindow h (l.foldl (fun h i => countChannel h.edges i (v.chans.get i) h) h) := by
  induction l generalizing h with
  | nil => exact ⟨rfl, rfl, rfl, rfl, rfl⟩
  | cons i rest ih => exact (sameWindow_countChannel _ _ _ _).trans (ih _)

theorem sameWindow_countValue (running : Bool) (v : HalfValue) (h : HalfCycleUnit) : sameWindow h (countValue running v h) := by
  unfold countValue
  split
  · exact sameWindow_countChannels v (List.range 4) h
  · exact ⟨rfl, rfl, rfl, rfl, rfl⟩

theorem sameWindow.sound {h g : HalfCycleUnit} (e : sameWindow h g) (hs : WindowSound h) : WindowSound g := by
  obtain ⟨e1, e2, e3, e4, -⟩ := e
  simpa only [WindowSound, sumSound, e1, e2, e3, e4] using hs

/-! ### Sample sets and loss of source (R65 to R67) -/

theorem takeSet_shape (x : SampleSet) (s : State) : ∃ h vs, sameWindow (takeSamples x s.hcu) h ∧
    takeSet x s = { s with hcu := h, flight := { s.flight with values := vs } } := by
  unfold takeSet
  dsimp only
  split
  · refine ⟨_, _, ?_, rfl⟩
    exact sameWindow_countValue s.running (formValue (s.setHcu (takeSamples x s.hcu))) (takeSamples x s.hcu)
  · exact ⟨_, _, ⟨rfl, rfl, rfl, rfl, rfl⟩, rfl⟩

theorem takeSamples_edges (x : SampleSet) (h : HalfCycleUnit) : (takeSamples x h).edges = h.edges := by
  show (dropOldest h).edges = _
  obtain ⟨-, e⟩ | ⟨o, rest, -, -, e⟩ := dropOldest_cases h <;> rw [e]

/-- A sample of the window. -/
abbrev windowInRange (h : HalfCycleUnit) : Prop := (h.window.all fun w => w.c.toList.all fun v => decide (v.natAbs ≤ 32767)) = true

theorem windowInRange_takeSamples {x : SampleSet} {h : HalfCycleUnit} (hx : samplesInRange x.samples) (hs : windowInRange h) :
    windowInRange (takeSamples x h) := by
  have hdrop : windowInRange (dropOldest h) := by
    obtain ⟨-, e⟩ | ⟨o, rest, hw, -, e⟩ := dropOldest_cases h <;> rw [e]
    · exact hs
    · rw [windowInRange, hw, List.all_cons, Bool.and_eq_true] at hs
      exact hs.2
  have hnew : (voltages x.samples).toList.all (fun v => decide (v.natAbs ≤ 32767)) = true := by
    simp only [samplesInRange, Eight.toList, List.all_cons, Bool.and_eq_true] at hx
    obtain ⟨h0, h1, h2, h3, -⟩ := hx
    simp [voltages, Four.toList, h0, h1, h2, h3]
  simp only [windowInRange, takeSamples, addNewest, List.all_append, List.all_cons, List.all_nil, Bool.and_true, Bool.and_eq_true]
  exact ⟨hdrop, hnew⟩

theorem act_takeSet {x : SampleSet} {rest : List SourceMsg} (hin : s.flight.hcuIn = .set x :: rest) :
    Act c s₀ a s (takeSet x { s with flight := { s.flight with hcuIn := rest } }) := by
  obtain ⟨h, vs, hsame, e⟩ := takeSet_shape x { s with flight := { s.flight with hcuIn := rest } }
  rw [e]
  have hedges : h.edges = s.hcu.edges := hsame.2.2.2.2.trans (takeSamples_edges x s.hcu)
  refine .flow (.inl (by simp [settingsOf, hedges])) (fun hs => hsame.sound (windowSound_takeSamples x hs)) ?_ (within_refl _)
  rintro ⟨h1, h2, h3⟩
  rw [hin, List.all_cons, Bool.and_eq_true] at h2
  refine ⟨?_, h2.2, h3⟩
  have := windowInRange_takeSamples (x := x) h2.1 h1
  rwa [windowInRange, ← hsame.1] at this

theorem run_sampleSet (h : exec .sampleSet s = .next t) : Run .sampleSet s₀ s t := by
  simp only [exec, execSampleSet, Host.Outcome.next.injEq] at h
  subst h
  split
  · exact (act_takeSet (a := true) ‹_›).run
  · exact .refl s

theorem run_halfCycleBoundary (h : exec .halfCycleBoundary s = .next t) : Run .halfCycleBoundary s₀ s t := by
  simp only [exec, execHalfCycleBoundary, Host.Outcome.next.injEq] at h
  subst h
  split
  · split
    · exact (act_takeSet (a := true) ‹_›).run
    · exact .refl s
  · exact .refl s

theorem run_hcuSourceLossNotice (h : exec .hcuSourceLossNotice s = .next t) : Run .hcuSourceLossNotice s₀ s t := by
  simp only [exec, execHcuSourceLossNotice, Host.Outcome.next.injEq] at h
  subst h
  split
  · rename_i hin
    refine Act.run (a := true) (.flow (.inl rfl) (fun _ => ?_) ?_ (within_refl _))
    · exact ⟨Nat.zero_le _, fun i => by simp [sumSound, loseSource, four_get_all], rfl, Nat.zero_lt_succ _, fun _ => rfl⟩
    · rintro ⟨-, h2, h3⟩
      rw [hin, List.all_cons, Bool.and_eq_true] at h2
      exact ⟨rfl, h2.2, h3⟩
  · exact .refl s

end Sys2Proof.Machine

/-! The commands of the Harmonic Interval Aggregator are runs, and a window frame keeps the interval's accounts (R109 to R128). -/

namespace Sys2Proof.Machine

open Sys2Proof

variable {c : Instr} {s₀ s t : State} {p : Port} {a : Bool} {v : FrameValues} {i k : Nat} {cause : CloseCause}

theorem eight_get_all {α : Type} (v : α) : ∀ i, (Eight.all v).get i = v
  | 0 | 1 | 2 | 3 | 4 | 5 | 6 | _ + 7 => rfl

theorem eight_get_ofFn {α : Type} (g : Nat → α) (i : Fin 8) : (Eight.ofFn g).get i = g i := by fin_cases i <;> rfl

theorem four_get_ofFn {α : Type} (g : Nat → α) (i : Fin 4) : (Four.ofFn g).get i = g i := by fin_cases i <;> rfl

/-! ### The accumulators (R120, R121) -/

theorem accumulatorsSound_clearInterval (h : Option Nat) (g : AggregatorUnit) : AccumulatorsSound (clearInterval h g) := by
  refine ⟨fun i => ?_, fun i => ?_⟩
  · simp [clearInterval, AggregatorUnit.reset, eight_get_all]
  · simp [clearInterval, AggregatorUnit.reset, four_get_all]

/-- A frame's magnitudes are words. -/
def frameInRange (v : FrameValues) : Prop := ∀ m ∈ v.magnitudes, m ≤ 65535

theorem frameInRange_readFrame {body : List Word} (h : readFrame body = some v) : frameInRange v := by
  unfold readFrame at h
  split at h
  · dsimp only at h
    split at h
    · obtain rfl := by simpa using h
      intro m hm
      obtain ⟨w, -, rfl⟩ := List.mem_map.1 hm
      have := w.isLt
      omega
    · simp at h
  · simp at h

theorem magnitude_le (hv : frameInRange v) (ch o : Nat) : magnitude v ch o ≤ 65535 := by
  unfold magnitude
  split
  · rw [List.getD_eq_getElem?_getD]
    rcases hg : v.magnitudes[_]? with _ | m
    · exact Nat.zero_le _
    · exact hv m (List.mem_of_getElem? hg)
  · exact Nat.zero_le _

theorem addSquares_le (hv : frameInRange v) {kept ch n : Nat} {sums : List Nat} (h : ∀ x ∈ sums, x ≤ n * 4294836225) :
    ∀ x ∈ addSquares v kept ch sums, x ≤ (n + 1) * 4294836225 := by
  intro x hx
  obtain ⟨j, hj, rfl⟩ := List.mem_iff_getElem.1 hx
  have hsum := h _ (List.getElem_mem (l := sums) (n := j) (by simpa [addSquares] using hj))
  have hsq : magnitude v ch (j + 1) * magnitude v ch (j + 1) ≤ 4294836225 :=
    (Nat.mul_le_mul (magnitude_le hv _ _) (magnitude_le hv _ _)).trans (by norm_num)
  rw [Nat.add_mul, Nat.one_mul]
  simp only [addSquares, List.getElem_mapIdx]
  split
  · exact Nat.add_le_add hsum hsq
  · exact Nat.le_add_right_of_le hsum

theorem addExceed_le {g : AggregatorUnit} {ch n : Nat} {counts : List Nat} (h : ∀ x ∈ counts, x ≤ n) :
    ∀ x ∈ addExceed v g ch counts, x ≤ n + 1 := by
  intro x hx
  obtain ⟨j, hj, rfl⟩ := List.mem_iff_getElem.1 hx
  have hcount := h _ (List.getElem_mem (l := counts) (n := j) (by simpa [addExceed] using hj))
  simp only [addExceed, List.getElem_mapIdx]
  split <;> omega

theorem accumulatorsSound_aggregate (k : KitUnit) (hv : frameInRange v) {g : AggregatorUnit} (h : AccumulatorsSound g) :
    AccumulatorsSound (aggregate k v g) := by
  obtain ⟨hsums, hexceed⟩ := h
  refine ⟨fun i => ?_, fun i => ?_⟩
  · obtain ⟨hlen, hle, hn⟩ := hsums i
    simp only [List.all_eq_true, decide_eq_true_eq] at hle
    simp only [aggregate, eight_get_ofFn, List.all_eq_true, decide_eq_true_eq]
    split
    · exact ⟨by simpa [addSquares] using hlen, addSquares_le hv hle, by omega⟩
    · exact ⟨hlen, hle, by omega⟩
  · obtain ⟨hlen, hle⟩ := hexceed i
    simp only [List.all_eq_true, decide_eq_true_eq] at hle
    simp only [aggregate, four_get_ofFn, List.all_eq_true]
    exact ⟨by simpa [addExceed] using hlen, fun x hx => decide_eq_true (addExceed_le hle x hx)⟩

/-! ### An interval closes (R122) -/

/-- The interval occupancy is read and zeroed (R122 step 1). -/
def occupancyRead (s : State) : State := { s with hcu := { s.hcu with intervalOcc := zeroOccupancy } }

/-- The INTERVAL record of a close is appended, or dropped (R122). -/
def intervalAppended (cause : CloseCause) (k : Nat) (s : State) : State :=
  (hardwareAppend (.interval (intervalBody cause k s)) s.agg.testSeen (occupancyRead s)).1

theorem closeInterval_eq (cause : CloseCause) (k : Nat) (s : State) : closeInterval cause k s =
    (intervalAppended cause k s).setAgg (clearInterval (intervalAppended cause k s).agg.highest (intervalAppended cause k s).agg) := rfl

theorem appends_intervalAppended (cause : CloseCause) (k : Nat) (s : State) :
    Appends (occupancyRead s) (intervalAppended cause k s) := appends_hardwareAppend _ _ _

theorem closeInterval_agg (cause : CloseCause) (k : Nat) (s : State) :
    (closeInterval cause k s).agg = clearInterval s.agg.highest s.agg := by
  rw [closeInterval_eq, (appends_intervalAppended cause k s).beside.agg]
  rfl

theorem act_setAgg {g : AggregatorUnit}
    (hset : g.length = s.agg.length ∧ g.kept = s.agg.kept ∧ g.mask = s.agg.mask ∧ g.exclude = s.agg.exclude ∧ g.limits = s.agg.limits)
    (hi : (∃ p, c = .postFrame p) ∨ (intervalSound s.agg = true → intervalSound g = true))
    (ha : AccumulatorsSound s.agg → AccumulatorsSound g)
    (hd : g.current ≠ none → s.agg.current ≠ none ∨ mayOpen Blocks.aggregator s) : Act c s₀ a s (s.setAgg g) := by
  obtain ⟨h1, h2, h3, h4, h5⟩ := hset
  exact .agg (.inl (by simp [settingsOf, h1, h2, h3, h4, h5])) hi ha hd

theorem intervalSound_length {g : AggregatorUnit} (h : intervalSound g = true) : 15 ≤ g.length := by
  unfold intervalSound at h
  split at h <;> simp_all

theorem intervalSound_clearInterval (h : Option Nat) {g : AggregatorUnit} (hl : 15 ≤ g.length) :
    intervalSound (clearInterval h g) = true := by
  simp [intervalSound, clearInterval, AggregatorUnit.reset, hl]

theorem acts_closeInterval (cause : CloseCause) (k : Nat) (live : StopSound s₀ → s₀.survey.state ≠ .idle) :
    Acts c s₀ true s (closeInterval cause k s) := by
  have hocc : Act c s₀ true s (occupancyRead s) := .flow (f := s.flight) (.inl rfl) id id (within_refl _)
  have happ : Act c s₀ true (occupancyRead s) (intervalAppended cause k s) := .journal live (appends_intervalAppended cause k s)
  rw [closeInterval_eq]
  exact .tail (.tail hocc.acts happ) (act_setAgg ⟨rfl, rfl, rfl, rfl, rfl⟩
    (.inr fun h => intervalSound_clearInterval _ (intervalSound_length h)) (fun _ => accumulatorsSound_clearInterval _ _)
    fun h => absurd rfl h)

theorem mayOpen_closeInterval {block : Blocks → Bool} (hb : block allBlocks = true) (cause : CloseCause) (k : Nat)
    (h : mayOpen block s) : mayOpen block (closeInterval cause k s) :=
  mayOpen_appends (t := intervalAppended cause k s) hb (appends_intervalAppended cause k s) h

theorem acts_closeCurrent (cause : CloseCause) (live : s.agg.current ≠ none → StopSound s₀ → s₀.survey.state ≠ .idle) :
    Acts c s₀ true s (closeCurrent cause s) := by
  unfold closeCurrent
  split
  · exact acts_closeInterval _ _ (live (by simp [*]))
  · exact .refl

theorem closeCurrent_current (cause : CloseCause) (s : State) : (closeCurrent cause s).agg.current = none := by
  unfold closeCurrent
  split
  · rw [closeInterval_agg]; rfl
  · assumption

/-- An interval that is current has the survey in RUNNING. -/
theorem live_of_interval (h : s.agg.current ≠ none) : StopSound s → s.survey.state ≠ .idle := fun hs hi => by
  have hdone := hs.2.2.2.2.2 (by rw [hi]; decide)
  simp only [blockDone, Blocks.mk.injEq, Option.isNone_iff_eq_none] at hdone
  obtain ⟨-, -, hnone, -⟩ := hdone
  exact h hnone

/-! ### A window frame (R109 to R121) -/

theorem acts_beginInterval (hm : mayOpen Blocks.aggregator s) (k i : Nat) :
    Acts (.postFrame p) s₀ true s (beginInterval k i s).1 :=
  Act.acts (act_setAgg ⟨rfl, rfl, rfl, rfl, rfl⟩ (.inl ⟨p, rfl⟩) id fun _ => .inr hm)

theorem acts_countMissing (n : Nat) : Acts (.postFrame p) s₀ true s (s.setAgg (countMissing n s.agg)) :=
  Act.acts (act_setAgg ⟨rfl, rfl, rfl, rfl, rfl⟩ (.inl ⟨p, rfl⟩) id .inl)

/-- The missing windows of the current interval are counted, it closes, and the frame's interval begins. -/
theorem acts_nextInterval (k n j i : Nat) (hm : mayOpen Blocks.aggregator s) (live : StopSound s₀ → s₀.survey.state ≠ .idle) :
    Acts (.postFrame p) s₀ true s (beginInterval j i (closeInterval .complete k (s.setAgg (countMissing n s.agg)))).1 := by
  have hcount : Acts (.postFrame p) s₀ true s (s.setAgg (countMissing n s.agg)) := acts_countMissing n
  have hm' : mayOpen Blocks.aggregator (s.setAgg (countMissing n s.agg)) := hm
  generalize s.setAgg (countMissing n s.agg) = u at hcount hm'
  exact (hcount.trans (acts_closeInterval .complete k live)).trans (acts_beginInterval (mayOpen_closeInterval rfl .complete k hm') j i)

theorem acts_settleInterval (hm : mayOpen Blocks.aggregator s) (live : StopSound s₀ → s₀.survey.state ≠ .idle) (i : Nat) :
    Acts (.postFrame p) s₀ true s (settleInterval i s).1 := by
  unfold settleInterval
  dsimp only
  split
  · exact acts_beginInterval hm _ _
  · split
    · exact acts_countMissing _
    · exact acts_nextInterval _ _ _ _ hm live

theorem acts_takeWindow (hv : frameInRange v) : Acts (.postFrame p) s₀ true s (takeWindow v s).1 := by
  unfold takeWindow
  dsimp only
  split
  · exact Act.acts (act_setAgg ⟨rfl, rfl, rfl, rfl, rfl⟩ (.inl ⟨p, rfl⟩) id .inl)
  · exact Act.acts (act_setAgg ⟨rfl, rfl, rfl, rfl, rfl⟩ (.inl ⟨p, rfl⟩) (fun h => accumulatorsSound_aggregate s.kit hv h) .inl)

theorem acts_takeFrame (hv : frameInRange v) (hm : mayOpen Blocks.aggregator s) (live : StopSound s₀ → s₀.survey.state ≠ .idle) :
    Acts (.postFrame p) s₀ true s (takeFrame v s).1 := by
  unfold takeFrame
  dsimp only
  have htaken : Acts (.postFrame p) s₀ true s (takeWindow v (settleInterval v.index s).1).1 :=
    .trans (acts_settleInterval hm live v.index) (acts_takeWindow hv)
  split
  · exact .trans htaken (acts_closeInterval _ _ live)
  · exact htaken

theorem run_postFrame (h : exec (.postFrame p) s = .next t) : Run (.postFrame p) s s t := by
  simp only [exec, execPostFrame, Host.Outcome.next.injEq] at h
  subst h
  refine run_takeRequest (by simp) fun body _ => ?_
  split
  · exact answered_refused _ _ _ _ _ _ _
  · rename_i v hv
    split
    · exact answered_refused _ _ _ _ _ _ _
    · rename_i hrun
      have hrun : (withdrawn p s).running = true := by simpa using hrun
      split
      · exact answered_refused _ _ _ _ _ _ _
      · split
        · exact answered_refused _ _ _ _ _ _ _
        · refine Acts.answered (acts_takeFrame (frameInRange_readFrame hv) (mayOpen_of_running hrun) (live_of_sameState ?_ hrun))
          rw [withdrawn_survey]

/-! ### The interval's accounts through a window frame (R112, R113, R117) -/

/-- An interval is current that window i lies in, with every window before i counted once. -/
def readyFor (i : Nat) (g : AggregatorUnit) : Prop :=
  ∃ k f, g.current = some k ∧ g.curN = some g.length ∧ g.first = some f ∧ 15 ≤ g.length ∧ k * g.length ≤ f ∧ f ≤ i ∧
    i < k * g.length + g.length ∧ g.aggregated + g.excluded + g.missing = i - f

/-- No interval is current, and the figures are clear. -/
def accountsClear (g : AggregatorUnit) : Prop :=
  15 ≤ g.length ∧ g.current = none ∧ g.aggregated = 0 ∧ g.excluded = 0 ∧ g.missing = 0

theorem within_interval {l : Nat} (hl : 15 ≤ l) (i : Nat) : i / l * l ≤ i ∧ i < i / l * l + l := by
  have hdiv := Nat.div_add_mod i l
  have hmod := Nat.mod_lt i (show 0 < l by omega)
  rw [Nat.mul_comm] at hdiv
  omega

theorem readyFor_beginInterval (hclear : accountsClear s.agg) (hf : freshWindow i s.agg = true) :
    readyFor i (beginInterval (i / s.agg.length) i s).1.agg := by
  obtain ⟨hl, -, h1, h2, h3⟩ := hclear
  obtain ⟨hle, hlt⟩ := within_interval hl i
  have hnext : nextWindow s.agg (i / s.agg.length * s.agg.length) ≤ i := by
    unfold nextWindow freshWindow at *
    cases hh : s.agg.highest with
    | none => exact hle
    | some x => simpa [hh, Nat.succ_le_iff] using hf
  exact ⟨_, _, rfl, rfl, rfl, hl, Nat.le_max_left _ _, max_le hle hnext, hlt, by
    show s.agg.aggregated + s.agg.excluded + (s.agg.missing + _) = _
    omega⟩

theorem intervalSound_current {g : AggregatorUnit} {k : Nat} (h : intervalSound g = true) (hc : g.current = some k) :
    ∃ f x, g.curN = some g.length ∧ g.first = some f ∧ g.highest = some x ∧ 15 ≤ g.length ∧ k * g.length ≤ f ∧ f ≤ x ∧
      x + 1 < k * g.length + g.length ∧ g.aggregated + g.excluded + g.missing = x + 1 - f := by
  unfold intervalSound at h
  rw [hc] at h
  split at h
  · rename_i k' n f x hk hn hf hx
    obtain rfl : k = k' := by simpa using hk
    simp only [Bool.and_eq_true, decide_eq_true_eq, beq_iff_eq] at h
    obtain ⟨⟨⟨⟨⟨hl, rfl⟩, h1⟩, h2⟩, h3⟩, h4⟩ := h
    exact ⟨f, x, hn, hf, hx, hl, h1, h2, h3, h4⟩
  · simp at h
  · rename_i hk
    simp at hk

theorem intervalSound_idle {g : AggregatorUnit} (h : intervalSound g = true) (hc : g.current = none) : accountsClear g := by
  unfold intervalSound at h
  rw [hc] at h
  simp only [Bool.and_eq_true, decide_eq_true_eq, beq_iff_eq] at h
  obtain ⟨⟨⟨⟨⟨⟨⟨⟨hl, -⟩, -⟩, h1⟩, h2⟩, h3⟩, -⟩, -⟩, -⟩ := h
  exact ⟨hl, hc, h1, h2, h3⟩

/-- The frame's interval begins after another closed. -/
theorem readyFor_afterClose (hl : 15 ≤ s.agg.length) (hf : freshWindow i s.agg = true) :
    readyFor i (beginInterval (i / s.agg.length) i (closeInterval cause k s)).1.agg := by
  have hagg := closeInterval_agg cause k s
  have := readyFor_beginInterval (s := closeInterval cause k s) (i := i) (by rw [hagg]; exact ⟨hl, rfl, rfl, rfl, rfl⟩)
    (by rw [hagg]; exact hf)
  rwa [hagg] at this

theorem readyFor_settleInterval (h : intervalSound s.agg = true) (hf : freshWindow i s.agg = true) :
    readyFor i (settleInterval i s).1.agg := by
  unfold settleInterval
  dsimp only
  split
  · rename_i hc
    exact readyFor_beginInterval (intervalSound_idle h hc) hf
  · rename_i k hc
    obtain ⟨f, x, hn, hfirst, hx, hl, h1, h2, h3, h4⟩ := intervalSound_current h hc
    have hxi : x < i := by simpa [freshWindow, hx] using hf
    split
    · rename_i hk
      obtain ⟨hle, hlt⟩ := within_interval hl i
      rw [← hk] at hle hlt
      refine ⟨k, f, hc, hn, hfirst, hl, h1, by omega, hlt, ?_⟩
      show s.agg.aggregated + s.agg.excluded + (s.agg.missing + (i - nextWindow s.agg i)) = i - f
      simp only [nextWindow, hx, Option.map_some, Option.getD_some]
      omega
    · exact readyFor_afterClose hl hf

theorem readyFor.counted {g : AggregatorUnit} (h : readyFor i g) {g' : AggregatorUnit} (hlast : lastOfInterval i g' = false)
    (hlen : g'.length = g.length) (hc : g'.current = g.current) (hn : g'.curN = g.curN) (hf : g'.first = g.first)
    (hh : g'.highest = some i) (hcount : g'.aggregated + g'.excluded + g'.missing = g.aggregated + g.excluded + g.missing + 1) :
    intervalSound g' = true := by
  obtain ⟨k, f, h1, h2, h3, h4, h5, h6, h7, h8⟩ := h
  rw [h1] at hc
  rw [h2] at hn
  rw [h3] at hf
  simp only [lastOfInterval, hc, lastAccounted, currentLength, hn, Option.getD_some, beq_eq_false_iff_ne] at hlast
  simp only [intervalSound, hc, hn, hf, hh, hlen, Bool.and_eq_true, decide_eq_true_eq, beq_iff_eq]
  exact ⟨⟨⟨⟨⟨h4, trivial⟩, h5⟩, h6⟩, by omega⟩, by omega⟩

theorem takeWindow_agg (v : FrameValues) (s : State) : (takeWindow v s).1.agg.length = s.agg.length ∧
    (takeWindow v s).1.agg.current = s.agg.current ∧ (takeWindow v s).1.agg.curN = s.agg.curN ∧
    (takeWindow v s).1.agg.first = s.agg.first ∧ (takeWindow v s).1.agg.highest = some v.index ∧
    (takeWindow v s).1.agg.aggregated + (takeWindow v s).1.agg.excluded + (takeWindow v s).1.agg.missing =
      s.agg.aggregated + s.agg.excluded + s.agg.missing + 1 := by
  unfold takeWindow
  dsimp only
  split
  · refine ⟨rfl, rfl, rfl, rfl, rfl, ?_⟩
    show s.agg.aggregated + (s.agg.excluded + 1) + s.agg.missing = _
    omega
  · refine ⟨rfl, rfl, rfl, rfl, rfl, ?_⟩
    show s.agg.aggregated + 1 + s.agg.excluded + s.agg.missing = _
    omega

theorem intervalSound_takeFrame (h : intervalSound s.agg = true) (hf : freshWindow v.index s.agg = true) :
    intervalSound (takeFrame v s).1.agg = true := by
  have hready := readyFor_settleInterval h hf
  obtain ⟨hlen, hc, hn, hfirst, hh, hcount⟩ := takeWindow_agg v (settleInterval v.index s).1
  unfold takeFrame
  dsimp only
  split
  · rw [closeInterval_agg]
    obtain ⟨-, -, -, -, -, hl, -⟩ := hready
    exact intervalSound_clearInterval _ (hlen ▸ hl)
  · rename_i hlast
    exact hready.counted (by simpa using hlast) hlen hc hn hfirst hh hcount

theorem respond_agg (p : Port) (k : RequestKind) (code : ResultCode) (body : List Word) (s : State) :
    (respond p k code body s).agg = s.agg := by
  cases p <;> rfl

theorem intervalSound_postFrame (h : exec (.postFrame p) s = .next t) (hs : intervalSound s.agg = true) :
    intervalSound t.agg = true := by
  simp only [exec, execPostFrame, Host.Outcome.next.injEq] at h
  subst h
  by_cases hw : ∃ body, waits p .postFrame body s
  · obtain ⟨body, hw⟩ := hw
    rw [takeRequest_of_waits _ hw]
    have hs' : intervalSound (withdrawn p s).agg = true := by rwa [show (withdrawn p s).agg = s.agg by cases p <;> rfl]
    split
    · rwa [respond_agg]
    · split
      · rwa [respond_agg]
      · split
        · rwa [respond_agg]
        · split
          · rwa [respond_agg]
          · rename_i hfresh
            rw [respond_agg]
            exact intervalSound_takeFrame hs' (by simpa using hfresh)
  · rwa [takeRequest_of_other _ (not_exists.1 hw)]

/-! ### Notices (R118, R127) -/

theorem run_eventOpeningNotice (h : exec .eventOpeningNotice s = .next t) : Run .eventOpeningNotice s₀ s t := by
  simp only [exec, execEventOpeningNotice, Host.Outcome.next.injEq] at h
  subst h
  split
  · rename_i rest _
    have hmark : Act .eventOpeningNotice s₀ true s
        (s.setAgg (if s.agg.current.isSome then { s.agg with eventSeen := true } else s.agg)) := by
      split
      · rename_i hc
        refine act_setAgg ⟨rfl, rfl, rfl, rfl, rfl⟩ (.inr fun h => ?_) id .inl
        obtain ⟨k, hk⟩ := Option.isSome_iff_exists.1 hc
        obtain ⟨f, x, hn, hf, hx, hl, h1, h2, h3, h4⟩ := intervalSound_current h hk
        simp [intervalSound, hk, hn, hf, hx, hl, h1, h2, h3, h4]
      · exact act_setAgg ⟨rfl, rfl, rfl, rfl, rfl⟩ (.inr id) id .inl
    exact Acts.run (.tail hmark.acts (act_flight rfl rfl (within_refl _)))
  · exact .refl s

theorem closeCurrent_notices (cause : CloseCause) (s : State) (hp : s.survey.stopPending ≠ .none) :
    (closeCurrent cause s).flight.stopNotices = s.flight.stopNotices := by
  unfold closeCurrent
  split
  · exact notices_appends (s := occupancyRead s) (t := intervalAppended cause _ s) (appends_intervalAppended cause _ s) hp
  · rfl

theorem run_stopNoticeAggregator (h : exec .stopNoticeAggregator s = .next t) : Run .stopNoticeAggregator s s t := by
  simp only [exec, execStopNoticeAggregator, Host.Outcome.next.injEq] at h
  subst h
  split
  · rename_i hn
    have h0 : StopSound s → s.survey.stopPending ≠ .none := pending_of_notice (by intro e; simp [e, Blocks.empty] at hn)
    refine Acts.run (.trans (.trans ?_ (acts_closeCurrent _ fun _ => live_of_pending h0))
      (acts_finishBlock (fun h => stopSound_leaveAggregator ?_ (closeCurrent_current _ _)) (fun _ => .inr (closeCurrent_current _ _)) h0))
    · exact Act.acts (act_flight rfl rfl (within_leaveAggregator _))
    · rw [closeCurrent_notices _ _ (by exact h0 h)]
      rfl
  · exact .refl s

end Sys2Proof.Machine

/-! The commands of the Kit Line Unit are runs (R129 to R138). -/

namespace Sys2Proof.Machine

open Sys2Proof

variable {c : Instr} {s₀ s t : State} {p : Port} {a : Bool}

theorem eight_get_set {α : Type} (x : Eight α) (i j : Fin 8) (v : α) : (x.set i v).get j = if j = i then v else x.get j := by
  fin_cases i <;> fin_cases j <;> rfl

/-! ### Presence (R132, R133) -/

/-- A channel's debounce timer runs while its line differs from the settled level, from 50 ms (R132). -/
def timerSound (k : KitUnit) (i : Fin 8) : Prop :=
  ((k.timers.get i).isSome = (comparedLevel k i != k.settled.get i)) ∧ (k.timers.get i).getD 0 ≤ 50

/-- A channel is present when its level has settled FITTED and it has a kind (R133). -/
def presentSound (k : KitUnit) (i : Fin 8) : Prop := k.present.get i = presentNow k i

theorem presenceSound_iff (k : KitUnit) : PresenceSound k ↔ ∀ i, presentSound k i ∧ timerSound k i := Iff.rfl

/-- What `retime` may change is the timers alone. -/
theorem retime_shape (i : Nat) (k k' : KitUnit) : ∃ x, retime i k k' = { k' with timers := x } := by
  unfold retime
  split
  · exact ⟨k'.timers, rfl⟩
  · exact ⟨_, rfl⟩

theorem timerSound_retime {i : Fin 8} {k k' : KitUnit} (ht : k'.timers = k.timers) (hs : k'.settled = k.settled)
    (hother : ∀ j : Fin 8, j ≠ i → comparedLevel k' j = comparedLevel k j) (h : ∀ j, timerSound k j) (j : Fin 8) :
    timerSound (retime i k k') j := by
  obtain ⟨h1, h2⟩ := h j
  unfold retime
  split
  · rename_i hsame
    have hj : comparedLevel k' j = comparedLevel k j := by
      by_cases hji : j = i
      · rw [hji]; exact hsame.symm
      · exact hother j hji
    exact ⟨by rw [ht, hs, hj]; exact h1, by rw [ht]; exact h2⟩
  · by_cases hji : j = i
    · subst hji
      refine ⟨?_, ?_⟩
      · show ((k'.timers.set j _).get j).isSome = (comparedLevel k' j != k'.settled.get j)
        rw [eight_get_set, if_pos rfl]
        split
        · rename_i he
          rw [he]; simp
        · rename_i he
          simpa [bne_iff_ne] using he
      · show ((k'.timers.set j _).get j).getD 0 ≤ 50
        rw [eight_get_set, if_pos rfl]
        split <;> simp [Config.debounceMs]
    · refine ⟨?_, ?_⟩
      · show ((k'.timers.set i _).get j).isSome = (comparedLevel k' j != k'.settled.get j)
        rw [eight_get_set, if_neg hji, ht, hs, hother j hji]; exact h1
      · show ((k'.timers.set i _).get j).getD 0 ≤ 50
        rw [eight_get_set, if_neg hji, ht]; exact h2

theorem presenceSound_formPresent {i : Fin 8} {k : KitUnit} (hp : ∀ j, j ≠ i → presentSound k j) (ht : ∀ j, timerSound k j) :
    PresenceSound (formPresent i k) := by
  refine (presenceSound_iff _).2 fun j => ⟨?_, ht j⟩
  show (k.present.set i (presentNow k i)).get j = presentNow k j
  rw [eight_get_set]
  split
  · rename_i hj; rw [hj]
  · exact hp j ‹_›

theorem presenceSound_settleLevel (i : Fin 8) {k : KitUnit} (h : PresenceSound k) : PresenceSound (settleLevel i k) := by
  refine presenceSound_formPresent (fun j hj => ?_) fun j => ?_
  · show k.present.get j = ((k.settled.set i _).get j && (k.entries.get j).kind != .none)
    rw [eight_get_set, if_neg hj]
    exact (h j).1
  · obtain ⟨-, h1, h2⟩ := h j
    refine ⟨?_, ?_⟩
    · show ((k.timers.set i none).get j).isSome = (comparedLevel k j != (k.settled.set i (comparedLevel k i)).get j)
      rw [eight_get_set, eight_get_set]
      split
      · rename_i hj; subst hj; simp
      · exact h1
    · show ((k.timers.set i none).get j).getD 0 ≤ 50
      rw [eight_get_set]
      split
      · simp
      · exact h2

/-- A sense line's new level. -/
theorem presenceSound_senseLine (i : Fin 8) (high : Bool) {k : KitUnit} (h : PresenceSound k) :
    PresenceSound (retime i k { k with sense := k.sense.set i high }) := by
  refine (presenceSound_iff _).2 fun j => ⟨?_, timerSound_retime (by rfl) (by rfl) (fun j hj => ?_) (fun j => (h j).2) j⟩
  · obtain ⟨x, e⟩ := retime_shape i k { k with sense := k.sense.set i high }
    rw [e]
    exact (h j).1
  · show ((k.sense.set i high).get j == _) = _
    rw [eight_get_set, if_neg hj]
    rfl

theorem presenceSound_placeEntry (i : Fin 8) (e : ProbeEntry) {k : KitUnit} (h : PresenceSound k) : PresenceSound (placeEntry i e k) := by
  refine presenceSound_formPresent (fun j hj => ?_) (timerSound_retime rfl rfl (fun j hj => ?_) fun j => (h j).2)
  · obtain ⟨x, hx⟩ := retime_shape i k { k with entries := k.entries.set i e }
    rw [hx]
    show k.present.get j = (k.settled.get j && ((k.entries.set i e).get j).kind != .none)
    rw [eight_get_set, if_neg hj]
    exact (h j).1
  · show (_ == ((k.entries.set i e).get j).activeHigh) = _
    rw [eight_get_set, if_neg hj]
    rfl

/-- A placed entry leaves the settings but the entries, and the supply. -/
theorem placeEntry_shape (i : Nat) (e : ProbeEntry) (k : KitUnit) : ∃ x y, placeEntry i e k =
    { k with entries := k.entries.set i e, timers := x, present := y } := by
  obtain ⟨x, hx⟩ := retime_shape i k { k with entries := k.entries.set i e }
  exact ⟨x, _, by rw [placeEntry, hx]; rfl⟩

/-! ### Acts of the Kit Line Unit -/

theorem act_setKit {k : KitUnit} (he : k.entries = s.kit.entries) (ho : k.supplyOn = s.kit.supplyOn)
    (hs : SupplySound s.kit → SupplySound k) (hp : PresenceSound s.kit → PresenceSound k) : Act c s₀ a s (s.setKit k) :=
  .kit (.inl (by simp [settingsOf, he, ho])) hs hp

theorem acts_sendProbeNotice (i : Nat) (k k' : KitUnit) (s : State) : Acts c s₀ a s (sendProbeNotice i k k' s) := by
  unfold sendProbeNotice
  split
  · exact Act.acts (act_flight rfl rfl (within_refl _))
  · exact .refl

theorem acts_announcePresence (i : Nat) (byEntry : Bool) (hsur : s.survey.state = s₀.survey.state) :
    Acts c s₀ true s (announcePresence i byEntry s) := by
  unfold announcePresence
  exact (acts_raiseBoth .probe s).trans (acts_markInRunning _ hsur)

theorem sendProbeNotice_survey (i : Nat) (k k' : KitUnit) (s : State) : (sendProbeNotice i k k' s).survey = s.survey := by
  unfold sendProbeNotice; split <;> rfl

theorem acts_settleChannel (i : Fin 8) (s : State) : Acts c s true s (settleChannel i s) := by
  have hkit : Acts c s true s (s.setKit (settleLevel i s.kit)) :=
    Act.acts (act_setKit rfl rfl id (presenceSound_settleLevel i))
  unfold settleChannel
  dsimp only
  split
  · exact hkit
  · refine .trans (.trans hkit (acts_sendProbeNotice _ _ _ _)) (acts_announcePresence _ _ ?_)
    rw [sendProbeNotice_survey]; rfl

/-- A probe entry takes effect (R131). -/
theorem acts_changeEntry {i : Fin 8} {e : ProbeEntry} (hc : c = .probeSet p) (he : entrySound i e = true)
    (hsur : s.survey.state = s₀.survey.state) : Acts c s₀ true s (changeEntry i e s) := by
  have hkit : Acts c s₀ true s (s.setKit (placeEntry i e s.kit)) := by
    obtain ⟨x, y, hshape⟩ := placeEntry_shape i e s.kit
    refine Act.acts (.kit (.inr ⟨⟨.probe, p, hc⟩, fun h => ?_⟩) (fun h => ?_) (presenceSound_placeEntry i e))
    · rw [hshape]
      obtain ⟨h1, h2, h3, h4, h5, h6, h7, h8, h9⟩ := h
      refine ⟨h1, h2, h3, h4, h5, h6, h7, ?_, h9⟩
      rw [List.all_eq_true] at h8 ⊢
      intro j hj
      have := eight_get_set s.kit.entries i ⟨j, List.mem_range.1 hj⟩ e
      dsimp only at this
      show entrySound j ((s.kit.entries.set i e).get j) = true
      rw [this]
      split
      · rename_i hji; rw [← hji] at he; exact he
      · exact h8 j hj
    · rw [hshape]; exact h
  unfold changeEntry
  split
  · exact .refl
  · dsimp only
    have hsent := hkit.trans (acts_sendProbeNotice i s.kit (placeEntry i e s.kit) (s.setKit (placeEntry i e s.kit)))
    split
    · exact hsent
    · refine hsent.trans (acts_announcePresence _ _ ?_)
      rw [sendProbeNotice_survey]; exact hsur

/-! ### Commands -/

theorem run_senseLineChange {i : Fin 8} {high : Bool} (h : exec (.senseLineChange i high) s = .next t) :
    Run (.senseLineChange i high) s₀ s t := by
  simp only [exec, execSenseLineChange, Host.Outcome.next.injEq] at h
  subst h
  split
  · exact .refl s
  · obtain ⟨x, e⟩ := retime_shape i s.kit { s.kit with sense := s.kit.sense.set i high }
    refine Act.run (a := true) (act_setKit (by rw [e]) (by rw [e]) (fun h => by rw [e]; exact h) (presenceSound_senseLine i high))

theorem run_debounceExpiry {i : Fin 8} (h : exec (.debounceExpiry i) s = .next t) : Run (.debounceExpiry i) s s t := by
  simp only [exec, execDebounceExpiry, Host.Outcome.next.injEq] at h
  subst h
  split
  · exact (acts_settleChannel i s).run
  · exact .refl s

theorem supplySound_settleSupply {k : KitUnit} (h : k.faultActive = true → k.faulted = true) : SupplySound (settleSupply k) := ⟨rfl, h⟩

theorem run_faultInputActive (h : exec .faultInputActive s = .next t) : Run .faultInputActive s s t := by
  simp only [exec, execFaultInputActive, Host.Outcome.next.injEq] at h
  subst h
  split
  · exact .refl s
  · refine Acts.run (.trans (.head ?_ (acts_raiseBoth .probe _)) (acts_markInRunning _ rfl))
    exact act_setKit rfl rfl (fun _ => supplySound_settleSupply fun _ => rfl) id

theorem run_faultInputInactive (h : exec .faultInputInactive s = .next t) : Run .faultInputInactive s s t := by
  simp only [exec, execFaultInputInactive, Host.Outcome.next.injEq] at h
  subst h
  split
  · refine Act.run (a := true) (act_setKit rfl rfl (fun _ => supplySound_settleSupply fun h => ?_) id)
    simp at h
  · exact .refl s

theorem run_supplyRestore (h : exec (.supplyRestore p) s = .next t) : Run (.supplyRestore p) s s t := by
  simp only [exec, execSupplyRestore, Host.Outcome.next.injEq] at h
  subst h
  refine run_takeRequest (by simp) fun body _ => ?_
  split
  · exact answered_refused _ _ _ _ _ _ _
  · split
    · exact answered_refused _ _ _ _ _ _ _
    · rename_i hinactive
      split
      · exact answered_refused _ _ _ _ _ _ _
      · refine Acts.answered (a := true) ?_
        unfold restoreSupply
        refine .head ?_ (acts_markInRunning _ ?_)
        · exact act_setKit rfl rfl (fun _ => supplySound_settleSupply fun h => absurd h hinactive) id
        · simp [State.setKit]

end Sys2Proof.Machine

/-! What a SET does at its owner (R12, R13): the owner's tables against `accepts`, and the change it makes. -/

namespace Sys2Proof.Machine

open Sys2Proof

variable {c : Instr} {s₀ s t u : State} {p : Port} {a : Bool} {i : Item} {v : List Word} {x : Settings} {y : Bool}

/-! ### The owners (R12) -/

/-- The owner of an item that SET takes. -/
def ownerOf : Item → Owner
  | .journalPolicy => ownJournalPolicy
  | .syncA => ownSyncA
  | .syncB => ownSyncB
  | .syncF => ownSyncF
  | .bandEdges => ownBandEdges
  | .dipThreshold => ownDip
  | .intrThreshold => ownIntr
  | .swellThreshold => ownSwell
  | .hysteresis => ownHysteresis
  | .holdOff => ownHoldOff
  | .preCycles => ownPreCycles
  | .postCycles => ownPostCycles
  | .intervalLength => ownIntervalLength
  | .keptOrders => ownKeptOrders
  | .recordMask => ownRecordMask
  | .flagPolicy => ownFlagPolicy
  | .limit => ownLimit
  | .probe => fun _ _ => none
  | .supply => ownSupply
  | .baud => ownBaud
  | .parity => ownParity
  | .stallTimeout => ownStallTimeout

theorem exec_setCommand (hi : i ≠ .probe) (p : Port) (s : State) :
    exec (setCommand i p) s = .next (takeSetOf p i (ownerOf i) s) := by
  cases i with
  | probe => exact absurd rfl hi
  | _ => rfl

/-- A setting whose change closes the current interval (R116). -/
def splits (i : Item) : Bool := i == .intervalLength || i == .keptOrders || i == .recordMask || i == .limit

/-- A sync word (R45). -/
def isSyncWord (i : Item) : Bool := i == .syncA || i == .syncB || i == .syncF

/-- What the owner of item i does when its settings become x; the Boolean says that a sync word, or a setting that splits, is
changed. -/
def ownerEffect (i : Item) (changed : Bool) (x : Settings) (s : State) : State :=
  match i with
  | .syncA => if changed then syncChanged (withSettings x s) else withSettings x s
  | .syncB => if changed then syncChanged (withSettings x s) else withSettings x s
  | .syncF => if changed then syncChanged (withSettings x s) else withSettings x s
  | .intervalLength => withSettings x (if changed then closeCurrent .split s else s)
  | .keptOrders => withSettings x (if changed then closeCurrent .split s else s)
  | .recordMask => withSettings x (if changed then closeCurrent .split s else s)
  | .limit => withSettings x (if changed then closeCurrent .split s else s)
  | .bandEdges => (withSettings x s).setHcu (changeEdges s.inSurvey x.edges s.hcu)
  | .supply => changeSupply x.supplyOn s
  | _ => withSettings x s

/-- The change that an owner answers with: what its SETTING record says, and what it does. -/
structure ChangeOf (i : Item) (v : List Word) (s : State) (x : Settings) (y : Bool) (ch : SetChange) : Prop where
  clamped : ch.clamped = y
  qualifier : ch.qualifier = if i = .limit then (v.getD 0 0).toNat else 0
  old : valueWords i (v.getD 0 0).toNat s = some ch.old
  new : ∀ u, settingsOf u = x → (settingsOf s).limits.length = 49 → valueWords i (v.getD 0 0).toNat u = some ch.new
  effect : ∀ u, settingsOf u = settingsOf s → ∃ changed, ch.effect u = ownerEffect i changed x u ∧
    (changed = false → x.length = u.agg.length) ∧ ((i = .limit → x.limits.length = 49) → changed = decide (x ≠ settingsOf u))

/-- An owner's answer to a value of its length: refused as BAD_VALUE, or the change. -/
def answersAs (i : Item) (v : List Word) (s : State) (o : Option (Option SetChange)) : Prop :=
  (accepts i v (settingsOf s) = none ∧ o = some none) ∨
    ∃ x y ch, accepts i v (settingsOf s) = some (x, y) ∧ o = some (some ch) ∧ ChangeOf i v s x y ch

/-! ### Settings in force -/

theorem withSettings_self (s : State) : withSettings (settingsOf s) s = s := by
  simp [withSettings, settingsOf]

@[simp] theorem settingsOf_withSettings (x : Settings) (s : State) : settingsOf (withSettings x s) = x := rfl

/-- An item that its owner stores and does no more with. -/
def storesOnly (i : Item) : Bool := !isSyncWord i && !splits i && i != .bandEdges && i != .supply

theorem ownerEffect_of_storesOnly (h : storesOnly i = true) (b : Bool) (x : Settings) (s : State) :
    ownerEffect i b x s = withSettings x s := by
  cases i with
  | syncA => exact absurd h (by decide)
  | syncB => exact absurd h (by decide)
  | syncF => exact absurd h (by decide)
  | bandEdges => exact absurd h (by decide)
  | intervalLength => exact absurd h (by decide)
  | keptOrders => exact absurd h (by decide)
  | recordMask => exact absurd h (by decide)
  | limit => exact absurd h (by decide)
  | supply => exact absurd h (by decide)
  | _ => rfl

/-- An item that is stored and no more: the change is that its owner holds the new value. -/
theorem effect_stores {f : State → State} (h : storesOnly i = true)
    (hlen : x.length = (settingsOf s).length) (hf : ∀ u, settingsOf u = settingsOf s → f u = withSettings x u) :
    ∀ u, settingsOf u = settingsOf s → ∃ changed, f u = ownerEffect i changed x u ∧
      (changed = false → x.length = u.agg.length) ∧ ((i = .limit → x.limits.length = 49) → changed = decide (x ≠ settingsOf u)) :=
  fun u hu => ⟨decide (x ≠ settingsOf u), by rw [ownerEffect_of_storesOnly h, hf u hu], fun _ => hlen.trans (congrArg Settings.length hu.symm), fun _ => rfl⟩

/-! ### Values of one word -/

theorem clampOwner_of_length {lo hi : Nat} {get : State → Nat} {ok : Nat → State → Bool} {put : Nat → State → State}
    (h : v.length ≠ 1) : clampOwner lo hi get ok put v s = none := by
  match v with
  | [] => rfl
  | [w] => exact absurd rfl h
  | _ :: _ :: _ => rfl

theorem namedOwner_of_length {get : State → Bool} {put : Bool → State → State} (h : v.length ≠ 1) : namedOwner get put v s = none := by
  match v with
  | [] => rfl
  | [w] => exact absurd rfl h
  | _ :: _ :: _ => rfl

/-- An owner that clamps answers as its table says. -/
theorem answersAs_clamp {lo hi : Nat} {get : State → Nat} {ok : Nat → State → Bool} {put : Nat → State → State} {w : Word}
    {new : Nat → Settings} (hacc : accepts i [w] (settingsOf s) = clamped lo hi w (fun n => ok n s) new) (hlim : i ≠ .limit)
    (hold : valueWords i w.toNat s = some [word (get s)])
    (hnew : ∀ n u, settingsOf u = new n → valueWords i w.toNat u = some [word n])
    (heff : ∀ n u, settingsOf u = settingsOf s → ∃ changed, put n u = ownerEffect i changed (new n) u ∧
      (changed = false → (new n).length = u.agg.length) ∧ ((i = .limit → (new n).limits.length = 49) → changed = decide (new n ≠ settingsOf u))) :
    answersAs i [w] s (clampOwner lo hi get ok put [w] s) := by
  rw [answersAs, hacc]
  by_cases hok : ok (clampTo lo hi w.toNat) s = true
  · exact .inr ⟨_, _, _, if_pos hok, congrArg some (if_pos hok), rfl, (if_neg hlim).symm, hold, fun u hu _ => hnew _ u hu, heff _⟩
  · exact .inl ⟨if_neg hok, congrArg some (if_neg hok)⟩

/-- An owner of two named values answers as its table says: the first value is that of `true`. -/
theorem answersAs_named {get : State → Bool} {put : Bool → State → State} {w : Word} {new : Bool → Settings}
    (hacc : accepts i [w] (settingsOf s) = namedOf w (new true) (new false)) (hlim : i ≠ .limit)
    (hold : valueWords i w.toNat s = some [word (bit !(get s))])
    (hnew : ∀ b u, settingsOf u = new b → valueWords i w.toNat u = some [word (bit !b)])
    (heff : ∀ b u, settingsOf u = settingsOf s → ∃ changed, put b u = ownerEffect i changed (new b) u ∧
      (changed = false → (new b).length = u.agg.length) ∧ ((i = .limit → (new b).limits.length = 49) → changed = decide (new b ≠ settingsOf u))) :
    answersAs i [w] s (namedOwner get put [w] s) := by
  rw [answersAs, hacc]
  by_cases h0 : w = 0
  · subst h0
    exact .inr ⟨_, _, _, rfl, rfl, rfl, (if_neg hlim).symm, hold, fun u hu _ => hnew true u hu, heff true⟩
  · by_cases h1 : w = 1
    · subst h1
      exact .inr ⟨_, _, _, rfl, rfl, rfl, (if_neg hlim).symm, hold, fun u hu _ => hnew false u hu, heff false⟩
    · exact .inl ⟨(if_neg h0).trans (if_neg h1), congrArg some (if_neg (not_or.2 ⟨h0, h1⟩))⟩

end Sys2Proof.Machine

/-! Each owner's answer to a SET is that of its table (R12, R25, R44, R72, R81, R82, R114, R115, R136, R179). -/

namespace Sys2Proof.Machine

open Sys2Proof

variable {s u : State} {i : Item} {v : List Word} {x : Settings}

theorem length_two {v : List Word} (h : v.length = 2) : ∃ o w, v = [o, w] := by
  match v, h with
  | [o, w], _ => exact ⟨o, w, rfl⟩

/-! ### Settings that split the interval (R116) -/

theorem settingsOf_clearInterval (g : AggregatorUnit) : settingsOf (s.setAgg (clearInterval g.highest g)) = settingsOf (s.setAgg g) := rfl

theorem settingsOf_closeInterval (cause : CloseCause) (k : Nat) (s : State) : settingsOf (closeInterval cause k s) = settingsOf s :=
  (appends_intervalAppended cause k s).beside.settings

theorem settingsOf_closeCurrent (cause : CloseCause) (s : State) : settingsOf (closeCurrent cause s) = settingsOf s := by
  unfold closeCurrent
  split
  · exact settingsOf_closeInterval _ _ _
  · rfl

/-- The aggregator stores a setting, after its split. -/
theorem effect_splits {f : AggregatorUnit → AggregatorUnit} {g : Settings → Settings} {changed : Bool} (hi : splits i = true)
    (hf : ∀ w : State, w.setAgg (f w.agg) = withSettings (g (settingsOf w)) w) (hu : settingsOf u = settingsOf s) :
    splitAnd changed f u = ownerEffect i changed (g (settingsOf s)) u := by
  have hw : splitAnd changed f u = withSettings (g (settingsOf s)) (if changed then closeCurrent .split u else u) := by
    have hset : settingsOf (if changed then closeCurrent .split u else u) = settingsOf s := by
      rw [← hu]; split
      · exact settingsOf_closeCurrent _ _
      · rfl
    rw [← hset]
    exact hf _
  rw [hw]
  simp only [splits, Bool.or_eq_true, beq_iff_eq] at hi
  obtain ((rfl | rfl) | rfl) | rfl := hi <;> rfl

/-! ### Sync words (R44, R45) -/

theorem answersAs_sync {get : LinkUnit → Word} {others : LinkUnit → List Word} {put : Word → LinkUnit → LinkUnit} {w : Word}
    {new : Settings} (hi : isSyncWord i = true) (hacc : accepts i [w] (settingsOf s) = syncAccepted w (others s.link) new)
    (hold : valueWords i w.toNat s = some [get s.link]) (hnew : ∀ u, settingsOf u = new → valueWords i w.toNat u = some [w])
    (hlen : new.length = s.agg.length)
    (hput : ∀ u : State, settingsOf u = settingsOf s → u.setLink (put w u.link) = withSettings new u ∧ (w = get u.link ↔ new = settingsOf u)) :
    answersAs i [w] s (syncOwner get others put [w] s) := by
  rw [answersAs, hacc]
  by_cases hok : w ≠ 0 ∧ w ≠ 0xFFFF ∧ w ∉ others s.link
  · have hno : ¬ (w = 0 ∨ w = 0xFFFF ∨ w ∈ others s.link) := by tauto
    refine .inr ⟨_, _, _, if_neg hno, congrArg some (if_pos hok), rfl, ?_, hold, fun u hu _ => hnew u hu, fun u hu => ?_⟩
    · rw [if_neg (by rintro rfl; exact absurd hi (by decide))]
    · obtain ⟨hset, hsame⟩ := hput u hu
      refine ⟨decide (new ≠ settingsOf u), ?_, fun _ => hlen.trans (congrArg Settings.length hu.symm), fun _ => rfl⟩
      have heff : ownerEffect i (decide (new ≠ settingsOf u)) new u =
          if decide (new ≠ settingsOf u) then syncChanged (withSettings new u) else withSettings new u := by
        simp only [isSyncWord, Bool.or_eq_true, beq_iff_eq] at hi
        obtain (rfl | rfl) | rfl := hi <;> rfl
      rw [heff]
      show (if w = get u.link then u.setLink (put w u.link) else syncChanged (u.setLink (put w u.link))) = _
      rw [hset]
      by_cases he : new = settingsOf u
      · simp [he, hsame.2 he]
      · have hne : ¬ w = get u.link := fun h => he (hsame.1 h)
        rw [if_neg hne, if_pos (decide_eq_true he)]
  · have hno : w = 0 ∨ w = 0xFFFF ∨ w ∈ others s.link := by tauto
    exact .inl ⟨if_pos hno, congrArg some (if_neg hok)⟩

/-! ### The other items of more than one word -/

theorem map_word_toNat (l : List Word) : (l.map BitVec.toNat).map word = l := by
  induction l with
  | nil => rfl
  | cons w rest ih =>
    rw [List.map_cons, List.map_cons, ih]
    simp [word]

theorem answersAs_bandEdges (hv : v.length = 7) : answersAs .bandEdges v s (ownBandEdges v s) := by
  have hacc : accepts .bandEdges v (settingsOf s) =
      if edgesValid (v.map BitVec.toNat) then some ({ settingsOf s with edges := v.map BitVec.toNat }, false) else none := rfl
  rw [answersAs, hacc, ownBandEdges, if_pos hv]
  by_cases hok : edgesValid (v.map BitVec.toNat) = true
  · refine .inr ⟨_, _, _, if_pos hok, congrArg some (if_pos hok), rfl, rfl, rfl, fun u hu _ => ?_, fun u hu => ?_⟩
    · have he : u.hcu.edges = v.map BitVec.toNat := congrArg Settings.edges hu
      show some (u.hcu.edges.map word) = some v
      rw [he, map_word_toNat]
    · refine ⟨_, ?_, fun _ => congrArg Settings.length hu.symm, fun _ => rfl⟩
      rw [← hu]
      simp [ownerEffect, withSettings, settingsOf, State.setHcu]
  · exact .inl ⟨if_neg hok, congrArg some (if_neg hok)⟩

theorem answersAs_recordMask (w : Word) : answersAs .recordMask [w] s (ownRecordMask [w] s) := by
  have hacc : accepts .recordMask [w] (settingsOf s) =
      if maskCount (w.setWidth 8 : BitVec 8) * s.agg.kept ≤ 400 then some ({ settingsOf s with mask := w.setWidth 8 }, false) else none := rfl
  rw [answersAs, hacc]
  by_cases hok : maskCount (w.setWidth 8 : BitVec 8) * s.agg.kept ≤ 400
  · refine .inr ⟨_, _, _, if_pos hok, congrArg some (if_pos (decide_eq_true hok)), rfl, rfl, rfl, fun u hu _ => ?_, fun u hu => ?_⟩
    · have he : u.agg.mask = w.setWidth 8 := congrArg Settings.mask hu
      show some [word u.agg.mask.toNat] = _
      rw [he]
    · refine ⟨(w.setWidth 8 : BitVec 8) != u.agg.mask, effect_splits
        (f := fun g => { g with mask := w.setWidth 8 }) (g := fun y => { y with mask := w.setWidth 8 }) rfl ?_ hu,
        fun _ => congrArg Settings.length hu.symm, fun _ => ?_⟩
      · intro t; simp [withSettings, settingsOf, State.setAgg]
      · rw [← hu, Bool.eq_iff_iff, bne_iff_ne, decide_eq_true_iff, not_iff_not]
        exact ⟨fun h => by rw [h]; rfl, fun h => congrArg Settings.mask h⟩
  · exact .inl ⟨if_neg hok, congrArg some (if_neg (by simpa [withinBudget] using hok))⟩

theorem answersAs_limit (o w : Word) : answersAs .limit [o, w] s (ownLimit [o, w] s) := by
  have hacc : accepts .limit [o, w] (settingsOf s) = if 2 ≤ o.toNat ∧ o.toNat ≤ 50 then
      some ({ settingsOf s with limits := s.agg.limits.set (o.toNat - 2) (min 1000 w.toNat) }, decide (1000 < w.toNat)) else none := rfl
  rw [answersAs, hacc]
  by_cases hok : 2 ≤ o.toNat ∧ o.toNat ≤ 50
  · refine .inr ⟨_, _, _, if_pos hok, congrArg some (if_pos hok), ?_, rfl, if_pos hok, fun u hu h49 => ?_, fun u hu => ?_⟩
    · rw [Bool.eq_iff_iff, bne_iff_ne, decide_eq_true_iff]
      omega
    · have he : u.agg.limits = s.agg.limits.set (o.toNat - 2) (min 1000 w.toNat) := congrArg Settings.limits hu
      have hlt : o.toNat - 2 < s.agg.limits.length := by
        have : s.agg.limits.length = 49 := h49
        omega
      show (if 2 ≤ o.toNat ∧ o.toNat ≤ 50 then some [word (u.agg.limits.getD (o.toNat - 2) 0)] else none) = _
      rw [if_pos hok, he, List.getD_eq_getElem?_getD, List.getElem?_set_self hlt]
      rfl
    · refine ⟨min 1000 w.toNat != u.agg.limits.getD (o.toNat - 2) 0,
        effect_splits (f := fun g => { g with limits := g.limits.set (o.toNat - 2) (min 1000 w.toNat) })
          (g := fun y => { y with limits := y.limits.set (o.toNat - 2) (min 1000 w.toNat) }) rfl ?_ hu,
        fun _ => congrArg Settings.length hu.symm, fun h49 => ?_⟩
      · intro t; simp [withSettings, settingsOf, State.setAgg]
      · have hl : u.agg.limits = s.agg.limits := congrArg Settings.limits hu
        have hlt : o.toNat - 2 < u.agg.limits.length := by
          have : (s.agg.limits.set (o.toNat - 2) (min 1000 w.toNat)).length = 49 := h49 rfl
          rw [List.length_set] at this
          rw [hl]; omega
        rw [← hu, Bool.eq_iff_iff, bne_iff_ne, decide_eq_true_iff, not_iff_not, ← hl, List.getD_eq_getElem _ _ hlt]
        constructor
        · intro h
          rw [h, List.set_getElem_self]
          rfl
        · intro h
          have h := congrArg Settings.limits h
          have : (u.agg.limits.set (o.toNat - 2) (min 1000 w.toNat))[o.toNat - 2]'(by simpa using hlt) = u.agg.limits[o.toNat - 2] := by
            congr 1
          rwa [List.getElem_set_self] at this
  · exact .inl ⟨if_neg hok, congrArg some (if_neg hok)⟩

theorem answersAs_baud (h l : Word) : answersAs .baud [h, l] s (ownBaud [h, l] s) := by
  have hacc : accepts .baud [h, l] (settingsOf s) =
      if join32 h l ∈ [9600, 19200, 38400, 115200] then some ({ settingsOf s with baud := join32 h l }, false) else none := rfl
  rw [answersAs, hacc]
  by_cases hok : join32 h l ∈ [9600, 19200, 38400, 115200]
  · refine .inr ⟨_, _, _, if_pos hok, congrArg some (if_pos hok), rfl, rfl, rfl, fun u hu _ => ?_,
      effect_stores rfl rfl fun u hu => ?_⟩
    · exact congrArg (fun n => some (words32 n)) (congrArg Settings.baud hu)
    · rw [← hu]; simp [withSettings, settingsOf, setLineUnit]
  · exact .inl ⟨if_neg hok, congrArg some (if_neg hok)⟩

/-! ### Every owner -/

/-- A clamped item that its owner stores and no more. -/
theorem answersAs_stored {lo hi : Nat} {get : State → Nat} {ok : Nat → State → Bool} {put : Nat → State → State} {w : Word}
    {new : Nat → Settings} (hs : storesOnly i = true) (hacc : accepts i [w] (settingsOf s) = clamped lo hi w (fun n => ok n s) new)
    (hlen : ∀ n, (new n).length = (settingsOf s).length)
    (hwords : ∀ u, valueWords i w.toNat u = some [word (get u)]) (hnew : ∀ n u, settingsOf u = new n → get u = n)
    (hput : ∀ n u, settingsOf u = settingsOf s → put n u = withSettings (new n) u) :
    answersAs i [w] s (clampOwner lo hi get ok put [w] s) :=
  answersAs_clamp hacc (by rintro rfl; exact absurd hs (by decide)) (hwords s) (fun n u hu => by rw [hwords, hnew n u hu])
    fun n => effect_stores hs (hlen n) (hput n)

/-- A clamped item of the aggregator, whose change splits. -/
theorem answersAs_split {lo hi : Nat} {get : AggregatorUnit → Nat} {ok : Nat → State → Bool} {put : Nat → AggregatorUnit → AggregatorUnit}
    {w : Word} {new : Nat → Settings → Settings} (hs : splits i = true) (hl : i ≠ .limit)
    (hacc : accepts i [w] (settingsOf s) = clamped lo hi w (fun n => ok n s) fun n => new n (settingsOf s))
    (hwords : ∀ u : State, valueWords i w.toNat u = some [word (get u.agg)])
    (hnew : ∀ n (t u : State), settingsOf u = new n (settingsOf t) → get u.agg = n)
    (hput : ∀ n (u : State), u.setAgg (put n u.agg) = withSettings (new n (settingsOf u)) u)
    (hsame : ∀ n (u : State), n = get u.agg → new n (settingsOf u) = settingsOf u)
    (hlen : ∀ n (u : State), n = get u.agg → (new n (settingsOf u)).length = u.agg.length) :
    answersAs i [w] s (clampOwner lo hi (fun s => get s.agg) ok (fun n s => splitAnd (n != get s.agg) (put n) s) [w] s) := by
  refine answersAs_clamp (new := fun n => new n (settingsOf s)) hacc hl (hwords s) (fun n u hu => by rw [hwords, hnew n s u hu]) fun n u hu =>
    ⟨n != get u.agg, effect_splits hs (hput n) hu, fun h => ?_, fun _ => ?_⟩
  · rw [← hu]
    exact hlen n u (by simpa using h)
  · rw [← hu, Bool.eq_iff_iff, bne_iff_ne, decide_eq_true_iff, not_iff_not]
    exact ⟨hsame n u, fun h => (hnew n u u h.symm).symm⟩

/-- A named item that its owner stores and no more. -/
theorem answersAs_namedStored {get : State → Bool} {put : Bool → State → State} {w : Word} {new : Bool → Settings}
    (hs : storesOnly i = true) (hacc : accepts i [w] (settingsOf s) = namedOf w (new true) (new false))
    (hlen : ∀ b, (new b).length = (settingsOf s).length)
    (hwords : ∀ u, valueWords i w.toNat u = some [word (bit !(get u))]) (hnew : ∀ b u, settingsOf u = new b → get u = b)
    (hput : ∀ b u, settingsOf u = settingsOf s → put b u = withSettings (new b) u) :
    answersAs i [w] s (namedOwner get put [w] s) :=
  answersAs_named hacc (by rintro rfl; exact absurd hs (by decide)) (hwords s) (fun b u hu => by rw [hwords, hnew b u hu])
    fun b => effect_stores hs (hlen b) (hput b)

/-- An item whose value is one word. -/
theorem ownerOf_answers_word (hi : i ≠ .probe) (hv : valueLength i = 1) (w : Word) : answersAs i [w] s (ownerOf i [w] s) := by
  cases i with
  | probe => exact absurd rfl hi
  | bandEdges => exact absurd hv (by decide)
  | limit => exact absurd hv (by decide)
  | baud => exact absurd hv (by decide)
  | recordMask => exact answersAs_recordMask w
  | syncA =>
    change answersAs _ _ _ (ownSyncA [w] s)
    unfold ownSyncA
    refine answersAs_sync (new := { settingsOf s with syncA := w }) rfl rfl rfl (fun u hu => ?_) rfl fun u hu => ⟨?_, ?_⟩
    · exact congrArg (fun n => some [n]) (congrArg Settings.syncA hu)
    · rw [← hu]; simp [withSettings, settingsOf, State.setLink]
    · rw [← hu]; exact ⟨fun h => by rw [h]; rfl, fun h => congrArg Settings.syncA h⟩
  | syncB =>
    change answersAs _ _ _ (ownSyncB [w] s)
    unfold ownSyncB
    refine answersAs_sync (new := { settingsOf s with syncB := w }) rfl rfl rfl (fun u hu => ?_) rfl fun u hu => ⟨?_, ?_⟩
    · exact congrArg (fun n => some [n]) (congrArg Settings.syncB hu)
    · rw [← hu]; simp [withSettings, settingsOf, State.setLink]
    · rw [← hu]; exact ⟨fun h => by rw [h]; rfl, fun h => congrArg Settings.syncB h⟩
  | syncF =>
    change answersAs _ _ _ (ownSyncF [w] s)
    unfold ownSyncF
    refine answersAs_sync (new := { settingsOf s with syncF := w }) rfl rfl rfl (fun u hu => ?_) rfl fun u hu => ⟨?_, ?_⟩
    · exact congrArg (fun n => some [n]) (congrArg Settings.syncF hu)
    · rw [← hu]; simp [withSettings, settingsOf, State.setLink]
    · rw [← hu]; exact ⟨fun h => by rw [h]; rfl, fun h => congrArg Settings.syncF h⟩
  | dipThreshold =>
    change answersAs _ _ _ (ownDip [w] s)
    unfold ownDip
    exact answersAs_stored (new := fun n => { settingsOf s with dip := n }) rfl rfl (fun _ => rfl) (fun _ => rfl)
      (fun _ _ hu => congrArg Settings.dip hu) fun n u hu => by rw [← hu]; simp [withSettings, settingsOf, setDet]
  | intrThreshold =>
    change answersAs _ _ _ (ownIntr [w] s)
    unfold ownIntr
    exact answersAs_stored (new := fun n => { settingsOf s with intr := n }) rfl rfl (fun _ => rfl) (fun _ => rfl)
      (fun _ _ hu => congrArg Settings.intr hu) fun n u hu => by rw [← hu]; simp [withSettings, settingsOf, setDet]
  | swellThreshold =>
    change answersAs _ _ _ (ownSwell [w] s)
    unfold ownSwell
    exact answersAs_stored (new := fun n => { settingsOf s with swell := n }) rfl rfl (fun _ => rfl) (fun _ => rfl)
      (fun _ _ hu => congrArg Settings.swell hu) fun n u hu => by rw [← hu]; simp [withSettings, settingsOf, setDet]
  | hysteresis =>
    change answersAs _ _ _ (ownHysteresis [w] s)
    unfold ownHysteresis
    exact answersAs_stored (new := fun n => { settingsOf s with hyst := n }) rfl rfl (fun _ => rfl) (fun _ => rfl)
      (fun _ _ hu => congrArg Settings.hyst hu) fun n u hu => by rw [← hu]; simp [withSettings, settingsOf, setDet]
  | holdOff =>
    change answersAs _ _ _ (ownHoldOff [w] s)
    unfold ownHoldOff
    exact answersAs_stored (new := fun n => { settingsOf s with holdOff := n }) rfl rfl (fun _ => rfl) (fun _ => rfl)
      (fun _ _ hu => congrArg Settings.holdOff hu) fun n u hu => by rw [← hu]; simp [withSettings, settingsOf, setDet]
  | preCycles =>
    change answersAs _ _ _ (ownPreCycles [w] s)
    unfold ownPreCycles
    exact answersAs_stored (new := fun n => { settingsOf s with pre := n }) rfl rfl (fun _ => rfl) (fun _ => rfl)
      (fun _ _ hu => congrArg Settings.pre hu) fun n u hu => by rw [← hu]; simp [withSettings, settingsOf]
  | postCycles =>
    change answersAs _ _ _ (ownPostCycles [w] s)
    unfold ownPostCycles
    exact answersAs_stored (new := fun n => { settingsOf s with post := n }) rfl rfl (fun _ => rfl) (fun _ => rfl)
      (fun _ _ hu => congrArg Settings.post hu) fun n u hu => by rw [← hu]; simp [withSettings, settingsOf]
  | stallTimeout =>
    change answersAs _ _ _ (ownStallTimeout [w] s)
    unfold ownStallTimeout
    exact answersAs_stored (new := fun n => { settingsOf s with stallTimeout := n }) rfl rfl (fun _ => rfl) (fun _ => rfl)
      (fun _ _ hu => congrArg Settings.stallTimeout hu) fun n u hu => by rw [← hu]; simp [withSettings, settingsOf, setLineUnit]
  | intervalLength =>
    change answersAs _ _ _ (ownIntervalLength [w] s)
    unfold ownIntervalLength
    exact answersAs_split (new := fun n y => { y with length := n }) rfl (by decide) rfl (fun _ => rfl)
      (fun _ _ _ hu => congrArg Settings.length hu) (fun n u => by simp [withSettings, settingsOf, State.setAgg])
      (fun n u h => by rw [h]; rfl) fun n u h => h
  | keptOrders =>
    change answersAs _ _ _ (ownKeptOrders [w] s)
    unfold ownKeptOrders
    exact answersAs_split (new := fun n y => { y with kept := n }) rfl (by decide) rfl (fun _ => rfl)
      (fun _ _ _ hu => congrArg Settings.kept hu) (fun n u => by simp [withSettings, settingsOf, State.setAgg])
      (fun n u h => by rw [h]; rfl) fun n u h => rfl
  | journalPolicy =>
    change answersAs _ _ _ (ownJournalPolicy [w] s)
    unfold ownJournalPolicy
    exact answersAs_namedStored (new := fun b => { settingsOf s with policy := policyOf b }) rfl rfl (fun _ => rfl) (fun _ => rfl)
      (fun b u hu => by
        have h : u.journal.policy = policyOf b := congrArg Settings.policy hu
        rw [policyIsCapture, h]; cases b <;> rfl)
      fun b u hu => by rw [← hu]; simp [withSettings, settingsOf, State.setJournal]
  | flagPolicy =>
    change answersAs _ _ _ (ownFlagPolicy [w] s)
    unfold ownFlagPolicy
    exact answersAs_namedStored (new := fun b => { settingsOf s with exclude := !b }) rfl rfl (fun _ => rfl)
      (fun u => by simp [valueWords]) (fun b u hu => by
        have h : u.agg.exclude = !b := congrArg Settings.exclude hu
        rw [h, Bool.not_not])
      fun b u hu => by rw [← hu]; simp [withSettings, settingsOf, State.setAgg]
  | parity =>
    change answersAs _ _ _ (ownParity [w] s)
    unfold ownParity
    exact answersAs_namedStored (new := fun b => { settingsOf s with evenParity := !b }) rfl rfl (fun _ => rfl)
      (fun u => by simp [valueWords]) (fun b u hu => by
        have h : u.line.evenParity = !b := congrArg Settings.evenParity hu
        rw [h, Bool.not_not])
      fun b u hu => by rw [← hu]; simp [withSettings, settingsOf, setLineUnit, changeParity]
  | supply =>
    change answersAs _ _ _ (ownSupply [w] s)
    unfold ownSupply
    refine answersAs_named (new := fun b => { settingsOf s with supplyOn := b }) rfl (by decide) ?_ (fun b u hu => ?_) fun b u hu =>
      ⟨_, rfl, fun _ => congrArg Settings.length hu.symm, fun _ => rfl⟩
    · cases h : s.kit.supplyOn <;> simp [valueWords, supplyCode, bit, h]
    · have h : u.kit.supplyOn = b := congrArg Settings.supplyOn hu
      cases b <;> simp [valueWords, supplyCode, bit, h]

/-- Every owner answers a value of its length as its table says (R12). -/
theorem ownerOf_answers (hi : i ≠ .probe) (hv : v.length = valueLength i) : answersAs i v s (ownerOf i v s) := by
  by_cases h1 : valueLength i = 1
  · obtain ⟨w, rfl⟩ := List.length_eq_one_iff.1 (hv.trans h1)
    exact ownerOf_answers_word hi h1 w
  · cases i with
    | bandEdges => exact answersAs_bandEdges hv
    | limit => obtain ⟨o, w, rfl⟩ := length_two hv; exact answersAs_limit o w
    | baud => obtain ⟨h, l, rfl⟩ := length_two hv; exact answersAs_baud h l
    | _ => exact absurd rfl h1

/-- A value of another length suits no item (R12). -/
theorem ownerOf_of_length (hv : v.length ≠ valueLength i) : ownerOf i v s = none := by
  have two : ∀ {f : Word → Word → Option SetChange}, v.length ≠ 2 →
      (match v with | [o, w] => some (f o w) | _ => none) = none := fun {f} h => by
    split
    · exact absurd rfl h
    · rfl
  have one : ∀ {f : Word → Option SetChange}, v.length ≠ 1 →
      (match v with | [w] => some (f w) | _ => none) = none := fun {f} h => by
    split
    · exact absurd rfl h
    · rfl
  cases i with
  | probe => rfl
  | bandEdges => exact if_neg hv
  | limit => exact two hv
  | baud => exact two hv
  | recordMask => exact one hv
  | syncA => exact one hv
  | syncB => exact one hv
  | syncF => exact one hv
  | journalPolicy => rw [ownerOf, ownJournalPolicy]; exact namedOwner_of_length hv
  | flagPolicy => rw [ownerOf, ownFlagPolicy]; exact namedOwner_of_length hv
  | parity => rw [ownerOf, ownParity]; exact namedOwner_of_length hv
  | supply => rw [ownerOf, ownSupply]; exact namedOwner_of_length hv
  | dipThreshold => rw [ownerOf, ownDip]; exact clampOwner_of_length hv
  | intrThreshold => rw [ownerOf, ownIntr]; exact clampOwner_of_length hv
  | swellThreshold => rw [ownerOf, ownSwell]; exact clampOwner_of_length hv
  | hysteresis => rw [ownerOf, ownHysteresis]; exact clampOwner_of_length hv
  | holdOff => rw [ownerOf, ownHoldOff]; exact clampOwner_of_length hv
  | preCycles => rw [ownerOf, ownPreCycles]; exact clampOwner_of_length hv
  | postCycles => rw [ownerOf, ownPostCycles]; exact clampOwner_of_length hv
  | intervalLength => rw [ownerOf, ownIntervalLength]; exact clampOwner_of_length hv
  | keptOrders => rw [ownerOf, ownKeptOrders]; exact clampOwner_of_length hv
  | stallTimeout => rw [ownerOf, ownStallTimeout]; exact clampOwner_of_length hv

end Sys2Proof.Machine

/-! The SETs and PROBE_SET are runs (R12, R13, R130). -/

namespace Sys2Proof.Machine

open Sys2Proof

variable {c : Instr} {s₀ s t u : State} {p : Port} {a : Bool} {i : Item} {v : List Word} {x : Settings} {y : Bool}

/-! ### An accepted value keeps the settings in their ranges -/

theorem namedOf_some {w : Word} {x y z : Settings} {b : Bool} (h : namedOf w x y = some (z, b)) : z = x ∨ z = y := by
  unfold namedOf at h
  split at h
  · exact .inl (by simpa using (congrArg (Option.map Prod.fst) h).symm)
  · split at h
    · exact .inr (by simpa using (congrArg (Option.map Prod.fst) h).symm)
    · simp at h

theorem clamped_some {lo hi : Nat} {w : Word} {ok : Nat → Bool} {put : Nat → Settings} (hle : lo ≤ hi)
    (h : clamped lo hi w ok put = some (x, y)) : ∃ n, lo ≤ n ∧ n ≤ hi ∧ ok n = true ∧ x = put n := by
  unfold clamped at h
  split at h
  · rename_i hok
    refine ⟨(forced lo hi w).1, ?_, ?_, hok, by simpa using (congrArg (Option.map Prod.fst) h).symm⟩ <;> simp only [forced] <;> omega
  · simp at h

theorem syncAccepted_some {w : Word} {others : List Word} {z : Settings} (h : syncAccepted w others z = some (x, y)) :
    w ≠ 0 ∧ w ≠ 0xFFFF ∧ w ∉ others ∧ x = z := by
  unfold syncAccepted at h
  split at h
  · simp at h
  · rename_i hok
    simp only [not_or] at hok
    exact ⟨hok.1, hok.2.1, hok.2.2, by simpa using (congrArg (Option.map Prod.fst) h).symm⟩

theorem some_of_ite {q : Prop} [Decidable q] {z : Settings} {b : Bool} (h : (if q then some (z, b) else none) = some (x, y)) :
    q ∧ x = z := by
  split at h
  · exact ⟨‹q›, by simpa using (congrArg (Option.map Prod.fst) h).symm⟩
  · simp at h

/-- A value that its table accepts lies in its range, and the other items stay (R12). -/
theorem settingsSound_accepts {z : Settings} (h : accepts i v z = some (x, y)) (hs : SettingsSound z) : SettingsSound x := by
  obtain ⟨hsync, hedges, hlow, hhigh, hcap, hagg, hlimits, hprobes, hline⟩ := hs
  cases i with
  | probe => simp [accepts] at h
  | journalPolicy => obtain rfl | rfl := namedOf_some h <;> exact ⟨hsync, hedges, hlow, hhigh, hcap, hagg, hlimits, hprobes, hline⟩
  | flagPolicy => obtain rfl | rfl := namedOf_some h <;> exact ⟨hsync, hedges, hlow, hhigh, hcap, hagg, hlimits, hprobes, hline⟩
  | supply => obtain rfl | rfl := namedOf_some h <;> exact ⟨hsync, hedges, hlow, hhigh, hcap, hagg, hlimits, hprobes, hline⟩
  | parity => obtain rfl | rfl := namedOf_some h <;> exact ⟨hsync, hedges, hlow, hhigh, hcap, hagg, hlimits, hprobes, hline⟩
  | syncA =>
    obtain ⟨h0, h1, hn, rfl⟩ := syncAccepted_some h
    obtain ⟨hab, haf, hbf, ha0, hb0, hf0, ha1, hb1, hf1⟩ := hsync
    simp only [List.mem_cons, List.not_mem_nil, or_false, not_or] at hn
    exact ⟨⟨hn.1, hn.2, hbf, h0, hb0, hf0, h1, hb1, hf1⟩, hedges, hlow, hhigh, hcap, hagg, hlimits, hprobes, hline⟩
  | syncB =>
    obtain ⟨h0, h1, hn, rfl⟩ := syncAccepted_some h
    obtain ⟨hab, haf, hbf, ha0, hb0, hf0, ha1, hb1, hf1⟩ := hsync
    simp only [List.mem_cons, List.not_mem_nil, or_false, not_or] at hn
    exact ⟨⟨Ne.symm hn.1, haf, hn.2, ha0, h0, hf0, ha1, h1, hf1⟩, hedges, hlow, hhigh, hcap, hagg, hlimits, hprobes, hline⟩
  | syncF =>
    obtain ⟨h0, h1, hn, rfl⟩ := syncAccepted_some h
    obtain ⟨hab, haf, hbf, ha0, hb0, hf0, ha1, hb1, hf1⟩ := hsync
    simp only [List.mem_cons, List.not_mem_nil, or_false, not_or] at hn
    exact ⟨⟨hab, Ne.symm hn.1, Ne.symm hn.2, ha0, hb0, h0, ha1, hb1, h1⟩, hedges, hlow, hhigh, hcap, hagg, hlimits, hprobes, hline⟩
  | bandEdges =>
    obtain ⟨he, rfl⟩ := some_of_ite h
    exact ⟨hsync, he, hlow, hhigh, hcap, hagg, hlimits, hprobes, hline⟩
  | dipThreshold =>
    simp only [accepts] at h
    obtain ⟨n, hlo, hhi, hok, rfl⟩ := clamped_some (lo := 100) (hi := 990) (by decide) h
    obtain ⟨-, -, hi1, hi2, -⟩ := hlow
    exact ⟨hsync, hedges, ⟨hlo, hhi, hi1, hi2, of_decide_eq_true hok⟩, hhigh, hcap, hagg, hlimits, hprobes, hline⟩
  | intrThreshold =>
    simp only [accepts] at h
    obtain ⟨n, hlo, hhi, hok, rfl⟩ := clamped_some (lo := 10) (hi := 500) (by decide) h
    obtain ⟨hd1, hd2, -, -, -⟩ := hlow
    exact ⟨hsync, hedges, ⟨hd1, hd2, hlo, hhi, of_decide_eq_true hok⟩, hhigh, hcap, hagg, hlimits, hprobes, hline⟩
  | swellThreshold =>
    simp only [accepts] at h
    obtain ⟨n, hlo, hhi, -, rfl⟩ := clamped_some (lo := 1010) (hi := 1990) (by decide) h
    obtain ⟨-, -, hrest⟩ := hhigh
    exact ⟨hsync, hedges, hlow, ⟨hlo, hhi, hrest⟩, hcap, hagg, hlimits, hprobes, hline⟩
  | hysteresis =>
    simp only [accepts] at h
    obtain ⟨n, hlo, hhi, -, rfl⟩ := clamped_some (lo := 0) (hi := 100) (by decide) h
    obtain ⟨hs1, hs2, -, ho⟩ := hhigh
    exact ⟨hsync, hedges, hlow, ⟨hs1, hs2, hhi, ho⟩, hcap, hagg, hlimits, hprobes, hline⟩
  | holdOff =>
    simp only [accepts] at h
    obtain ⟨n, hlo, hhi, -, rfl⟩ := clamped_some (lo := 0) (hi := 255) (by decide) h
    obtain ⟨hs1, hs2, hh, -⟩ := hhigh
    exact ⟨hsync, hedges, hlow, ⟨hs1, hs2, hh, hhi⟩, hcap, hagg, hlimits, hprobes, hline⟩
  | preCycles =>
    simp only [accepts] at h
    obtain ⟨n, hlo, hhi, -, rfl⟩ := clamped_some (lo := 1) (hi := 8) (by decide) h
    obtain ⟨-, -, hrest⟩ := hcap
    exact ⟨hsync, hedges, hlow, hhigh, ⟨hlo, hhi, hrest⟩, hagg, hlimits, hprobes, hline⟩
  | postCycles =>
    simp only [accepts] at h
    obtain ⟨n, hlo, hhi, -, rfl⟩ := clamped_some (lo := 1) (hi := 24) (by decide) h
    obtain ⟨hp1, hp2, -, -⟩ := hcap
    exact ⟨hsync, hedges, hlow, hhigh, ⟨hp1, hp2, hlo, hhi⟩, hagg, hlimits, hprobes, hline⟩
  | intervalLength =>
    simp only [accepts] at h
    obtain ⟨n, hlo, hhi, -, rfl⟩ := clamped_some (lo := 15) (hi := 3000) (by decide) h
    obtain ⟨-, -, hrest⟩ := hagg
    exact ⟨hsync, hedges, hlow, hhigh, hcap, ⟨hlo, hhi, hrest⟩, hlimits, hprobes, hline⟩
  | keptOrders =>
    simp only [accepts] at h
    obtain ⟨n, hlo, hhi, hok, rfl⟩ := clamped_some (lo := 2) (hi := 50) (by decide) h
    obtain ⟨hl1, hl2, -, -, -⟩ := hagg
    exact ⟨hsync, hedges, hlow, hhigh, hcap, ⟨hl1, hl2, hlo, hhi, of_decide_eq_true hok⟩, hlimits, hprobes, hline⟩
  | stallTimeout =>
    simp only [accepts] at h
    obtain ⟨n, hlo, hhi, -, rfl⟩ := clamped_some (lo := 10) (hi := 600) (by decide) h
    obtain ⟨hbaud, -, -⟩ := hline
    exact ⟨hsync, hedges, hlow, hhigh, hcap, hagg, hlimits, hprobes, ⟨hbaud, hlo, hhi⟩⟩
  | recordMask =>
    obtain ⟨hok, rfl⟩ := some_of_ite h
    obtain ⟨hl1, hl2, hk1, hk2, -⟩ := hagg
    exact ⟨hsync, hedges, hlow, hhigh, hcap, ⟨hl1, hl2, hk1, hk2, hok⟩, hlimits, hprobes, hline⟩
  | limit =>
    obtain ⟨-, rfl⟩ := some_of_ite h
    obtain ⟨hlen, hall⟩ := hlimits
    refine ⟨hsync, hedges, hlow, hhigh, hcap, hagg, ⟨by simpa using hlen, ?_⟩, hprobes, hline⟩
    rw [List.all_eq_true] at hall ⊢
    intro l hl
    obtain hl | rfl := List.mem_or_eq_of_mem_set hl
    · exact hall l hl
    · exact decide_eq_true (Nat.min_le_left _ _)
  | baud =>
    obtain ⟨hok, rfl⟩ := some_of_ite h
    exact ⟨hsync, hedges, hlow, hhigh, hcap, hagg, hlimits, hprobes, ⟨hok, hline.2⟩⟩

end Sys2Proof.Machine

/-! The SETs and PROBE_SET are runs (R12, R13, R130). -/

namespace Sys2Proof.Machine

open Sys2Proof

variable {c : Instr} {s₀ s t u : State} {p : Port} {a : Bool} {i : Item} {v : List Word} {x : Settings} {y : Bool}

/-! ### A block stores its settings -/

theorem act_detectorSettings {d i w h o : Nat}
    (hset : SettingsMove c u (withSettings { settingsOf u with dip := d, intr := i, swell := w, hyst := h, holdOff := o } u)) :
    Act c s₀ a u (withSettings { settingsOf u with dip := d, intr := i, swell := w, hyst := h, holdOff := o } u) := by
  have e : withSettings { settingsOf u with dip := d, intr := i, swell := w, hyst := h, holdOff := o } u =
      { u with det := { u.det with dip := d, intr := i, swell := w, hyst := h, holdOff := o } } := by simp [withSettings, settingsOf]
  rw [e] at hset ⊢
  exact .det hset id .inl

theorem act_captureSettings {m n : Nat} (hset : SettingsMove c u (withSettings { settingsOf u with pre := m, post := n } u)) :
    Act c s₀ a u (withSettings { settingsOf u with pre := m, post := n } u) := by
  have e : withSettings { settingsOf u with pre := m, post := n } u = { u with cap := { u.cap with pre := m, post := n } } := by
    simp [withSettings, settingsOf]
  rw [e] at hset ⊢
  exact .cap hset id .inl

/-- Interval accounts do not depend on the other settings, and with no interval current not on the length either. -/
theorem intervalSound_settings {g : AggregatorUnit} {n k : Nat} {m : BitVec 8} {e : Bool} {l : List Nat}
    (hn : n = g.length ∨ (g.current = none ∧ 15 ≤ n)) (h : intervalSound g = true) :
    intervalSound { g with length := n, kept := k, mask := m, exclude := e, limits := l } = true := by
  obtain rfl | ⟨hc, h15⟩ := hn
  · exact h
  · simp only [intervalSound, hc] at h ⊢
    simp only [Bool.and_eq_true, decide_eq_true_eq] at h ⊢
    obtain ⟨⟨⟨⟨⟨⟨⟨⟨-, h1⟩, h2⟩, h3⟩, h4⟩, h5⟩, h6⟩, h7⟩, h8⟩ := h
    exact ⟨⟨⟨⟨⟨⟨⟨⟨h15, h1⟩, h2⟩, h3⟩, h4⟩, h5⟩, h6⟩, h7⟩, h8⟩

theorem act_aggregatorSettings {n k : Nat} {m : BitVec 8} {e : Bool} {l : List Nat}
    (hset : SettingsMove c u (withSettings { settingsOf u with length := n, kept := k, mask := m, exclude := e, limits := l } u))
    (hn : n = u.agg.length ∨ (u.agg.current = none ∧ 15 ≤ n)) :
    Act c s₀ a u (withSettings { settingsOf u with length := n, kept := k, mask := m, exclude := e, limits := l } u) := by
  have e : withSettings { settingsOf u with length := n, kept := k, mask := m, exclude := e, limits := l } u =
      { u with agg := { u.agg with length := n, kept := k, mask := m, exclude := e, limits := l } } := by simp [withSettings, settingsOf]
  rw [e] at hset ⊢
  exact .agg hset (.inr (intervalSound_settings hn)) id .inl

theorem act_lineSettings {b n : Nat} {e : Bool}
    (hset : SettingsMove c u (withSettings { settingsOf u with baud := b, evenParity := e, stallTimeout := n } u)) :
    Act c s₀ a u (withSettings { settingsOf u with baud := b, evenParity := e, stallTimeout := n } u) := by
  have e : withSettings { settingsOf u with baud := b, evenParity := e, stallTimeout := n } u =
      { u with line := { u.line with
        baud := b, evenParity := e, stallTimeout := n, parityChanged := u.line.parityChanged || e != u.line.evenParity } } := by
    simp [withSettings, settingsOf]
  rw [e] at hset ⊢
  exact .line hset id

theorem act_linkSettings {w x y : Word} (hset : SettingsMove c u (withSettings { settingsOf u with syncA := w, syncB := x, syncF := y } u)) :
    Act c s₀ a u (withSettings { settingsOf u with syncA := w, syncB := x, syncF := y } u) := by
  have e : withSettings { settingsOf u with syncA := w, syncB := x, syncF := y } u =
      { u with link := { u.link with syncA := w, syncB := x, syncF := y } } := by simp [withSettings, settingsOf]
  rw [e] at hset ⊢
  exact .link (g := u.gen) (f := u.flight) hset id id .inl rfl

theorem act_policySetting {x : Policy} (hc : ∃ p, c = .setJournalPolicy p) :
    Act c s₀ false u (withSettings { settingsOf u with policy := x } u) := by
  have e : withSettings { settingsOf u with policy := x } u = u.setJournal { u.journal with policy := x } := by
    simp [withSettings, settingsOf, State.setJournal]
  rw [e]
  exact .policy hc

theorem act_edgesSetting {l : List Nat} {h : HalfCycleUnit} (hset : SettingsMove c u (u.setHcu h)) (hl : sameWindow { u.hcu with edges := l } h) :
    Act c s₀ a u (u.setHcu h) :=
  .flow (f := u.flight) hset (fun hs => hl.sound hs) (fun ⟨h1, hrest⟩ => ⟨by rw [show (_ : List WinSample) = _ from hl.1]; exact h1, hrest⟩)
    (within_refl _)

theorem sameWindow_changeEdges (inSurvey : Bool) (l : List Nat) (h : HalfCycleUnit) :
    sameWindow { h with edges := l } (changeEdges inSurvey l h) := by
  unfold changeEdges
  split <;> exact ⟨rfl, rfl, rfl, rfl, rfl⟩

/-! ### The change an owner makes (R12, R45, R75, R116, R136) -/

theorem acts_splitChange {g : Settings → Settings} {changed : Bool} (live : u.agg.current ≠ none → StopSound s₀ → s₀.survey.state ≠ .idle)
    (hstore : ∀ w, settingsOf w = settingsOf u → (w.agg.current = none ∨ changed = false ∧ w = u) →
      Act c s₀ true w (withSettings (g (settingsOf w)) w)) :
    Acts c s₀ true u (withSettings (g (settingsOf u)) (if changed then closeCurrent .split u else u)) := by
  cases changed with
  | false => exact Act.acts (hstore u rfl (.inr ⟨rfl, rfl⟩))
  | true =>
    have h := hstore (closeCurrent .split u) (settingsOf_closeCurrent _ _) (.inl (closeCurrent_current _ _))
    rw [settingsOf_closeCurrent] at h
    exact .tail (acts_closeCurrent .split live) h

theorem acts_syncChange {w : Word → Settings} {k : Word} {changed : Bool} (hsur : u.survey.state = s₀.survey.state)
    (hstore : Act c s₀ true u (withSettings (w k) u)) :
    Acts c s₀ true u (if changed then syncChanged (withSettings (w k) u) else withSettings (w k) u) := by
  split
  · exact .head hstore (acts_syncChanged hsur)
  · exact Act.acts hstore

/-- The owner's change is a run of the SET that makes it. -/
theorem run_ownerEffect {changed : Bool} (h : accepts i v (settingsOf u) = some (x, y)) (hch : changed = false → x.length = u.agg.length)
    (hsur : u.survey.state = s₀.survey.state) (live : u.agg.current ≠ none → StopSound s₀ → s₀.survey.state ≠ .idle) :
    Run (setCommand i p) s₀ u (ownerEffect i changed x u) := by
  have hset : SettingsMove (setCommand i p) u (withSettings x u) := .inr ⟨⟨i, p, rfl⟩, settingsSound_accepts h⟩
  cases i with
  | probe => simp [accepts] at h
  | journalPolicy => obtain rfl | rfl := namedOf_some h <;> exact Act.run (act_policySetting ⟨p, rfl⟩)
  | flagPolicy => obtain rfl | rfl := namedOf_some h <;> exact Act.run (a := true) (act_aggregatorSettings hset (.inl rfl))
  | parity => obtain rfl | rfl := namedOf_some h <;> exact Act.run (a := true) (act_lineSettings hset)
  | supply =>
    refine Act.run (a := true) (.kit (.inr ⟨⟨.supply, p, rfl⟩, fun hs => ?_⟩) (fun hs => supplySound_settleSupply hs.2) id)
    exact settingsSound_accepts (by obtain rfl | rfl := namedOf_some h <;> exact h) hs
  | syncA => obtain ⟨-, -, -, rfl⟩ := syncAccepted_some h; exact (acts_syncChange (w := fun k => { settingsOf u with syncA := k }) hsur (act_linkSettings hset)).run
  | syncB => obtain ⟨-, -, -, rfl⟩ := syncAccepted_some h; exact (acts_syncChange (w := fun k => { settingsOf u with syncB := k }) hsur (act_linkSettings hset)).run
  | syncF => obtain ⟨-, -, -, rfl⟩ := syncAccepted_some h; exact (acts_syncChange (w := fun k => { settingsOf u with syncF := k }) hsur (act_linkSettings hset)).run
  | bandEdges =>
    obtain ⟨-, rfl⟩ := some_of_ite h
    have e : ownerEffect .bandEdges changed { settingsOf u with edges := v.map BitVec.toNat } u =
        u.setHcu (changeEdges u.inSurvey (v.map BitVec.toNat) u.hcu) := by
      simp [ownerEffect, withSettings, settingsOf, State.setHcu]
    have hl := sameWindow_changeEdges u.inSurvey (v.map BitVec.toNat) u.hcu
    rw [e]
    refine Act.run (a := true) (act_edgesSetting (l := v.map BitVec.toNat) (.inr ⟨⟨.bandEdges, p, rfl⟩, fun hs => ?_⟩) hl)
    have hx := settingsSound_accepts h hs
    rwa [show settingsOf (u.setHcu (changeEdges u.inSurvey (v.map BitVec.toNat) u.hcu)) =
      { settingsOf u with edges := v.map BitVec.toNat } by simp [settingsOf, State.setHcu, hl.2.2.2.2]]
  | dipThreshold => simp only [accepts] at h; obtain ⟨n, -, -, -, rfl⟩ := clamped_some (by decide) h; exact Act.run (a := true) (act_detectorSettings hset)
  | intrThreshold => simp only [accepts] at h; obtain ⟨n, -, -, -, rfl⟩ := clamped_some (by decide) h; exact Act.run (a := true) (act_detectorSettings hset)
  | swellThreshold => simp only [accepts] at h; obtain ⟨n, -, -, -, rfl⟩ := clamped_some (by decide) h; exact Act.run (a := true) (act_detectorSettings hset)
  | hysteresis => simp only [accepts] at h; obtain ⟨n, -, -, -, rfl⟩ := clamped_some (by decide) h; exact Act.run (a := true) (act_detectorSettings hset)
  | holdOff => simp only [accepts] at h; obtain ⟨n, -, -, -, rfl⟩ := clamped_some (by decide) h; exact Act.run (a := true) (act_detectorSettings hset)
  | preCycles => simp only [accepts] at h; obtain ⟨n, -, -, -, rfl⟩ := clamped_some (by decide) h; exact Act.run (a := true) (act_captureSettings hset)
  | postCycles => simp only [accepts] at h; obtain ⟨n, -, -, -, rfl⟩ := clamped_some (by decide) h; exact Act.run (a := true) (act_captureSettings hset)
  | intervalLength =>
    have h' := h
    simp only [accepts] at h
    obtain ⟨n, hlo, -, -, rfl⟩ := clamped_some (by decide) h
    refine Acts.run (acts_splitChange (g := fun y => { y with length := n }) live fun w hw hidle => act_aggregatorSettings ?_ ?_)
    · exact .inr ⟨⟨.intervalLength, p, rfl⟩, fun hs => by rw [hw] at hs ⊢; exact settingsSound_accepts h' hs⟩
    · exact hidle.symm.imp (fun hu => by rw [hu.2]; exact hch hu.1) fun hc => ⟨hc, hlo⟩
  | keptOrders =>
    have h' := h
    simp only [accepts] at h
    obtain ⟨n, -, -, -, rfl⟩ := clamped_some (by decide) h
    refine Acts.run (acts_splitChange (g := fun y => { y with kept := n }) live fun w hw _ => act_aggregatorSettings ?_ (.inl rfl))
    exact .inr ⟨⟨.keptOrders, p, rfl⟩, fun hs => by rw [hw] at hs ⊢; exact settingsSound_accepts h' hs⟩
  | recordMask =>
    obtain ⟨-, rfl⟩ := some_of_ite h
    refine Acts.run (acts_splitChange (g := fun y => { y with mask := (v.getD 0 0).setWidth 8 }) live fun w hw _ =>
      act_aggregatorSettings ?_ (.inl rfl))
    exact .inr ⟨⟨.recordMask, p, rfl⟩, fun hs => by rw [hw] at hs ⊢; exact settingsSound_accepts h hs⟩
  | limit =>
    obtain ⟨-, rfl⟩ := some_of_ite h
    refine Acts.run (acts_splitChange
      (g := fun y => { y with limits := y.limits.set ((v.getD 0 0).toNat - 2) (min 1000 (v.getD 1 0).toNat) }) live fun w hw _ =>
        act_aggregatorSettings ?_ (.inl rfl))
    exact .inr ⟨⟨.limit, p, rfl⟩, fun hs => by rw [hw] at hs ⊢; exact settingsSound_accepts h hs⟩
  | baud => obtain ⟨-, rfl⟩ := some_of_ite h; exact Act.run (a := true) (act_lineSettings hset)
  | stallTimeout => simp only [accepts] at h; obtain ⟨n, -, -, -, rfl⟩ := clamped_some (by decide) h; exact Act.run (a := true) (act_lineSettings hset)

/-! ### SET and PROBE_SET (R12, R13, R130) -/

/-- A change with its SETTING record in a survey, or alone in IDLE. -/
theorem answered_applyChange {k : RequestKind} {change : Option SetChange} (hsur : s.survey.state = s₀.survey.state)
    (h : ∀ ch u, change = some ch → BesideAppend s u → Run c s₀ u (ch.effect u)) :
    Answered c s₀ p k s (applyChange p k i change s) := by
  unfold applyChange
  split
  · exact answered_refused _ _ _ _ _ _ _
  · split
    · exact answered_refused _ _ _ _ _ _ _
    · rename_i ch
      split
      · rename_i hin
        split
        · exact answered_refused _ _ _ _ _ _ _
        · rename_i u hu
          have happ := appends_portAppend hu
          have live : StopSound s₀ → s₀.survey.state ≠ .idle := fun _ => by
            rw [← hsur]; simpa [State.inSurvey] using hin
          exact Run.answered (((Act.journal live happ).acts.thenRun (h ch u rfl happ.beside)).then (acts_checkLimit _))
      · exact Run.answered (h ch s rfl (.refl s))

theorem takeSetOf_cases (p : Port) (i : Item) (o : Owner) (s : State) : takeSetOf p i o s = s ∨
    (∃ body, waits p .set body s ∧ (body = [] ∨ namedItem body = none) ∧ takeSetOf p i o s = answered p .set .badRequest [] s) ∨
    ∃ w v, waits p .set (w :: v) s ∧ namedItem (w :: v) = some i ∧ takeSetOf p i o s =
      match o v (withdrawn p s) with
      | none => answered p .set .badRequest [] s
      | some change => applyChange p .set i change (withdrawn p s) := by
  unfold takeSetOf
  split
  · rename_i r hr
    split
    · rename_i hc
      obtain ⟨hkind, hitem⟩ := hc
      have hw : waits p .set r.body s := by rw [waits, hr, ← hkind]
      rw [takeRequest_of_waits _ hw]
      cases hn : namedItem r.body with
      | none =>
        dsimp only
        rw [respond_withdrawn]
        exact .inr (.inl ⟨r.body, hw, .inr hn, rfl⟩)
      | some j =>
        obtain rfl : j = i := by simpa [hn] using hitem
        cases hb : r.body with
        | nil => simp [hb, namedItem] at hn
        | cons w v =>
          rw [hb] at hw hn
          refine .inr (.inr ⟨w, v, hw, hn, ?_⟩)
          simp only [List.drop_succ_cons, List.drop_zero]
          split <;> simp only [*, respond_withdrawn]
    · exact .inl rfl
  · exact .inl rfl

theorem beside_live (hb : BesideAppend (withdrawn p s) u) : u.agg.current ≠ none → StopSound s → s.survey.state ≠ .idle := fun hc => by
  rw [hb.agg, withdrawn_agg] at hc
  exact live_of_interval hc

theorem setCommand_ne_requestFrame (i : Item) (p : Port) : ∀ q words select, setCommand i p ≠ .requestFrame q words select := by
  cases i <;> simp [setCommand]

theorem Answered.run {k : RequestKind} (hc : ∀ q words select, c ≠ .requestFrame q words select)
    (h : Answered c s₀ p k (withdrawn p s) t) : Run c s₀ s t := by
  obtain ⟨code, answer, u, hu, rfl⟩ := h
  exact Run.then (Acts.thenRun (act_withdrawn p s).acts hu) (Act.acts (.port (portMove_respond (hu.none_waiting hc) (by simp))))

/-- The command that takes a SET, or a PROBE_SET, is a run when each owner's change is one. -/
theorem run_set (hi : i ≠ .probe) (h : exec (setCommand i p) s = .next t) : Run (setCommand i p) s s t := by
  have hc := setCommand_ne_requestFrame i p
  rw [exec_setCommand hi, Host.Outcome.next.injEq] at h
  subst h
  obtain e | ⟨body, -, -, e⟩ | ⟨w, v, -, -, e⟩ := takeSetOf_cases p i (ownerOf i) s
  · rw [e]; exact .refl s
  · rw [e, ← respond_withdrawn]
    exact (answered_refused _ _ _ _ _ _ _).run hc
  · rw [e]
    by_cases hv : v.length = valueLength i
    · obtain ⟨-, ho⟩ | ⟨x, y, ch, hacc, ho, hch⟩ := ownerOf_answers (s := withdrawn p s) hi hv
      all_goals
        rw [ho]
        refine Answered.run hc (answered_applyChange (by rw [withdrawn_survey]) fun ch' u hch' hb => ?_)
      · simp at hch'
      · obtain rfl : ch = ch' := by simpa using hch'
        obtain ⟨changed, heff, hlen, -⟩ := hch.effect u hb.settings
        rw [heff]
        refine run_ownerEffect (v := v) (y := y) (by rw [hb.settings]; exact hacc) hlen ?_ (beside_live hb)
        rw [hb.surveyState, withdrawn_survey]
    · rw [ownerOf_of_length hv]
      dsimp only
      rw [← respond_withdrawn]
      exact (answered_refused _ _ _ _ _ _ _).run hc

/-- A PROBE_SET's entry is one its channel may have (R129, R130). -/
theorem checkEntry_sound {q : ProbeValues} {e : ProbeEntry} {b : Bool} (hq : q.calDue ≤ 65535) (h : checkEntry q = some (e, b)) :
    q.channel < 8 ∧ entrySound q.channel e = true := by
  unfold checkEntry at h
  split at h
  · split at h
    · rename_i kind _ hok
      obtain ⟨hlt, hkind⟩ := hok
      refine ⟨hlt, ?_⟩
      split at h
      · rename_i hlead
        obtain ⟨rfl, -⟩ := by simpa using h
        subst hlead
        have h1 := le_clampTo 1000 32767 q.level
        have h2 := clampTo_le (lo := 1000) (hi := 32767) (v := q.level) (by decide)
        simp [entrySound, hkind, hq, h1, h2]
      · obtain ⟨rfl, -⟩ := by simpa using h
        simp_all [entrySound]
    · simp at h
  · simp at h

theorem readProbeSet_calDue {body : List Word} {q : ProbeValues} (h : readProbeSet body = some q) : q.calDue ≤ 65535 := by
  have hword : ∀ w : Word, w.toNat ≤ 65535 := fun w => by have := w.isLt; omega
  unfold readProbeSet at h
  split at h
  · obtain rfl := by simpa using h
    exact hword _
  · obtain rfl := by simpa using h
    exact hword _
  · simp at h

theorem run_probeSet (h : exec (.probeSet p) s = .next t) : Run (.probeSet p) s s t := by
  simp only [exec, execProbeSet, Host.Outcome.next.injEq] at h
  subst h
  refine run_takeRequest (by simp) fun body _ => ?_
  split
  · exact answered_refused _ _ _ _ _ _ _
  · rename_i q hq
    refine answered_applyChange (by rw [withdrawn_survey]) fun ch u hch hb => ?_
    simp only [probeChange, Option.map_eq_some_iff] at hch
    obtain ⟨⟨e, b⟩, he, rfl⟩ := hch
    obtain ⟨hlt, hsound⟩ := checkEntry_sound (readProbeSet_calDue hq) he
    refine (acts_changeEntry (i := ⟨q.channel, hlt⟩) rfl hsound ?_).run
    rw [hb.surveyState, withdrawn_survey]

end Sys2Proof.Machine

/-! What a reclaim leaves, and the commands of the Note Assembler as runs (R22, R142 to R151). -/

namespace Sys2Proof.Machine

open Sys2Proof

variable {c : Instr} {s₀ s t u : State} {p : Port} {a : Bool}

/-! ### Reclaims (R22, R23) -/

/-- The journal with its n oldest records reclaimed. -/
def reclaimed (n : Nat) (j : JournalUnit) : JournalUnit :=
  { j with
    records := j.records.drop n, tailSeq := j.tailSeq + n
    tailSlot := (j.tailSlot + usedSlots (j.records.take n)) % 8192, free := j.free + usedSlots (j.records.take n) }

/-- A plan carried out: its n oldest records, each below the hold point, are reclaimed, and the cursors pushed. -/
theorem applyPlan_of_planHere {k free : Nat} {left : List Record} (h : planHere k s = some (left, free)) :
    ∃ n ≤ s.journal.records.length, (s.journal.records.take n).all (reclaimable (holdPoint s)) = true ∧
      k ≤ (reclaimed n s.journal).free ∧
      applyPlan left free s = (s.setJournal (reclaimed n s.journal)).bothPorts (pushCursor (s.journal.tailSeq + n)) := by
  obtain ⟨n, hn, rfl, rfl, hk, -, hall⟩ := planReclaim_some h
  refine ⟨n, hn, hall, hk, ?_⟩
  simp only [applyPlan, List.length_drop, Nat.sub_sub_self hn, Nat.add_sub_cancel_left]
  rfl

theorem journal_yieldUntil {k : Nat} {l : List Nat} (h : yieldUntil k l s = some t) :
    ∃ n ≤ s.journal.records.length, t.journal = reclaimed n s.journal ∧ k ≤ t.journal.free := by
  induction l generalizing s with
  | nil =>
    simp only [yieldUntil, Option.map_eq_some_iff] at h
    obtain ⟨⟨left, free⟩, hplan, rfl⟩ := h
    obtain ⟨n, hn, -, hk, e⟩ := applyPlan_of_planHere hplan
    exact ⟨n, hn, by rw [e]; rfl, by rw [e]; exact hk⟩
  | cons m more ih =>
    simp only [yieldUntil] at h
    split at h
    · rename_i left free hplan
      obtain rfl := by simpa using h
      obtain ⟨n, hn, -, hk, e⟩ := applyPlan_of_planHere hplan
      exact ⟨n, hn, by rw [e]; rfl, by rw [e]; exact hk⟩
    · have := ih h
      rwa [journal_yieldJob] at this

/-- Making room reclaims the oldest records, and changes nothing else of the journal. -/
theorem journal_makeRoom {k : Nat} (h : makeRoom k s = some t) :
    ∃ n ≤ s.journal.records.length, t.journal = reclaimed n s.journal ∧ k ≤ t.journal.free := by
  unfold makeRoom at h
  split at h
  · rename_i left free hplan
    obtain rfl := by simpa using h
    obtain ⟨n, hn, -, hk, e⟩ := applyPlan_of_planHere hplan
    exact ⟨n, hn, by rw [e]; rfl, by rw [e]; exact hk⟩
  · split at h
    · exact journal_yieldUntil h
    · simp at h

@[simp] theorem checkLow_records (s : State) : (checkLow s).journal.records = s.journal.records := by
  unfold checkLow
  split
  · split <;> rfl
  · rfl

/-- A port's append leaves the newest of the stored records, and its own after them. -/
theorem records_portAppend {b : Body} (h : portAppend p b s = some t) :
    ∃ n o, t.journal.records = s.journal.records.drop n ++ [newRecord b false (originOf p) o] := by
  simp only [portAppend, Option.map_eq_some_iff] at h
  obtain ⟨u, hroom, rfl⟩ := h
  obtain ⟨n, -, hj, -⟩ := journal_makeRoom hroom
  refine ⟨n, u, ?_⟩
  rw [checkLow_records]
  show u.journal.records ++ _ = _
  rw [hj]
  rfl

/-! ### Figures of a note (R143, R146) -/

theorem noteDataSound_beginNote {v : BeginValues} {k : Category} {n : Nat} (hc : v.cites.length ≤ 4) :
    noteDataSound (beginNote v k n) = true := by
  have h1 := le_clampTo 1 8 v.parts
  have h2 := clampTo_le (lo := 1) (hi := 8) (v := v.parts) (by decide)
  have h0 : 0 < clampTo 1 8 v.parts := h1
  simp [noteDataSound, beginNote, h0, h1, h2, hc]

theorem noteDataSound_addText {i : Nat} {text : List Byte} {d : NoteData} (hi : i = d.lastPart + 1) (hlt : i < d.parts)
    (htext : text.length ≤ 64) (h : noteDataSound d = true) : noteDataSound (addText i text d) = true := by
  simp only [noteDataSound, Bool.and_eq_true, decide_eq_true_eq, beq_iff_eq] at h ⊢
  obtain ⟨⟨⟨⟨⟨⟨⟨h1, h2⟩, h3⟩, h4⟩, h5⟩, h6⟩, h7⟩, h8⟩ := h
  have hlen : ((d.text ++ text).take 480).length = min 480 (d.received + text.length) := by
    rw [List.length_take, List.length_append]; omega
  refine ⟨⟨⟨⟨⟨⟨⟨h1, h2⟩, h3⟩, h4⟩, hlt⟩, ?_⟩, hlen⟩, ?_⟩
  · show d.received + text.length ≤ 64 * i
    omega
  · show (d.truncated || decide (480 < d.text.length + text.length)) = decide (480 < d.received + text.length)
    rw [h8, Bool.eq_iff_iff, Bool.or_eq_true, decide_eq_true_iff, decide_eq_true_iff, decide_eq_true_iff]
    omega

theorem length_readAll32 (l : List Word) : (readAll32 l).length = l.length / 2 := by
  induction l using readAll32.induct with
  | case1 h l rest ih => simp only [readAll32, List.length_cons, ih]; omega
  | case2 l hl =>
    match l, hl with
    | [], _ => rfl
    | [_], _ => simp [readAll32]
    | a :: b :: rest, hl => exact absurd rfl (hl a b rest)

/-- A body that gives n citations gives n numbers. -/
theorem length_cites_readBegin {body : List Word} {v : BeginValues} (h : readBegin body = some v) : v.cites.length = v.citeCount := by
  unfold readBegin at h
  split at h
  · split at h
    · split at h
      · rename_i rest2 _
        simp only [Option.map_eq_some_iff] at h
        obtain ⟨⟨n, cites, parts⟩, hr, rfl⟩ := h
        unfold readCites at hr
        split at hr
        · split at hr
          · rename_i hlen
            obtain ⟨rfl, rfl, rfl⟩ := by simpa using hr
            dsimp only
            rw [length_readAll32, List.length_take, hlen]
            omega
          · simp at hr
        · simp at hr
      · simp at h
    · simp at h
  · simp at h

/-! ### Commands -/

theorem act_emptied (p : Port) (s : State) : Act c s₀ a s (s.setNote p .empty) := .note fun _ => rfl

theorem setNote_setNote (p : Port) (x y : NoteCtx) (s : State) : (s.setNote p x).setNote p y = s.setNote p y := by cases p <;> rfl

theorem run_noteBegin (h : exec (.noteBegin p) s = .next t) : Run (.noteBegin p) s₀ s t := by
  simp only [exec, execNoteBegin, Host.Outcome.next.injEq] at h
  subst h
  refine run_takeRequest (by simp) fun body _ => ?_
  have hempty : Acts (.noteBegin p) s₀ true (withdrawn p s) ((withdrawn p s).setNote p .empty) := (act_emptied p _).acts
  split
  · exact hempty.answered
  · rename_i v hv
    split
    · exact hempty.answered
    · split
      · exact hempty.answered
      · split
        · exact hempty.answered
        · rename_i hcites
          rw [setNote_setNote]
          refine Acts.answered (a := true) (Act.acts (.note fun _ => noteDataSound_beginNote ?_))
          rw [length_cites_readBegin hv]
          omega

theorem noteRefusal_none {d : NoteData} (h : noteRefusal d s = none) :
    s.inSurvey = true ∧ ∀ n, d.supersedes = some n → targetIsNote s n = true := by
  unfold noteRefusal at h
  dsimp only at h
  split at h
  · simp at h
  · rename_i hin
    refine ⟨by simpa using hin, fun n hn => ?_⟩
    split at h
    · simp at h
    · split at h
      · simp at h
      · split at h
        · simp at h
        · rw [hn] at h
          dsimp only at h
          split at h
          · simp at h
          · split at h
            · simp at h
            · simpa using ‹¬(!targetIsNote s n) = true›

/-- Numbers of stored records are their own. -/
theorem eq_of_seq_eq {j : JournalUnit} (hj : JournalSound j) {r r' : Record} (hr : r ∈ j.records) (hr' : r' ∈ j.records)
    (h : r.seq = r'.seq) : r = r' := by
  have hnodup : (j.records.map Record.seq).Nodup := by rw [hj.2.2.1]; exact List.nodup_range'
  exact List.inj_on_of_nodup_map hnodup hr hr' h

theorem kind_of_targetIsNote {n : Nat} (hj : JournalSound s.journal) (h : targetIsNote s n = true) {r : Record}
    (hr : r ∈ s.journal.records) (hn : r.seq = n) : r.kind = .note := by
  unfold targetIsNote findRecord at h
  split at h
  · rename_i r' hf
    have hr' := List.mem_of_find?_eq_some hf
    have hs' : r'.seq = n := by simpa using List.find?_some hf
    rw [eq_of_seq_eq hj hr hr' (hn.trans hs'.symm)]
    simpa using h
  · simp at h

/-- The completed note's append, with its target superseded and its context DONE (R147 to R149). -/
theorem acts_appendNote {d : NoteData} (hs : s.journal = s₀.journal) (hsur : s.survey.state = s₀.survey.state)
    (hr : noteRefusal d s = none) (h : appendNote p d s = some t) : Acts (.notePart p) s₀ true s t := by
  simp only [appendNote, Option.map_eq_some_iff] at h
  obtain ⟨u, hu, rfl⟩ := h
  obtain ⟨hin, htarget⟩ := noteRefusal_none hr
  obtain ⟨m, o, hrec⟩ := records_portAppend hu
  have live : StopSound s₀ → s₀.survey.state ≠ .idle := fun _ => by rw [← hsur]; exact (inSurvey_iff s).1 hin
  have happ : Acts (.notePart p) s₀ true s u := Act.acts (.journal live (appends_portAppend hu))
  have hsup : Acts (.notePart p) s₀ true u (match d.supersedes with | some n => supersede n u | none => u) := by
    split
    · rename_i n hn
      refine Act.acts (.supersede ⟨p, rfl⟩ fun hj r hmem hseq => ?_)
      rw [hrec, List.mem_append, List.mem_singleton] at hmem
      obtain hmem | rfl := hmem
      · exact kind_of_targetIsNote (hs ▸ hj) (htarget n hn) (List.mem_of_mem_drop hmem) hseq
      · rfl
    · exact .refl
  refine .trans (.tail (happ.trans hsup) ?_) (acts_checkLimit _)
  exact .note fun _ => rfl

theorem answered_completeNote {d : NoteData} (hs : s.journal = s₀.journal) (hsur : s.survey.state = s₀.survey.state) :
    Answered (.notePart p) s₀ p .notePart s (completeNote p d s) := by
  have hempty : Acts (.notePart p) s₀ true s (s.setNote p .empty) := (act_emptied p s).acts
  unfold completeNote
  dsimp only
  split
  · exact hempty.answered
  · split
    · exact hempty.answered
    · exact Acts.answered (acts_appendNote hs hsur ‹_› ‹_›)

theorem readPart_length {body : List Word} {i : Nat} {text : List Byte} (h : readPart body = some (i, text)) : text.length ≤ 64 := by
  unfold readPart at h
  split at h
  · split at h
    · split at h
      · rename_i hlen
        obtain ⟨-, rfl⟩ := by simpa using h
        exact hlen
      · simp at h
    · simp at h
  · simp at h

theorem answered_assemblePart {i : Nat} {text : List Byte} {d : NoteData} (hd : s.note p = .assembling d) (htext : text.length ≤ 64)
    (hs : s.journal = s₀.journal) (hsur : s.survey.state = s₀.survey.state) :
    Answered (.notePart p) s₀ p .notePart s (assemblePart p i text d s) := by
  unfold assemblePart
  dsimp only
  split
  · rename_i hi
    split
    · exact answered_completeNote hs hsur
    · rename_i hne
      refine Acts.answered (a := true) (Act.acts (.note fun h => ?_))
      rw [hd] at h
      exact noteDataSound_addText hi.1 (lt_of_le_of_ne hi.2 hne) htext h
  · split
    · exact answered_refused _ _ _ _ _ _ _
    · exact Acts.answered (a := true) (act_emptied p s).acts

theorem run_notePart (h : exec (.notePart p) s = .next t) : Run (.notePart p) s s t := by
  simp only [exec, execNotePart, Host.Outcome.next.injEq] at h
  subst h
  refine run_takeRequest (by simp) fun body _ => ?_
  split
  · exact answered_refused _ _ _ _ _ _ _
  · rename_i i text hpart
    split
    · exact answered_refused _ _ _ _ _ _ _
    · exact answered_assemblePart ‹_› (readPart_length hpart) (withdrawn_journal p s) (by rw [withdrawn_survey])
    · split
      · exact answered_refused _ _ _ _ _ _ _
      · exact Acts.answered (a := true) (act_emptied p _).acts

end Sys2Proof.Machine

/-! What the Report Composer does to the print queue: no job joins it but by PRINT_SUBMIT, and no hold moves back (R154 to R160, R171
to R176). -/

namespace Sys2Proof.Machine

open Sys2Proof

variable {s t : State} {k k' : ComposerUnit} {j j' : Job} {rest : List Job}

/-! ### Moves of the queue -/

/-- The queue stays sound, no job joins it, and a hold that is kept has not moved back. -/
structure QueueMove (k k' : ComposerUnit) : Prop where
  empty : k.queue = [] → k'.queue = []
  sound : QueueSound k → QueueSound k'
  holds : QueueSound k → ∀ j' ∈ k'.queue, j'.hold.isSome = true →
    ∃ j ∈ k.queue, j.hold.isSome = true ∧ j.hold.getD 0 ≤ j'.hold.getD 0 ∧ j'.last = j.last

theorem QueueMove.refl (k : ComposerUnit) : QueueMove k k := ⟨id, id, fun _ j' hj' h => ⟨j', hj', h, le_rfl, rfl⟩⟩

theorem QueueMove.trans {k'' : ComposerUnit} (h : QueueMove k k') (g : QueueMove k' k'') : QueueMove k k'' where
  empty hk := g.empty (h.empty hk)
  sound hk := g.sound (h.sound hk)
  holds hk j'' hj'' hs := by
    obtain ⟨j', hj', hs', hle', hl'⟩ := g.holds (h.sound hk) j'' hj'' hs
    obtain ⟨j, hj, hs, hle, hl⟩ := h.holds hk j' hj' hs'
    exact ⟨j, hj, hs, hle.trans hle', hl'.trans hl⟩

/-- The figures beside the queue change alone. -/
theorem queueMove_of_queue (hq : k'.queue = k.queue) (he : k'.endList = k.endList) (hl : k'.lastJob = k.lastJob) : QueueMove k k' where
  empty h := hq.trans h
  sound h := by rwa [QueueSound, hq, he, hl]
  holds _ j' hj' h := ⟨j', hq ▸ hj', h, le_rfl, rfl⟩

/-- A hold that is kept has not moved back. -/
def holdForward (x y : Option Nat) : Prop := ∀ h', y = some h' → ∃ h, x = some h ∧ h ≤ h'

theorem holdForward_refl (x : Option Nat) : holdForward x x := fun h' e => ⟨h', e, le_rfl⟩

theorem holdForward.trans {x y z : Option Nat} (h : holdForward x y) (g : holdForward y z) : holdForward x z := fun n e => by
  obtain ⟨m, hm, hle⟩ := g n e
  obtain ⟨l, hl, hle'⟩ := h m hm
  exact ⟨l, hl, hle'.trans hle⟩

/-- The head job's own figures stay sound, under a condition on it. -/
structure JobStep (C : Prop) (j j' : Job) : Prop where
  number : j'.number = j.number
  first : j'.first = j.first
  last : j'.last = j.last
  sound : jobSound j = true → headSound j = true → C → jobSound j' = true ∧ headSound j' = true ∧ holdForward j.hold j'.hold

theorem JobStep.trans {C : Prop} {j'' : Job} (h : JobStep C j j') {C' : Prop} (g : JobStep C' j' j'')
    (hc : jobSound j = true → headSound j = true → C → C') : JobStep C j j'' where
  number := g.number.trans h.number
  first := g.first.trans h.first
  last := g.last.trans h.last
  sound hj hh c := by
    obtain ⟨hj', hh', hf⟩ := h.sound hj hh c
    obtain ⟨hj'', hh'', hf'⟩ := g.sound hj' hh' (hc hj hh c)
    exact ⟨hj'', hh'', hf.trans hf'⟩

/-- A step of the head job alone. -/
theorem queueMove_head (hk : k.queue = j :: rest) (hk' : k'.queue = j' :: rest) (he : k'.endList = k.endList)
    (hl : k'.lastJob = k.lastJob) (h : JobStep True j j') : QueueMove k k' := by
  have hsound : QueueSound k → jobSound j = true ∧ headSound j = true := fun ⟨_, _, _, _, h5, h6, _⟩ => by
    rw [hk] at h5 h6
    exact ⟨(List.all_eq_true.1 h5) j (by simp), by simpa using h6⟩
  refine ⟨fun h => by simp [hk] at h, fun hs => ?_, fun hs i hi hhold => ?_⟩
  · obtain ⟨hj', hh', -⟩ := h.sound (hsound hs).1 (hsound hs).2 trivial
    obtain ⟨h1, h2, h3, h4, h5, h6, h7⟩ := hs
    rw [hk] at h1 h4 h5 h7
    refine ⟨by rw [hk']; exact h1, by rw [he]; exact h2, by rw [hl]; exact h3, ?_, ?_, ?_, by rw [hk']; exact h7⟩
    · rw [hk', List.map_cons, h.number]; exact h4
    · rw [hk', List.all_cons, hj', Bool.true_and]
      rw [List.all_cons, Bool.and_eq_true] at h5
      exact h5.2
    · rw [hk']; simpa using hh'
  · obtain ⟨-, -, hf⟩ := h.sound (hsound hs).1 (hsound hs).2 trivial
    rw [hk', List.mem_cons] at hi
    rw [hk]
    obtain rfl | hi := hi
    · obtain ⟨n, hn⟩ := Option.isSome_iff_exists.1 hhold
      obtain ⟨m, hm, hle⟩ := hf n hn
      exact ⟨j, by simp, by simp [hm], by simpa [hm, hn] using hle, h.last⟩
    · exact ⟨i, by simp [hi], hhold, le_rfl, rfl⟩

/-- A change of the head job that leaves its span, its copies, its hold, its position and its closing. -/
theorem jobStep_kept (hn : j'.number = j.number) (hf : j'.first = j.first) (hl : j'.last = j.last) (hc : j'.copies = j.copies)
    (hcur : j'.current = j.current) (hh : j'.hold = j.hold) (hp : j'.position = j.position) (hcl : j'.closing = j.closing)
    (hs : j'.state = j.state ∨ j'.state ≠ .queued) : JobStep True j j' where
  number := hn
  first := hf
  last := hl
  sound hj hd _ := by
    refine ⟨?_, ?_, by rw [hh]; exact holdForward_refl _⟩
    · simpa only [jobSound, holdInPlace, hn, hf, hl, hc, hcur, hh, hp] using hj
    · simp only [headSound, Bool.and_eq_true, bne_iff_ne] at hd ⊢
      rw [hh, hcl]
      exact ⟨hs.elim (fun e => by rw [e]; exact hd.1) id, hd.2⟩

theorem queueMove_modHead {f : Job → Job} (h : ∀ j, JobStep True j (f j)) (s : State) : QueueMove s.comp (modHead f s).comp := by
  unfold modHead
  split
  · rename_i j rest hq
    exact queueMove_head hq rfl rfl rfl (h j)
  · exact .refl _

theorem queueMove_setTodo (lines : List LineSpec) (s : State) : QueueMove s.comp (setTodo lines s).comp := queueMove_of_queue rfl rfl rfl

theorem queueMove_headState {st : JobState} (h : st ≠ .queued) (s : State) :
    QueueMove s.comp (modHead (fun j => { j with state := st }) s).comp :=
  queueMove_modHead (f := fun j => { j with state := st }) (fun _ => jobStep_kept rfl rfl rfl rfl rfl rfl rfl rfl (.inr h)) s

/-! ### Composing part by part (R160, R171) -/

/-- The composer changes its own unit alone. -/
def composes (s t : State) : Prop := t = { s with comp := t.comp }

theorem composes_refl (s : State) : composes s s := rfl
theorem composes.trans {u : State} (h : composes s t) (g : composes t u) : composes s u := by
  unfold composes at *
  rw [g, h]

theorem composes_setComp (k : ComposerUnit) (s : State) : composes s (s.setComp k) := rfl
theorem composes_modHead (f : Job → Job) (s : State) : composes s (modHead f s) := by unfold modHead; split <;> rfl

theorem composes_beginFooter (s : State) : composes s (beginFooter s) := by
  unfold beginFooter
  split
  · rfl
  · exact (composes_setComp _ s).trans (composes_modHead _ _)

theorem composes_beginHeader (s : State) : composes s (beginHeader s) := by
  unfold beginHeader
  split
  · rfl
  · exact (composes_setComp _ s).trans (composes_modHead _ _)

theorem composes_beginRecord (r : Record) (s : State) : composes s (beginRecord r s) := by
  unfold beginRecord
  split <;> rfl

theorem composes_advance (fuel n : Nat) (s : State) : composes s (advance fuel n s) := by
  induction fuel generalizing n s with
  | zero => exact composes_beginFooter s
  | succ fuel ih =>
    have hread : composes s (readRecord n s) := (composes_setComp _ s).trans (composes_modHead _ _)
    rw [advance]
    split
    · exact hread.trans ((composes_modHead _ _).trans (composes_beginRecord _ _))
    · exact hread.trans (ih _ _)

theorem composes_goTo (n : Nat) (s : State) : composes s (goTo n s) := by
  unfold goTo
  split
  · rfl
  · exact composes_advance _ _ _

theorem composes_restartPart (s : State) : composes s (restartPart s) := by
  unfold restartPart
  split
  · rfl
  · split
    · dsimp only
      split
      · split
        · exact (composes_setComp _ s).trans (composes_beginRecord _ _)
        · exact (composes_setComp _ s).trans (composes_goTo _ _)
      · rfl
    · exact composes_beginFooter s
    · exact composes_beginHeader s

theorem composes_beginPrinting (fresh : Bool) (s : State) : composes s (beginPrinting fresh s) := by
  unfold beginPrinting
  split
  · rfl
  · split
    · rfl
    · split
      · exact composes_beginHeader s
      · exact (composes_restartPart s).trans (composes_setComp _ _)

/-- The head job's hold stands below record n of its span. -/
def holdBelow (n : Nat) (j : Job) : Prop := ∀ h, j.hold = some h → h ≤ n ∧ j.first ≤ n

/-- The head job takes record n: its position is the record, and in the last copy its hold follows (R171). -/
def takesRecord (n : Nat) (j : Job) : Job :=
  { j with position := .record n, hold := if j.current = j.copies then j.hold.map fun _ => n else j.hold }

theorem jobStep_takesRecord {n : Nat} {j : Job} (hn : n ≤ j.last) : JobStep (holdBelow n j) j (takesRecord n j) where
  number := rfl
  first := rfl
  last := rfl
  sound hj hd hc := by
    cases hh : j.hold with
    | none =>
      have e : (takesRecord n j).hold = none := by unfold takesRecord; simp [hh]
      refine ⟨?_, ?_, fun h' he => by simp [e] at he⟩
      · simp only [jobSound, holdInPlace, e, hh] at hj ⊢; exact hj
      · simp only [headSound, e, hh] at hd ⊢; exact hd
    | some h =>
      obtain ⟨hle, hfirst⟩ := hc h hh
      simp only [jobSound, holdInPlace, hh, Bool.and_eq_true, decide_eq_true_eq, Bool.or_eq_true, beq_iff_eq] at hj
      obtain ⟨⟨⟨⟨⟨⟨h1, h2⟩, h3⟩, h4⟩, h5⟩, h6⟩, ⟨⟨h7, h8⟩, h9⟩, -⟩ := hj
      by_cases hcur : j.current = j.copies
      · have e : (takesRecord n j).hold = some n := by unfold takesRecord; simp [hh, hcur]
        refine ⟨?_, ?_, fun h' he => ⟨h, rfl, ?_⟩⟩
        · have hp : (takesRecord n j).position = .record n := rfl
          simp only [jobSound, holdInPlace, e, hp, Bool.and_eq_true, decide_eq_true_eq, Bool.or_eq_true, beq_iff_eq]
          exact ⟨⟨⟨⟨⟨⟨h1, h2⟩, h3⟩, h4⟩, h5⟩, h6⟩, ⟨⟨hfirst, hn⟩, .inl hcur.ge⟩, le_rfl, hn⟩
        · simp only [headSound, e, hh] at hd ⊢; exact hd
        · obtain rfl : n = h' := by simpa [e] using he
          exact hle
      · have e : (takesRecord n j).hold = some h := by unfold takesRecord; simp [hh, hcur]
        refine ⟨?_, ?_, by rw [e]; exact holdForward_refl _⟩
        · have hp : (takesRecord n j).position = .record n := rfl
          simp only [jobSound, holdInPlace, e, hp, Bool.and_eq_true, decide_eq_true_eq, Bool.or_eq_true, beq_iff_eq]
          exact ⟨⟨⟨⟨⟨⟨h1, h2⟩, h3⟩, h4⟩, h5⟩, h6⟩, ⟨⟨h7, h8⟩, h9⟩, hle, hn⟩
        · simp only [headSound, e, hh] at hd ⊢; exact hd

/-- After record n the next one is above the hold too. -/
theorem holdBelow_takesRecord {n : Nat} {j : Job} (h : holdBelow n j) : holdBelow (n + 1) (takesRecord n j) := by
  intro m hm
  have hj : ∃ m', j.hold = some m' ∧ (m = n ∨ m = m') := by
    simp only [takesRecord] at hm
    split at hm
    · simp only [Option.map_eq_some_iff] at hm
      obtain ⟨m', hm', rfl⟩ := hm
      exact ⟨m', hm', .inl rfl⟩
    · exact ⟨m, hm, .inr rfl⟩
  obtain ⟨m', hm', hor⟩ := hj
  obtain ⟨hle, hfirst⟩ := h m' hm'
  have hfirst' : (takesRecord n j).first ≤ n := hfirst
  omega

theorem jobStep_footer (j : Job) : JobStep True j { j with position := .footer } where
  number := rfl
  first := rfl
  last := rfl
  sound hj hd _ := by
    refine ⟨?_, hd, holdForward_refl _⟩
    simp only [jobSound, holdInPlace] at hj ⊢
    cases hh : j.hold with
    | none => simpa [hh] using hj
    | some h =>
      simp only [hh, Bool.and_eq_true] at hj ⊢
      obtain ⟨h1, h2, -⟩ := hj
      exact ⟨h1, h2, trivial⟩

/-- What `advance` does to the head job. -/
theorem advance_queue {fuel n : Nat} (hq : s.comp.queue = j :: rest) (hfuel : fuel ≤ j.last + 1 - n) :
    ∃ j', (advance fuel n s).comp.queue = j' :: rest ∧ (advance fuel n s).comp.endList = s.comp.endList ∧
      (advance fuel n s).comp.lastJob = s.comp.lastJob ∧ JobStep (holdBelow n j) j j' := by
  induction fuel generalizing n s j with
  | zero =>
    rw [advance]
    refine ⟨{ j with position := .footer }, ?_⟩
    simp only [beginFooter, headJob, hq, List.head?_cons, modHead, setTodo, State.setComp]
    exact ⟨trivial, trivial, trivial, ⟨rfl, rfl, rfl, fun hj hd _ => (jobStep_footer j).sound hj hd trivial⟩⟩
  | succ fuel ih =>
    have hlast : n ≤ j.last := by omega
    have hread : (readRecord n s).comp.queue = takesRecord n j :: rest := by
      simp only [readRecord, modHead, State.setComp, hq]
      rfl
    have hlists : (readRecord n s).comp.endList = s.comp.endList ∧ (readRecord n s).comp.lastJob = s.comp.lastJob := by
      simp only [readRecord, modHead, State.setComp, hq]
      exact ⟨trivial, trivial⟩
    rw [advance]
    split
    · refine ⟨{ takesRecord n j with printed := (takesRecord n j).printed + 1 }, ?_⟩
      simp only [beginRecord, headJob, countPrinted, modHead, hread, State.setComp, List.head?_cons, setTodo]
      exact ⟨trivial, hlists.1, hlists.2, (jobStep_takesRecord hlast).trans
        (jobStep_kept rfl rfl rfl rfl rfl rfl rfl rfl (.inl rfl)) fun _ _ _ => trivial⟩
    · obtain ⟨j', h1, h2, h3, h4⟩ := ih hread (n := n + 1) (by show fuel ≤ j.last + 1 - (n + 1); omega)
      exact ⟨j', h1, h2.trans hlists.1, h3.trans hlists.2,
        (jobStep_takesRecord hlast).trans h4 fun _ _ hc => holdBelow_takesRecord hc⟩

/-- Going on to a record above the hold. -/
theorem queueMove_goTo {n : Nat} (h : ∀ j, headJob s = some j → jobSound j = true → holdBelow n j) :
    QueueMove s.comp (goTo n s).comp := by
  unfold goTo
  split
  · exact .refl _
  · rename_i j hj
    cases hq : s.comp.queue with
    | nil => simp [headJob, hq] at hj
    | cons i rest =>
      obtain rfl : i = j := by simpa [headJob, hq] using hj
      obtain ⟨j', h1, h2, h3, h4⟩ := advance_queue (fuel := i.last + 1 - n) (n := n) hq le_rfl
      exact queueMove_head hq h1 h2 h3 ⟨h4.number, h4.first, h4.last, fun hs hd _ => h4.sound hs hd (h i hj hs)⟩

theorem queueMove_beginFooter (s : State) : QueueMove s.comp (beginFooter s).comp := by
  unfold beginFooter
  split
  · exact .refl _
  · exact (queueMove_setTodo _ s).trans (queueMove_modHead jobStep_footer _)

theorem queueMove_beginHeader (s : State) : QueueMove s.comp (beginHeader s).comp := by
  unfold beginHeader
  split
  · exact .refl _
  · exact (queueMove_setTodo _ s).trans (queueMove_modHead (f := fun j => { j with began := true })
      (fun _ => jobStep_kept rfl rfl rfl rfl rfl rfl rfl rfl (.inl rfl)) _)

end Sys2Proof.Machine

/-! Jobs that go on, leave or are closed: the print queue stays sound (R154, R159, R173 to R176, R189, R191). -/

namespace Sys2Proof.Machine

open Sys2Proof

variable {c : Instr} {s₀ s t : State} {k k' : ComposerUnit} {j : Job} {rest : List Job}

/-! ### A part begun again (R171, R189) -/

theorem queueMove_beginRecord (r : Record) (s : State) : QueueMove s.comp (beginRecord r s).comp := by
  unfold beginRecord
  split
  · exact .refl _
  · exact queueMove_setTodo _ s

theorem headJob_cons (h : headJob s = some j) : ∃ rest, s.comp.queue = j :: rest := by
  cases hq : s.comp.queue with
  | nil => simp [headJob, hq] at h
  | cons i rest => exact ⟨rest, by simpa [headJob, hq] using h⟩

/-- The hold of a job that stands at record n is not above it. -/
theorem holdBelow_position {n : Nat} (hp : j.position = .record n) (hs : jobSound j = true) : holdBelow (n + 1) j := fun h hh => by
  simp only [jobSound, holdInPlace, hh, hp, Bool.and_eq_true, decide_eq_true_eq] at hs
  obtain ⟨-, ⟨⟨hfirst, -⟩, -⟩, hle, -⟩ := hs
  omega

/-- A job in the queue before its first record has its hold there (R171). -/
theorem holdBelow_first (hp : j.position = .header) (hs : jobSound j = true) : holdBelow j.first j := fun h hh => by
  simp only [jobSound, holdInPlace, hh, hp, Bool.and_eq_true, decide_eq_true_eq, beq_iff_eq] at hs
  obtain ⟨-, -, hle⟩ := hs
  omega

theorem queueMove_restartPart (s : State) : QueueMove s.comp (restartPart s).comp := by
  unfold restartPart
  split
  · exact .refl _
  · rename_i j hj
    split
    · rename_i n hp
      have hread : QueueMove s.comp { s.comp with working := findRecord n s } := queueMove_of_queue rfl rfl rfl
      dsimp only
      split
      · split
        · exact hread.trans (queueMove_beginRecord _ (s.setComp { s.comp with working := findRecord n s }))
        · refine hread.trans (queueMove_goTo (s := s.setComp { s.comp with working := findRecord n s }) fun i hi hs => ?_)
          obtain rfl : j = i := Option.some.inj (hj.symm.trans hi)
          exact holdBelow_position hp hs
      · exact hread.trans (queueMove_setTodo [] (s.setComp { s.comp with working := findRecord n s }))
    · exact queueMove_beginFooter s
    · exact queueMove_beginHeader s

theorem queueMove_beginPrinting (fresh : Bool) (s : State) : QueueMove s.comp (beginPrinting fresh s).comp := by
  unfold beginPrinting
  split
  · exact .refl _
  · split
    · exact queueMove_setTodo _ s
    · split
      · exact queueMove_beginHeader s
      · exact (queueMove_restartPart s).trans (queueMove_of_queue rfl rfl rfl)

/-! ### Composing a line, and a copy's end (R158, R172) -/

theorem jobStep_closing (j : Job) : JobStep True j { j with position := .closing } where
  number := rfl
  first := rfl
  last := rfl
  sound hj hd _ := by
    refine ⟨?_, hd, holdForward_refl _⟩
    simp only [jobSound, holdInPlace] at hj ⊢
    cases hh : j.hold with
    | none => simpa [hh] using hj
    | some h =>
      simp only [hh, Bool.and_eq_true] at hj ⊢
      obtain ⟨h1, h2, -⟩ := hj
      exact ⟨h1, h2, trivial⟩

theorem composes_composeLine (s : State) : composes s (composeLine s) := by
  unfold composeLine
  dsimp only
  split
  case h_5 => split <;> rfl
  case h_6 => exact (composes_setComp _ s).trans (composes_modHead _ _)
  case h_7 => exact (composes_setComp _ s).trans (composes_modHead _ _)
  all_goals rfl

theorem queueMove_composeLine (s : State) : QueueMove s.comp (composeLine s).comp := by
  unfold composeLine
  dsimp only
  split
  case h_5 => split <;> exact queueMove_of_queue rfl rfl rfl
  case h_6 =>
    refine .trans ?_ (queueMove_modHead (f := fun j => { j with completed := j.current })
      (fun _ => jobStep_kept rfl rfl rfl rfl rfl rfl rfl rfl (.inl rfl)) _)
    exact queueMove_of_queue rfl rfl rfl
  case h_7 =>
    refine .trans ?_ (queueMove_modHead jobStep_closing _)
    exact queueMove_of_queue rfl rfl rfl
  all_goals exact queueMove_of_queue rfl rfl rfl

theorem jobSound_iff : jobSound j = true ↔ 1 ≤ j.number ∧ j.number ≤ 255 ∧ 1 ≤ j.current ∧ j.current ≤ j.copies ∧ j.copies ≤ 3 ∧
    j.first ≤ j.last ∧ holdInPlace j = true := by
  simp [jobSound, and_assoc]

/-- The next copy of the head job begins at its header. -/
def nextCopy (j : Job) : Job := { j with current := j.current + 1, printed := 0, position := .header }

theorem jobStep_nextCopy (j : Job) : JobStep (j.current < j.copies) j (nextCopy j) where
  number := rfl
  first := rfl
  last := rfl
  sound hj hd hc := by
    refine ⟨?_, hd, holdForward_refl _⟩
    rw [jobSound_iff] at hj ⊢
    obtain ⟨h1, h2, h3, h4, h5, h6, hhold⟩ := hj
    refine ⟨h1, h2, Nat.le_add_left 1 _, hc, h5, h6, ?_⟩
    cases hh : j.hold with
    | none => simp [holdInPlace, nextCopy, hh]
    | some h =>
      simp only [holdInPlace, hh, Bool.and_eq_true, Bool.or_eq_true, decide_eq_true_eq, beq_iff_eq] at hhold
      obtain ⟨⟨⟨h7, h8⟩, h9⟩, -⟩ := hhold
      obtain rfl : h = j.first := h9.resolve_left (by omega)
      simp [holdInPlace, nextCopy, hh, h6]

/-! ### Leaving the queue (R159) -/

theorem pushEnd_length (e : EndEntry) (l : List EndEntry) : (pushEnd e l).length ≤ 8 := by
  rw [pushEnd_eq, endListed, List.length_drop, List.length_append, List.length_singleton]
  omega

theorem jobSound_becomeHead (j : Job) : jobSound (becomeHead j) = jobSound j := rfl

theorem headSound_becomeHead (h : queuedSound j = true) : headSound (becomeHead j) = true := by
  simp only [queuedSound, Bool.and_eq_true, beq_iff_eq] at h
  obtain ⟨⟨⟨⟨-, hc⟩, hh⟩, -⟩, -⟩ := h
  simp [headSound, becomeHead, hc, hh]

/-- The queue with its next job as head. -/
def headedQueue : List Job → List Job
  | [] => []
  | j :: more => becomeHead j :: more

theorem headedQueue_numbers (l : List Job) : (headedQueue l).map Job.number = l.map Job.number := by cases l <;> rfl
theorem headedQueue_length (l : List Job) : (headedQueue l).length = l.length := by cases l <;> rfl
theorem headedQueue_jobs (l : List Job) : (headedQueue l).all jobSound = l.all jobSound := by cases l <;> rfl

/-- The head job leaves: the next one, if any, is the head. -/
theorem queueMove_leaves (hk : k.queue = j :: rest) (hk' : k'.queue = headedQueue rest) (he : k'.endList.length ≤ 8)
    (hl : k'.lastJob = k.lastJob) : QueueMove k k' := by
  refine ⟨fun h => by simp [hk] at h, ?_, ?_⟩
  · rintro ⟨h1, -, h3, h4, h5, h6, h7⟩
    rw [hk] at h1 h4 h5 h7
    rw [List.map_cons, List.nodup_cons] at h4
    rw [List.all_cons, Bool.and_eq_true] at h5
    rw [List.tail_cons] at h7
    rw [QueueSound, hk', headedQueue_length, headedQueue_numbers, headedQueue_jobs, hl]
    refine ⟨by simp at h1; omega, he, h3, h4.2, h5.2, ?_, ?_⟩
    · cases rest with
      | nil => rfl
      | cons i more =>
        rw [List.all_cons, Bool.and_eq_true] at h7
        exact headSound_becomeHead h7.1
    · cases rest with
      | nil => rfl
      | cons i more =>
        rw [List.all_cons, Bool.and_eq_true] at h7
        exact h7.2
  · intro _ i hi hh
    rw [hk'] at hi
    rw [hk]
    cases rest with
    | nil => simp [headedQueue] at hi
    | cons i' more =>
      rw [headedQueue, List.mem_cons] at hi
      obtain rfl | hi := hi
      · exact ⟨i', by simp, hh, le_rfl, rfl⟩
      · exact ⟨i, by simp [hi], hh, le_rfl, rfl⟩

theorem queueMove_headLeaves (e : JobEnd) (s : State) : QueueMove s.comp (headLeaves e s).comp := by
  unfold headLeaves
  split
  · exact .refl _
  · rename_i j rest hq
    refine queueMove_leaves hq ?_ (pushEnd_length _ _) rfl
    cases rest <;> rfl

/-- A queued job leaves from its place. -/
theorem queueMove_drops {n : Nat} (h : ∀ j ∈ k.queue.head?, j.number ≠ n) (hk' : k'.queue = k.queue.filter fun i => i.number != n)
    (he : k'.endList.length ≤ 8) (hl : k'.lastJob = k.lastJob) : QueueMove k k' := by
  have hsub : k'.queue.Sublist k.queue := hk' ▸ List.filter_sublist
  refine ⟨fun h => by simp [hk', h], ?_, fun _ i hi hh => ⟨i, hsub.subset hi, hh, le_rfl, rfl⟩⟩
  rintro ⟨h1, -, h3, h4, h5, h6, h7⟩
  have hjobs : ∀ i ∈ k'.queue, jobSound i = true := fun i hi => List.all_eq_true.1 h5 i (hsub.subset hi)
  refine ⟨hsub.length_le.trans h1, he, hl ▸ h3, h4.sublist (hsub.map _), List.all_eq_true.2 hjobs, ?_, ?_⟩
  · cases hq : k.queue with
    | nil => simp [hk', hq]
    | cons j rest =>
      rw [hk', hq, List.filter_cons_of_pos (by simpa using h j (by simp [hq]))]
      simpa [hq] using h6
  · cases hq : k.queue with
    | nil => simp [hk', hq]
    | cons j rest =>
      rw [hk', hq, List.filter_cons_of_pos (by simpa using h j (by simp [hq])), List.tail_cons]
      rw [hq, List.tail_cons] at h7
      exact List.all_eq_true.2 fun i hi => List.all_eq_true.1 h7 i (List.filter_sublist.subset hi)

theorem queueMove_queuedLeaves {n : Nat} (e : JobEnd) (h : ∀ j, headJob s = some j → j.number ≠ n) :
    QueueMove s.comp (queuedLeaves n e s).comp := by
  unfold queuedLeaves
  split
  · exact queueMove_drops (n := n) h rfl (pushEnd_length _ _) rfl
  · exact .refl _

/-! ### Closing the head job (R173 to R176) -/

theorem jobStep_close {x : Closing} (hx : x ≠ .none) (d : Option Position) (j : Job) :
    JobStep True j { j with hold := none, closing := x, decided := d } where
  number := rfl
  first := rfl
  last := rfl
  sound hj hd _ := by
    refine ⟨?_, ?_, fun h' e => by simp at e⟩
    · simp only [jobSound, holdInPlace, Bool.and_eq_true] at hj ⊢
      exact ⟨hj.1, trivial⟩
    · simp only [headSound, Bool.and_eq_true] at hd ⊢
      exact ⟨hd.1, by cases x <;> simp_all⟩

theorem queueMove_closeHead {x : Closing} (hx : x ≠ .none) (s : State) : QueueMove s.comp (closeHead x s).comp := by
  unfold closeHead
  split
  · exact .refl _
  · rename_i j rest hq
    have h1 : QueueMove s.comp { s.comp with queue :=
        { j with hold := none, closing := x, decided := if j.began then some j.position else none } :: rest } :=
      queueMove_head hq rfl rfl rfl (jobStep_close hx _ j)
    dsimp only
    generalize (if j.began = true then some j.position else none) = d at h1 ⊢
    split
    · exact h1.trans (queueMove_headLeaves (s := s.setComp _) _)
    · exact h1
    · split
      · exact h1.trans (queueMove_of_queue rfl rfl rfl)
      · exact h1

theorem queueMove_yieldJob (n : Nat) (s : State) : QueueMove s.comp (yieldJob n s).comp := by
  unfold yieldJob
  split
  · exact .refl _
  · rename_i j rest hq
    split
    · split
      · exact queueMove_closeHead (by decide) s
      · exact .refl _
    · rename_i hn
      exact queueMove_queuedLeaves _ fun i hi => by
        obtain rfl : j = i := by simpa [headJob, hq] using hi
        exact hn

/-! ### As acts of a command -/

theorem act_queue (h : QueueMove s.comp k) : Act c s₀ false s (s.setComp k) :=
  .comp (fun _ => h.empty) h.sound fun _ hq hh j' hj' hs => by
    obtain ⟨j, hj, hs', hle, hlast⟩ := h.holds hq j' hj' hs
    obtain ⟨htail, hhead⟩ := hh j hj hs'
    exact ⟨htail.trans hle, hlast ▸ hhead⟩

theorem act_composes (h : composes s t) (hq : QueueMove s.comp t.comp) : Act c s₀ false s t := by
  rw [h]
  exact act_queue hq

end Sys2Proof.Machine

/-! The printer line: what each move keeps, and its commands (R181 to R193). -/

namespace Sys2Proof.Machine

open Sys2Proof

variable {c : Instr} {s₀ s t : State} {a : Bool} {l : LineUnit}

/-! ### The line's own moves -/

/-- The line keeps its settings, and stays sound. -/
structure LineMove (l l' : LineUnit) : Prop where
  settings : sameLineSettings l l'
  sound : LineSound l → LineSound l'

theorem LineMove.refl (l : LineUnit) : LineMove l l := ⟨⟨rfl, rfl, rfl⟩, id⟩
theorem LineMove.trans {l₁ l₂ l₃ : LineUnit} (h : LineMove l₁ l₂) (g : LineMove l₂ l₃) : LineMove l₁ l₃ where
  settings := by
    obtain ⟨h1, h2, h3⟩ := h.settings
    obtain ⟨g1, g2, g3⟩ := g.settings
    exact ⟨g1.trans h1, g2.trans h2, g3.trans h3⟩
  sound hl := g.sound (h.sound hl)

theorem act_line {l : LineUnit} (h : LineMove s.line l) : Act c s₀ a s (s.setLine l) :=
  .line (.inl (settings_of_policy_line s.journal s.comp l s.portA s.portB rfl h.settings)) h.sound

theorem pump_kept (l : LineUnit) : pump l = { l with fifo := (pump l).fifo, shift := (pump l).shift } := by
  unfold pump
  split
  · split <;> rfl
  · rfl

theorem lineMove_pump (l : LineUnit) : LineMove l (pump l) := by
  unfold pump
  split
  · split
    · rename_i b rest hf
      refine ⟨⟨rfl, rfl, rfl⟩, fun ⟨h1, h2, h3, h4, h5, h6, h7, h8, h9⟩ => ⟨?_, h2, h3, h4, h5, h6, h7, ?_, h9⟩⟩
      · rw [hf] at h1
        exact (Nat.le_succ _).trans h1
      · exact fun _ _ => by simp
    · exact .refl l
  · exact .refl l

/-- The break timer runs in BREAK alone (R191). -/
theorem LineSound.brk_none (h : LineSound l) (hs : l.state ≠ .brk) : l.brk = none := by
  obtain ⟨-, -, -, -, h5, -⟩ := h
  by_contra hb
  exact hs (h5 hb)

/-- A line whose start, poll and stall timers are stopped. -/
theorem lineSound_of_stopped (hf : l.fifo.length ≤ 64) (hi : l.inquiry = none) (hp : l.poll = none) (hs : l.stall = none)
    (hb : l.brk ≠ none → l.state = .brk) (hi' : l.state = .inquiring → l.leaving = true)
    (hs' : l.state = .stalled → l.leaving = true) (hsh : l.state = .brk → l.brk = none → l.shift ≠ none) : LineSound l :=
  ⟨hf, fun h => absurd hi h, fun h => absurd hp h, fun h => absurd hs h, hb, fun h h' => by simp [hi' h] at h',
    fun h h' => by simp [hs' h] at h', hsh, fun _ => ⟨hi, hp, hs⟩⟩

theorem lineMove_stopServing (b : Bool) (l : LineUnit) : LineMove l (stopServing b l) := by
  refine ⟨sameLineSettings_stopServing b l, fun hl => ?_⟩
  have hfifo : l.fifo.length ≤ 64 := hl.1
  have hshift : l.state = .brk → l.brk = none → l.shift ≠ none := by
    obtain ⟨-, -, -, -, -, -, -, h8, -⟩ := hl
    exact h8
  unfold stopServing
  cases hs : l.state
  case brk => exact lineSound_of_stopped hfifo rfl rfl rfl (fun _ => rfl) (fun _ => rfl) (fun _ => rfl) fun _ => hshift hs
  all_goals
    have hb : l.brk = none := hl.brk_none (by simp [hs])
  case idle => apply lineSound_of_stopped <;> simp [hb, hfifo]
  case sending =>
    dsimp only
    split
    · apply lineSound_of_stopped <;> simp [hb, hfifo]
    · split <;> apply lineSound_of_stopped <;> simp [hb, hfifo]
  all_goals
    dsimp only
    split <;> apply lineSound_of_stopped <;> simp [hb]

/-- INQUIRE in the emptied FIFO. -/
theorem lineMove_placeInquire (l : LineUnit) : LineMove l (placeInquire l) :=
  .trans (l₂ := { l with fifo := [inquireByte] })
    ⟨⟨rfl, rfl, rfl⟩, fun ⟨_, h⟩ => ⟨by simp, h⟩⟩ (lineMove_pump _)

theorem placeInquire_kept (l : LineUnit) :
    placeInquire l = { l with fifo := (placeInquire l).fifo, shift := (placeInquire l).shift } := by
  unfold placeInquire
  rw [pump_kept]

/-- A poll is made in STALLED, by a line that serves its job (R190). -/
theorem lineMove_poll (hs : l.state = .stalled) (hl : l.leaving = false) : LineMove l (poll l) := by
  have hm := lineMove_placeInquire l
  have hstate : (placeInquire l).state = .stalled := by rw [placeInquire_kept]; exact hs
  have hleaving : (placeInquire l).leaving = false := by rw [placeInquire_kept]; exact hl
  unfold poll
  split
  · refine ⟨hm.settings, fun h => ?_⟩
    obtain ⟨h1, h2, -, h4, h5, h6, h7, h8, -⟩ := hm.sound h
    exact ⟨h1, h2, fun _ => hstate, h4, h5, h6, h7, h8, fun h => by simp [hleaving] at h⟩
  · exact .refl l

theorem sameLineSettings_poll (l : LineUnit) : sameLineSettings l (poll l) := by
  unfold poll
  split
  · exact (lineMove_placeInquire l).settings
  · exact ⟨rfl, rfl, rfl⟩

theorem sameLineSettings_stallLine (r : StallReason) (l : LineUnit) : sameLineSettings l (stallLine r l) := sameLineSettings_poll _

section Service

variable {l₀ : LineUnit} (hset : sameLineSettings l₀ l) (hl : l.leaving = false)

include hset hl

/-- The line stalls when no byte or break of a job that has left is under way (R185, R189). -/
theorem lineMove_stallLine (r : StallReason) (hb : LineSound l₀ → l.brk = none) : LineMove l₀ (stallLine r l) := by
  refine .trans (l₂ := { l with
    state := .stalled, fifo := [], outstanding := false, reason := some r, inquiry := none, poll := none
    stall := some (l.stallTimeout * 1000) }) ⟨hset, fun h => ?_⟩ (lineMove_poll rfl hl)
  simp [LineSound, hb h, hl]

/-- The line begins a start (R188). -/
theorem lineMove_inquire (hi : LineSound l₀ → l.brk = none ∧ l.poll = none ∧ l.stall = none) :
    LineMove l₀ (placeInquire { l with state := .inquiring, inquiry := some Config.inquiryMs }) := by
  refine .trans (l₂ := { l with state := .inquiring, fifo := [inquireByte], inquiry := some Config.inquiryMs }) ⟨hset, fun h => ?_⟩
    (lineMove_pump _)
  obtain ⟨hb, hp, hs⟩ := hi h
  simp [LineSound, hb, hp, hs, hl]

end Service

theorem lineMove_afterByte (l : LineUnit) : LineMove l (afterByte l) := by
  unfold afterByte
  split
  · rename_i hs
    refine ⟨⟨rfl, rfl, rfl⟩, fun ⟨h1, h2, h3, h4, h5, h6, h7, h8, h9⟩ => ⟨h1, h2, h3, h4, fun _ => hs, h6, h7, by simp, h9⟩⟩
  · rename_i hs
    split
    · rename_i hl
      refine ⟨⟨rfl, rfl, rfl⟩, fun h => ?_⟩
      obtain ⟨hi, hp, hst⟩ := h.2.2.2.2.2.2.2.2 hl
      apply lineSound_of_stopped <;> simp [hi, hp, hst, h.brk_none hs, h.1]
    · refine .trans (l₂ := { l with shift := none }) ⟨⟨rfl, rfl, rfl⟩, ?_⟩ (lineMove_pump _)
      exact fun ⟨h1, h2, h3, h4, h5, h6, h7, _, h9⟩ => ⟨h1, h2, h3, h4, h5, h6, h7, fun h => absurd h hs, h9⟩

theorem lineMove_beginBreak (hs : l.state = .suspended) : LineMove l (beginBreak l) := by
  refine ⟨⟨rfl, rfl, rfl⟩, fun ⟨h1, h2, h3, h4, _, _, _, _, h9⟩ => ?_⟩
  have hi : l.inquiry = none := by by_contra h; simp [hs] at h2; exact h h2
  have hp : l.poll = none := by by_contra h; simp [hs] at h3; exact h h3
  have hst : l.stall = none := by by_contra h; simp [hs] at h4; exact h h4
  refine lineSound_of_stopped h1 hi hp hst (fun _ => rfl) (by simp [beginBreak]) (by simp [beginBreak]) fun _ hb hsh => ?_
  simp [beginBreak] at hb hsh
  exact hb hsh

/-! ### Jobs and the line together -/

/-- A job leaves or closes: the queue, the line that stops serving it, and PRINT. -/
theorem acts_of_shape (h : t = s ∨ ∃ k l, lineServes s.line l ∧ t = raiseBoth .print { s with comp := k, line := l })
    (hq : QueueMove s.comp t.comp) : Acts c s₀ false s t := by
  obtain rfl | ⟨k, l, hl, rfl⟩ := h
  · exact .refl
  · have hline : LineMove s.line l := by
      obtain rfl | ⟨b, rfl⟩ := hl
      · exact .refl _
      · exact lineMove_stopServing b _
    have hcomp : Act c s₀ false s (s.setComp k) := act_queue hq
    refine .trans ?_ (acts_raiseBoth .print _)
    exact .tail hcomp.acts (act_line (s := s.setComp k) hline)

theorem acts_headLeaves (e : JobEnd) (s : State) : Acts c s₀ false s (headLeaves e s) :=
  acts_of_shape (headLeaves_shape e s) (queueMove_headLeaves e s)

theorem acts_closeHead {x : Closing} (hx : x ≠ .none) (s : State) : Acts c s₀ false s (closeHead x s) :=
  acts_of_shape (closeHead_shape x s) (queueMove_closeHead hx s)

theorem acts_queuedLeaves {n : Nat} (e : JobEnd) (h : ∀ j, headJob s = some j → j.number ≠ n) :
    Acts c s₀ false s (queuedLeaves n e s) :=
  acts_of_shape ((queuedLeaves_shape n e s).imp_right fun ⟨k, hk⟩ => ⟨k, s.line, .inl rfl, hk⟩) (queueMove_queuedLeaves e h)

theorem acts_setHeadState {st : JobState} (h : st ≠ .queued) (s : State) : Acts c s₀ false s (setHeadState st s) :=
  .trans (Act.acts (act_composes (composes_modHead _ s) (queueMove_headState h s))) (acts_raiseBoth .print _)

theorem acts_beginPrinting (fresh : Bool) (s : State) : Acts c s₀ false s (beginPrinting fresh s) :=
  Act.acts (act_composes (composes_beginPrinting fresh s) (queueMove_beginPrinting fresh s))

theorem acts_enterStalled {r : StallReason} (h : LineMove s.line (stallLine r l)) :
    Acts c s₀ false s (enterStalled r (s.setLine l)) := by
  have hcomp : Act c s₀ false s (s.setComp { s.comp with buffer := [], todo := [], asked := false }) :=
    act_queue (queueMove_of_queue rfl rfl rfl)
  refine .trans ?_ (acts_setHeadState (by decide) _)
  exact .tail hcomp.acts (act_line (s := s.setComp _) h)

/-- A start, or the stall that a printer not ready makes of it (R188, R189). -/
theorem acts_beginStart (hset : sameLineSettings s.line l) (hl : l.leaving = false)
    (h : LineSound s.line → l.brk = none ∧ l.poll = none ∧ l.stall = none) : Acts c s₀ false s (beginStart (s.setLine l)) := by
  unfold beginStart
  split
  · exact Act.acts (act_line (lineMove_inquire hset hl h))
  · exact acts_enterStalled (lineMove_stallLine hset hl _ fun hs => (h hs).1)

end Sys2Proof.Machine

/-! The commands of the print queue and of the printer line (R155 to R193). -/

namespace Sys2Proof.Machine

open Sys2Proof

variable {c : Instr} {s₀ s t : State} {p : Port} {j : Job} {n : Nat}

/-! ### PRINT_SUBMIT (R155 to R157) -/

/-- A job of this number is in the queue. -/
def numbered (q : List Job) (m : Nat) : Prop := ∃ j ∈ q, j.number = m

/-- The i-th number after the last one given, 1 after 255. -/
def numberAfter (n i : Nat) : Nat := (n + i) % 255 + 1

theorem nextNumber_search {q : List Job} {fuel v i : Nat} (hv : v ≤ 255) (hvi : v % 255 = (n + i) % 255) :
    (∃ m, i ≤ m ∧ ¬ numbered q (numberAfter n m) ∧ (∀ m' < m, i ≤ m' → numbered q (numberAfter n m')) ∧
      nextNumber fuel v q = numberAfter n m) ∨ ∀ m < i + fuel, i ≤ m → numbered q (numberAfter n m) := by
  induction fuel generalizing v i with
  | zero => exact .inr fun m h h' => by omega
  | succ fuel ih =>
    have hm : (if v = 255 then 1 else v + 1) = numberAfter n i := by
      unfold numberAfter
      split <;> omega
    rw [nextNumber, hm]
    by_cases hq : numbered q (numberAfter n i)
    · have hany : (q.any fun j => j.number == numberAfter n i) = true := by simpa [numbered] using hq
      rw [if_pos hany]
      obtain ⟨m, him, hfree, hbefore, he⟩ | hall := ih (v := numberAfter n i) (i := i + 1)
        (by unfold numberAfter; omega) (by unfold numberAfter; omega)
      · refine .inl ⟨m, by omega, hfree, fun m' hm' hi => ?_, he⟩
        obtain rfl | hi := Nat.eq_or_lt_of_le hi
        · exact hq
        · exact hbefore m' hm' hi
      · refine .inr fun m hm hi => ?_
        obtain rfl | hi := Nat.eq_or_lt_of_le hi
        · exact hq
        · exact hall m (by omega) hi
    · have hany : ¬ (q.any fun j => j.number == numberAfter n i) = true := by simpa [numbered] using hq
      rw [if_neg hany]
      exact .inl ⟨i, le_rfl, hq, fun m' h h' => by omega, rfl⟩

/-- Nine numbers in a row are not all taken by eight jobs: the next number is the first free one (R157). -/
theorem nextNumber_free {q : List Job} (hn : n ≤ 255) (hq : q.length ≤ 8) :
    ∃ i, ¬ numbered q (numberAfter n i) ∧ (∀ m < i, numbered q (numberAfter n m)) ∧ nextNumber 9 n q = numberAfter n i := by
  obtain ⟨m, -, hfree, hbefore, he⟩ | hall := nextNumber_search (q := q) (n := n) (fuel := 9) (i := 0) hn rfl
  · exact ⟨m, hfree, fun m' h => hbefore m' h (Nat.zero_le _), he⟩
  · exfalso
    have hnodup : ((List.range 9).map (numberAfter n)).Nodup := by
      refine List.Nodup.map_on (fun x hx y hy h => ?_) List.nodup_range
      simp only [List.mem_range, numberAfter] at hx hy h
      omega
    have hsub : (List.range 9).map (numberAfter n) ⊆ q.map Job.number := fun x hx => by
      obtain ⟨m, hm, rfl⟩ := List.mem_map.1 hx
      obtain ⟨j, hj, e⟩ := hall m (by simpa using hm) (Nat.zero_le _)
      exact List.mem_map.2 ⟨j, hj, e⟩
    have hlen := (List.subperm_of_subset hnodup hsub).length_le
    simp only [List.length_map, List.length_range] at hlen
    omega

/-- First and last record that a span form asks for (R156). -/
def spanAsked (f : SpanForm) (s : State) : Nat × Nat :=
  match f with
  | .range a b => (if a = 0 then 1 else a, b)
  | .sinceLast => (s.comp.lastPrinted + 1, s.journal.headSeq - 1)
  | _ => (s.journal.tailSeq, s.journal.headSeq - 1)

theorem resolveSpan_eq (f : SpanForm) (s : State) :
    resolveSpan f s = if min (spanAsked f s).2 (s.journal.headSeq - 1) < max (spanAsked f s).1 s.journal.tailSeq then none
      else some (max (spanAsked f s).1 s.journal.tailSeq, min (spanAsked f s).2 (s.journal.headSeq - 1),
        s.journal.tailSeq - (spanAsked f s).1) := by
  cases f <;> rfl

/-- A span that is not empty lies in the journal. -/
theorem resolveSpan_within {f : SpanForm} {span : Nat × Nat × Nat} (h : resolveSpan f s = some span) :
    s.journal.tailSeq ≤ span.1 ∧ span.1 ≤ span.2.1 ∧ span.2.1 ≤ s.journal.headSeq - 1 := by
  rw [resolveSpan_eq] at h
  split at h
  · exact absurd h (by simp)
  · obtain rfl := Option.some.inj h
    dsimp only
    omega

theorem acceptJob_queue (j : Job) (s : State) :
    (acceptJob j s).comp.queue = if s.comp.queue = [] then [becomeHead j] else s.comp.queue ++ [j] := by
  simp only [acceptJob, raiseBoth, State.bothPorts, State.setComp]
  split <;> rfl

theorem acceptJob_lists (j : Job) (s : State) :
    (acceptJob j s).comp.endList = s.comp.endList ∧ (acceptJob j s).comp.lastJob = j.number := by
  simp only [acceptJob, raiseBoth, State.bothPorts, State.setComp]
  split <;> exact ⟨rfl, rfl⟩

/-- A submitted job is sound, and so is the queue that it joins (R154, R157). -/
theorem queueSound_acceptJob (hnum : ∀ i ∈ s.comp.queue, i.number ≠ j.number) (hlen : s.comp.queue.length < 8)
    (hj : jobSound j = true) (hqd : queuedSound j = true) (h : QueueSound s.comp) : QueueSound (acceptJob j s).comp := by
  obtain ⟨-, h2, -, h4, h5, h6, h7⟩ := h
  obtain ⟨-, hlast, -⟩ := jobSound_iff.1 hj
  obtain ⟨hend, hlastJob⟩ := acceptJob_lists j s
  rw [QueueSound, acceptJob_queue, hend, hlastJob]
  cases hq : s.comp.queue with
  | nil => exact ⟨by simp, h2, hlast, by simp, by simpa [jobSound_becomeHead] using hj, headSound_becomeHead hqd, by simp⟩
  | cons i rest =>
    rw [hq] at hnum hlen h4 h5 h6 h7
    rw [if_neg (by simp)]
    refine ⟨by simpa using hlen, h2, hlast, ?_, by rw [List.all_append, h5]; simp [hj], h6, ?_⟩
    · rw [List.map_append, List.nodup_append]
      refine ⟨h4, by simp, fun x hx y hy => ?_⟩
      obtain ⟨i', hi', rfl⟩ := List.mem_map.1 hx
      simp only [List.map_cons, List.map_nil, List.mem_singleton] at hy
      rw [hy]
      exact hnum i' hi'
    · rw [List.cons_append, List.tail_cons, List.all_append, Bool.and_eq_true]
      exact ⟨h7, by simp [hqd]⟩

/-- A job joins the queue in a survey. -/
theorem acts_acceptJob (hs : s.survey.state ≠ .idle)
    (hsound : QueueSound s.comp → QueueSound (acceptJob j s).comp) (hjob : j.hold = some j.first)
    (hspan : s.journal.tailSeq ≤ j.first ∧ j.first ≤ j.last ∧ j.last ≤ s.journal.headSeq - 1) :
    Acts c s₀ false s (acceptJob j s) := by
  have hcomp : Act c s₀ false s (s.setComp (acceptJob j s).comp) := by
    refine .comp (fun hi => absurd hi hs) hsound fun hjs _ hh i hi hhold => ?_
    have htail : 1 ≤ s.journal.tailSeq := by obtain ⟨h1, -⟩ := hjs; exact h1
    have hmem : i ∈ s.comp.queue ∨ i.hold = j.hold ∧ i.last = j.last := by
      replace hi : i ∈ (acceptJob j s).comp.queue := hi
      rw [acceptJob_queue] at hi
      split at hi
      · obtain rfl := List.mem_singleton.1 hi
        exact .inr ⟨rfl, rfl⟩
      · refine (List.mem_append.1 hi).imp_right fun h => ?_
        obtain rfl := List.mem_singleton.1 h
        exact ⟨rfl, rfl⟩
    obtain hmem | ⟨hhold', hlast⟩ := hmem
    · exact hh i hmem hhold
    · rw [hhold', hlast, hjob]
      show s.journal.tailSeq ≤ j.first ∧ j.last < s.journal.headSeq
      omega
  exact .trans hcomp.acts (acts_raiseBoth .print _)

theorem run_printSubmit (h : exec (.printSubmit p) s = .next t) : Run (.printSubmit p) s s t := by
  simp only [exec, execPrintSubmit, Host.Outcome.next.injEq] at h
  subst h
  refine run_takeRequest (by simp) fun body _ => ?_
  split
  · exact answered_refused _ _ _ _ _ _ _
  · rename_i v _
    split
    · exact answered_refused _ _ _ _ _ _ _
    · rename_i hin
      split
      · exact answered_refused _ _ _ _ _ _ _
      · split
        · exact answered_refused _ _ _ _ _ _ _
        · rename_i span hspan
          split
          · exact answered_refused _ _ _ _ _ _ _
          · rename_i hlen
            have hlen' : (withdrawn p s).comp.queue.length < 8 := by simpa [Config.queueSize] using hlen
            have hidle : (withdrawn p s).survey.state ≠ .idle := by
              simpa [State.inSurvey] using hin
            refine Acts.answered (acts_acceptJob hidle (fun hq => ?_) rfl (resolveSpan_within hspan))
            obtain ⟨i, hfree, -, he⟩ := nextNumber_free hq.2.2.1 hq.1
            have hwithin := resolveSpan_within hspan
            have hnum : (newJob p v (nextNumber 9 (withdrawn p s).comp.lastJob (withdrawn p s).comp.queue) span (withdrawn p s)).number =
                numberAfter (withdrawn p s).comp.lastJob i := he
            refine queueSound_acceptJob (fun k hk e => hfree ⟨k, hk, e.trans hnum⟩) hlen' ?_ (by simp [queuedSound, newJob]) hq
            rw [jobSound_iff, hnum]
            refine ⟨by unfold numberAfter; omega, by unfold numberAfter; omega, le_rfl, ?_, ?_, hwithin.2.1, ?_⟩
            · simp [newJob, clampTo]
            · simp [newJob, clampTo]
            · simp [holdInPlace, newJob, hwithin.2.1]

/-! ### PRINT_CANCEL (R173) -/

theorem run_printCancel (h : exec (.printCancel p) s = .next t) : Run (.printCancel p) s s t := by
  simp only [exec, execPrintCancel, Host.Outcome.next.injEq] at h
  subst h
  refine run_takeRequest (by simp) fun body _ => ?_
  split
  · split
    · exact answered_refused _ _ _ _ _ _ _
    · rename_i m _ _ i isHead hfind
      split
      · exact answered_refused _ _ _ _ _ _ _
      · split
        · exact (acts_closeHead (by decide) _).answered
        · rename_i hnot
          refine Acts.answered (acts_queuedLeaves _ fun k hk => ?_)
          simp only [findJob, Option.map_eq_some_iff, Prod.mk.injEq, hk, Option.map_some] at hfind
          obtain ⟨i', hi', rfl, rfl⟩ := hfind
          have hnumber : i'.number = m.toNat := by simpa using List.find?_some hi'
          rw [hnumber]
          intro e
          simp [e] at hnot
  · exact answered_refused _ _ _ _ _ _ _

/-! ### ROOM (R181) -/

theorem lineMove_handByte {b : Byte} {l : LineUnit} (hf : l.fifo.length < 64) :
    LineMove l (pump { l with fifo := l.fifo ++ [b], outstanding := true }) :=
  .trans (l₂ := { l with fifo := l.fifo ++ [b], outstanding := true })
    ⟨⟨rfl, rfl, rfl⟩, fun ⟨_, h⟩ => ⟨by simpa using hf, h⟩⟩ (lineMove_pump _)

theorem acts_handByte (hf : s.line.fifo.length < 64) : Acts c s₀ false s (handByte s) := by
  unfold handByte
  split
  · rename_i b rest hb
    have hcomp : Act c s₀ false s (s.setComp { s.comp with buffer := rest }) := act_queue (queueMove_of_queue rfl rfl rfl)
    exact .tail hcomp.acts (act_line (s := s.setComp _) (lineMove_handByte hf))
  · exact .refl

theorem run_room (h : exec .room s = .next t) : Run .room s s t := by
  simp only [exec, execRoom, Host.Outcome.next.injEq] at h
  subst h
  split
  · rename_i hroom
    have hf : s.line.fifo.length < 64 := by
      simp only [hasRoom, Bool.and_eq_true, decide_eq_true_eq] at hroom
      exact hroom.1.2
    split
    · refine Acts.run (.trans (Act.acts (act_composes (composes_composeLine s) (queueMove_composeLine s))) (acts_handByte ?_))
      rw [composes_composeLine s]
      exact hf
    · exact (acts_handByte hf).run
  · exact .refl s

/-! ### Transmission complete (R160, R171, R172) -/

theorem act_goTo (h : ∀ j, headJob s = some j → jobSound j = true → holdBelow n j) : Act c s₀ false s (goTo n s) :=
  act_composes (composes_goTo n s) (queueMove_goTo h)

theorem acts_endCopy (hj : headJob s = some j) : Acts c s₀ false s (endCopy j s) := by
  obtain ⟨rest, hq⟩ := headJob_cons hj
  unfold endCopy
  split
  · rename_i hcur
    have hnext : QueueMove s.comp { s.comp with queue := nextCopy j :: rest } :=
      queueMove_head hq rfl rfl rfl ⟨rfl, rfl, rfl, fun hs hd _ => (jobStep_nextCopy j).sound hs hd hcur⟩
    have hmod : modHead nextCopy s = s.setComp { s.comp with queue := nextCopy j :: rest } := by simp [modHead, hq]
    refine Act.acts (act_composes ((composes_modHead nextCopy s).trans (composes_setComp _ _)) ?_)
    show QueueMove s.comp { (modHead nextCopy s).comp with lastDate := none, asked := true }
    rw [hmod]
    exact hnext.trans (queueMove_of_queue rfl rfl rfl)
  · have hlast : Act c s₀ false s (s.setComp { s.comp with lastPrinted := j.last }) := act_queue (queueMove_of_queue rfl rfl rfl)
    exact .trans hlast.acts (acts_headLeaves _ _)

theorem acts_composerComplete (s : State) : Acts c s₀ false s (composerComplete s) := by
  unfold composerComplete
  split
  · exact .refl
  · split
    · exact .refl
    · rename_i j hj
      have same : ∀ i, headJob s = some i → j = i := fun i hi => Option.some.inj (hj.symm.trans hi)
      split
      · rename_i hp
        exact Act.acts (act_goTo fun i hi hs => by obtain rfl := same i hi; exact holdBelow_first hp hs)
      · rename_i n hp
        exact Act.acts (act_goTo fun i hi hs => by obtain rfl := same i hi; exact holdBelow_position hp hs)
      · exact acts_endCopy hj
      · exact acts_headLeaves _ s

theorem run_shiftRegisterByteEnd (h : exec .shiftRegisterByteEnd s = .next t) : Run .shiftRegisterByteEnd s s t := by
  simp only [exec, execShiftRegisterByteEnd, Host.Outcome.next.injEq] at h
  subst h
  split
  · have hafter : Act .shiftRegisterByteEnd s false s (modLine afterByte s) := act_line (lineMove_afterByte _)
    unfold reportComplete
    split
    · have hsent : Act .shiftRegisterByteEnd s false (modLine afterByte s)
          (modLine (fun l => { l with outstanding := false }) (modLine afterByte s)) := act_line ⟨⟨rfl, rfl, rfl⟩, id⟩
      exact Acts.run (.trans (.tail hafter.acts hsent) (acts_composerComplete _))
    · exact hafter.run
  · exact .refl s

/-! ### Starts, stalls and suspension (R185 to R192) -/

/-- A line that inquires or is SENDING has no break, poll or stall under way. -/
theorem LineSound.unstalled {l : LineUnit} (h : LineSound l) (hs : l.state = .idle ∨ l.state = .sending ∨ l.state = .inquiring) :
    l.brk = none ∧ l.poll = none ∧ l.stall = none := by
  have hne : l.state ≠ .brk ∧ l.state ≠ .stalled := by obtain e | e | e := hs <;> simp [e]
  have hb := h.brk_none hne.1
  obtain ⟨-, -, h3, h4, -⟩ := h
  exact ⟨hb, by by_contra e; exact hne.2 (h3 e), by by_contra e; exact hne.2 (h4 e)⟩

theorem run_startRequest (h : exec .startRequest s = .next t) : Run .startRequest s s t := by
  simp only [exec, execStartRequest, Host.Outcome.next.injEq] at h
  subst h
  split
  · rename_i hcond
    simp only [Bool.and_eq_true, Bool.not_eq_true', Bool.or_eq_true, beq_iff_eq] at hcond
    obtain ⟨⟨-, hl⟩, hst⟩ := hcond
    have hcomp : Act .startRequest s false s (s.setComp { s.comp with asked := false }) := act_queue (queueMove_of_queue rfl rfl rfl)
    refine Acts.run (.trans hcomp.acts ?_)
    exact acts_beginStart (s := s.setComp _) ⟨rfl, rfl, rfl⟩ hl fun hs => hs.unstalled (hst.imp_right .inl)
  · exact .refl s

theorem acts_startSucceeds (hs : s.line.state = .inquiring) :
    Acts c s₀ false s (startSucceeds s) := by
  have hline : Act c s₀ false s (modLine (fun l => { l with state := .sending, inquiry := none, reason := none }) s) := by
    refine act_line ⟨⟨rfl, rfl, rfl⟩, fun h => ?_⟩
    obtain ⟨hb, hp, hst⟩ := h.unstalled (.inr (.inr hs))
    apply lineSound_of_stopped <;> simp [hb, hp, hst, h.1]
  unfold startSucceeds
  dsimp only
  split
  · exact hline.acts
  · split
    · exact .trans hline.acts (acts_beginPrinting _ _)
    · exact .trans (.trans hline.acts (acts_setHeadState (by decide) _)) (acts_beginPrinting _ _)

theorem acts_clearStall (hs : s.line.state = .stalled) : Acts c s₀ false s (clearStall s) := by
  have hline : Act c s₀ false s
      (modLine (fun l => { l with state := .sending, fifo := [], stall := none, poll := none, reason := none }) s) := by
    refine act_line ⟨⟨rfl, rfl, rfl⟩, fun h => ?_⟩
    have hb := h.brk_none (by simp [hs])
    obtain ⟨-, h2, -⟩ := h
    have hi : s.line.inquiry = none := by by_contra e; simp [hs] at h2; exact e h2
    apply lineSound_of_stopped <;> simp [hb, hi]
  exact .trans (.trans hline.acts (acts_setHeadState (by decide) _)) (acts_beginPrinting _ _)

/-- A line in service stalls. -/
theorem acts_stallNow {r : StallReason} (hs : s.line.state ≠ .brk) (hl : s.line.leaving = false) :
    Acts c s₀ false s (enterStalled r s) :=
  acts_enterStalled (l := s.line) (lineMove_stallLine ⟨rfl, rfl, rfl⟩ hl r fun h => h.brk_none hs)

theorem acts_answerStatus (s : State) : Acts c s₀ false s (answerStatus s) := by
  unfold answerStatus
  dsimp only
  split
  · exact .refl
  · rename_i hl
    have hl' : s.line.leaving = false := by simpa using hl
    split
    · rename_i hs
      split
      · exact acts_stallNow (by simp [hs]) hl'
      · exact acts_startSucceeds hs
    · rename_i hs
      split
      · exact acts_stallNow (by simp [hs]) hl'
      · exact Act.acts (act_line (lineMove_pump _))
    · rename_i hs
      split
      · exact acts_clearStall hs
      · exact .refl
    · exact .refl

theorem run_statusByte (h : exec .statusByte s = .next t) : Run .statusByte s s t := by
  simp only [exec, execStatusByte, Host.Outcome.next.injEq] at h
  subst h
  split
  · rename_i b _
    have hline : Act .statusByte s false s (modLine (fun l => { l with holding := none, held := statusOf b }) s) :=
      act_line ⟨⟨rfl, rfl, rfl⟩, id⟩
    refine Acts.run (.trans hline.acts (.trans ?_ (acts_answerStatus _)))
    split
    · exact acts_raiseBoth .printer _
    · exact .refl
  · exact .refl s

theorem run_inquiryTimerExpiry (h : exec .inquiryTimerExpiry s = .next t) : Run .inquiryTimerExpiry s s t := by
  simp only [exec, execInquiryTimerExpiry, Host.Outcome.next.injEq] at h
  subst h
  split
  · rename_i hcond
    refine (acts_enterStalled (l := s.line) ⟨sameLineSettings_stallLine _ _, fun hl => ?_⟩).run
    have hleave : s.line.leaving = false := by
      obtain ⟨-, -, -, -, -, -, -, -, h9⟩ := hl
      by_contra e
      simp [hcond.1] at h9
      exact e h9
    exact (lineMove_stallLine ⟨rfl, rfl, rfl⟩ hleave _ fun h => h.brk_none (by simp [hcond.2])).sound hl
  · exact .refl s

theorem run_pollTimerExpiry (h : exec .pollTimerExpiry s = .next t) : Run .pollTimerExpiry s s t := by
  simp only [exec, execPollTimerExpiry, Host.Outcome.next.injEq] at h
  subst h
  split
  · rename_i hcond
    refine Act.run (a := false) (act_line ⟨sameLineSettings_poll _, fun hl => ?_⟩)
    have hidle : LineSound { s.line with poll := none } := by
      obtain ⟨h1, h2, -, h4, h5, h6, h7, h8, h9⟩ := hl
      exact ⟨h1, h2, by simp, h4, h5, h6, h7, h8, fun h => ⟨(h9 h).1, rfl, (h9 h).2.2⟩⟩
    have hleave : s.line.leaving = false := by
      obtain ⟨-, -, -, -, -, -, -, -, h9⟩ := hl
      by_contra e
      simp [hcond.1] at h9
      exact e h9
    exact (lineMove_poll (l := { s.line with poll := none }) hcond.2 hleave).sound hidle
  · exact .refl s

/-- The stall timer runs out (R191). -/
theorem acts_suspend (hs : s.line.state = .stalled) : Acts c s₀ false s (suspend s) := by
  unfold suspend
  split
  · exact .refl
  · split
    · exact acts_headLeaves _ s
    · have hline : Act c s₀ false s
          (modLine (fun l => { l with state := .suspended, fifo := [], stall := none, poll := none }) s) := by
        refine act_line ⟨⟨rfl, rfl, rfl⟩, fun h => ?_⟩
        have hb := h.brk_none (by simp [hs])
        obtain ⟨-, h2, -⟩ := h
        have hi : s.line.inquiry = none := by by_contra e; simp [hs] at h2; exact e h2
        apply lineSound_of_stopped <;> simp [hb, hi]
      exact .trans hline.acts (acts_setHeadState (by decide) _)

theorem run_stallTimerExpiry (h : exec .stallTimerExpiry s = .next t) : Run .stallTimerExpiry s s t := by
  simp only [exec, execStallTimerExpiry, Host.Outcome.next.injEq] at h
  subst h
  split
  · rename_i hcond
    exact (acts_suspend hcond.2).run
  · exact .refl s

theorem run_breakTimerExpiry (h : exec .breakTimerExpiry s = .next t) : Run .breakTimerExpiry s s t := by
  simp only [exec, execBreakTimerExpiry, Host.Outcome.next.injEq] at h
  subst h
  split
  · rename_i hcond
    have hstopped : LineSound s.line → s.line.inquiry = none ∧ s.line.poll = none ∧ s.line.stall = none := by
      rintro ⟨-, h2, h3, h4, -⟩
      simp only [hcond.2] at h2 h3 h4
      exact ⟨by by_contra e; simpa using h2 e, by by_contra e; simpa using h3 e, by by_contra e; simpa using h4 e⟩
    split
    · refine Act.run (a := false) (act_line (l := { s.line with brk := none, state := .idle, leaving := false })
        ⟨⟨rfl, rfl, rfl⟩, fun h => ?_⟩)
      obtain ⟨hi, hp, hst⟩ := hstopped h
      apply lineSound_of_stopped <;> simp [hi, hp, hst, h.1]
    · rename_i hl
      refine (acts_beginStart (l := { s.line with brk := none }) ⟨rfl, rfl, rfl⟩ (by simpa using hl) fun h => ?_).run
      obtain ⟨-, hp, hst⟩ := hstopped h
      exact ⟨rfl, hp, hst⟩
  · exact .refl s

/-! ### Clear-to-send, printer-ready and received bytes (R181, R184, R186) -/

theorem run_clearToSendChange {b : Bool} (h : exec (.clearToSendChange b) s = .next t) : Run (.clearToSendChange b) s s t := by
  simp only [exec, execClearToSendChange, Host.Outcome.next.injEq] at h
  subst h
  split
  · exact .refl s
  · refine Act.run (a := false) (act_line ?_)
    exact .trans (l₂ := { s.line with cts := b }) ⟨⟨rfl, rfl, rfl⟩, id⟩ (lineMove_pump _)

theorem acts_readyLost (s : State) : Acts c s₀ false s (readyLost s) := by
  unfold readyLost
  split
  · exact .refl
  · rename_i hl
    have hl' : s.line.leaving = false := by simpa using hl
    split
    · rename_i hs
      exact acts_stallNow (by simp [hs]) hl'
    · rename_i hs
      exact acts_stallNow (by simp [hs]) hl'
    · refine Act.acts (act_line ⟨⟨rfl, rfl, rfl⟩, ?_⟩)
      rintro ⟨h1, h2, -, h4, h5, h6, h7, h8, h9⟩
      exact ⟨h1, h2, by simp, h4, h5, h6, h7, h8, fun h => ⟨(h9 h).1, rfl, (h9 h).2.2⟩⟩
    · exact .refl

theorem run_printerReadyChange {b : Bool} (h : exec (.printerReadyChange b) s = .next t) : Run (.printerReadyChange b) s s t := by
  simp only [exec, execPrinterReadyChange, Host.Outcome.next.injEq] at h
  subst h
  split
  · exact .refl s
  · have hline : Act (.printerReadyChange b) s false s (modLine (fun l => { l with ready := b }) s) := act_line ⟨⟨rfl, rfl, rfl⟩, id⟩
    refine Acts.run (.trans hline.acts (.trans (acts_raiseBoth .printer _) ?_))
    split
    · split
      · rename_i hcond
        exact Act.acts (act_line (lineMove_poll hcond.1 hcond.2))
      · exact .refl
    · exact acts_readyLost _

theorem satInc_le (m n : Nat) : satInc m n ≤ m := Nat.min_le_left _ _

/-- An error counter of the line counts on each port. -/
theorem portMove_countError {f : PortUnit → PortUnit} (hf : f = countFraming ∨ f = countParity ∨ f = countOverrun) (s : State) (p : Port) :
    PortMove c s p (f (s.port p)) := by
  obtain rfl | rfl | rfl := hf
  all_goals
    refine portMove_of_kept (fun h => ?_) (.inl rfl) rfl (.inl rfl) fun _ h => h
    obtain ⟨h1, h2, h3, h4, h5, h6, h7, h8, h9, h10, h11⟩ := h
  · exact ⟨h1, h2, h3, h4, h5, h6, h7, satInc_le _ _, h9, h10, h11⟩
  · exact ⟨h1, h2, h3, h4, h5, h6, h7, h8, satInc_le _ _, h10, h11⟩
  · exact ⟨h1, h2, h3, h4, h5, h6, h7, h8, h9, satInc_le _ _, h11⟩

theorem acts_judgeByte (even : Bool) (data : Byte) (parityBit stopBit : Bool) (s : State) :
    Acts c s₀ false s (judgeByte even data parityBit stopBit s) := by
  unfold judgeByte
  split
  · exact acts_bothPorts (portMove_countError (.inl rfl)) s
  · split
    · exact acts_bothPorts (portMove_countError (.inr (.inl rfl))) s
    · split
      · exact acts_bothPorts (portMove_countError (.inr (.inr rfl))) s
      · exact Act.acts (act_line ⟨⟨rfl, rfl, rfl⟩, id⟩)

theorem run_byteReceived {data : Byte} {b : Bool} {x : Reception} (h : exec (.byteReceived data b x) s = .next t) :
    Run (.byteReceived data b x) s s t := by
  simp only [exec, execByteReceived, Host.Outcome.next.injEq] at h
  subst h
  have hline : Act (.byteReceived data b x) s false s (modLine (fun l => { l with parityChanged := false }) s) :=
    act_line ⟨⟨rfl, rfl, rfl⟩, id⟩
  exact Acts.run (.trans hline.acts (acts_judgeByte _ _ _ _ _))

/-! ### PRINT_RESUME (R191, R192) -/

theorem run_printResume (h : exec (.printResume p) s = .next t) : Run (.printResume p) s s t := by
  simp only [exec, execPrintResume, Host.Outcome.next.injEq] at h
  subst h
  refine run_takeRequest (by simp) fun body _ => ?_
  split
  · split
    · exact answered_refused _ _ _ _ _ _ _
    · split
      · rename_i hcond
        simp only [Bool.and_eq_true, beq_iff_eq] at hcond
        exact Acts.answered (a := false) (Act.acts (act_line (lineMove_beginBreak hcond.2)))
      · exact answered_refused _ _ _ _ _ _ _
  · exact answered_refused _ _ _ _ _ _ _

end Sys2Proof.Machine

/-! Every command is a run of acts, and so is every step of the machine. -/

namespace Sys2Proof.Machine

open Sys2Proof

theorem run_exec {c : Instr} {s t : State} (h : exec c s = .next t) : Run c s s t :=
  match c with
  | .powerOn => run_powerOn h
  | .resetPin => run_resetPin h
  | .surveyClockTick => run_surveyClockTick h
  | .requestFrame _ _ _ => run_requestFrame h
  | .portReset _ => run_portReset h
  | .fetchFrame _ _ => run_fetchFrame h
  | .fetchComplete _ => run_fetchComplete h
  | .surveyStart _ => run_surveyStart h
  | .surveyStop _ => run_surveyStop h
  | .seqLimitStop => run_seqLimitStop h
  | .surveyClear _ => run_surveyClear h
  | .setTime _ => run_setTime h
  | .setJournalPolicy _ => run_set (i := .journalPolicy) (by decide) h
  | .setSyncA _ => run_set (i := .syncA) (by decide) h
  | .setSyncB _ => run_set (i := .syncB) (by decide) h
  | .setSyncF _ => run_set (i := .syncF) (by decide) h
  | .setBandEdges _ => run_set (i := .bandEdges) (by decide) h
  | .setDipThreshold _ => run_set (i := .dipThreshold) (by decide) h
  | .setIntrThreshold _ => run_set (i := .intrThreshold) (by decide) h
  | .setSwellThreshold _ => run_set (i := .swellThreshold) (by decide) h
  | .setHysteresis _ => run_set (i := .hysteresis) (by decide) h
  | .setHoldOff _ => run_set (i := .holdOff) (by decide) h
  | .setPreCycles _ => run_set (i := .preCycles) (by decide) h
  | .setPostCycles _ => run_set (i := .postCycles) (by decide) h
  | .setIntervalLength _ => run_set (i := .intervalLength) (by decide) h
  | .setKeptOrders _ => run_set (i := .keptOrders) (by decide) h
  | .setRecordMask _ => run_set (i := .recordMask) (by decide) h
  | .setFlagPolicy _ => run_set (i := .flagPolicy) (by decide) h
  | .setLimit _ => run_set (i := .limit) (by decide) h
  | .setSupply _ => run_set (i := .supply) (by decide) h
  | .setBaud _ => run_set (i := .baud) (by decide) h
  | .setParity _ => run_set (i := .parity) (by decide) h
  | .setStallTimeout _ => run_set (i := .stallTimeout) (by decide) h
  | .probeSet _ => run_probeSet h
  | .get _ => run_get h
  | .status _ _ => run_status h
  | .live _ => run_live h
  | .counters _ => run_counters h
  | .readNext _ => run_readNext h
  | .seek _ => run_seek h
  | .postFrame _ => run_postFrame h
  | .noteBegin _ => run_noteBegin h
  | .notePart _ => run_notePart h
  | .printSubmit _ => run_printSubmit h
  | .printCancel _ => run_printCancel h
  | .printResume _ => run_printResume h
  | .printList _ => run_printList h
  | .supplyRestore _ => run_supplyRestore h
  | .selftestStart _ => run_selftestStart h
  | .selftestStop _ => run_selftestStop h
  | .portConfig _ _ => run_portConfig h
  | .append _ _ => run_append h
  | .appendRefusalTaken => run_appendRefusalTaken h
  | .newRecordDivider _ => run_newRecordDivider h
  | .syncAMatch _ => by obtain rfl := Host.Outcome.next.inj h; exact run_takeBitAs _ _ s
  | .confirmWord _ => by obtain rfl := Host.Outcome.next.inj h; exact run_takeBitAs _ _ s
  | .goodDataFrame _ => by obtain rfl := Host.Outcome.next.inj h; exact run_takeBitAs _ _ s
  | .fillerFrame _ => by obtain rfl := Host.Outcome.next.inj h; exact run_takeBitAs _ _ s
  | .badFrame _ => by obtain rfl := Host.Outcome.next.inj h; exact run_takeBitAs _ _ s
  | .lossOfLock _ => by obtain rfl := Host.Outcome.next.inj h; exact run_takeBitAs _ _ s
  | .breakEntry => by obtain rfl := Host.Outcome.next.inj h; exact run_takeBitAs _ _ s
  | .breakEnd => by obtain rfl := Host.Outcome.next.inj h; exact run_takeBitAs _ _ s
  | .testFrame => run_testFrame h
  | .phaseChange => run_phaseChange h
  | .sampleSet => run_sampleSet h
  | .halfCycleBoundary => run_halfCycleBoundary h
  | .hcuSourceLossNotice => run_hcuSourceLossNotice h
  | .halfCycleValue => run_halfCycleValue h
  | .holdOffExpiry => run_holdOffExpiry h
  | .probeNotice => run_probeNotice h
  | .detectorSourceLossNotice => run_detectorSourceLossNotice h
  | .stopNoticeDetector => run_stopNoticeDetector h
  | .trigger _ => run_trigger h
  | .triggerAnswer _ => run_triggerAnswer h
  | .ringSampleSet => run_ringSampleSet h
  | .ringCycleComplete => run_ringCycleComplete h
  | .captureSourceLossNotice => run_captureSourceLossNotice h
  | .stopNoticeCapture => run_stopNoticeCapture h
  | .endNotice _ => run_endNotice h
  | .eventOpeningNotice => run_eventOpeningNotice h
  | .stopNoticeAggregator => run_stopNoticeAggregator h
  | .stopNoticeGenerator => run_stopNoticeGenerator h
  | .senseLineChange _ _ => run_senseLineChange h
  | .debounceExpiry _ => run_debounceExpiry h
  | .faultInputActive => run_faultInputActive h
  | .faultInputInactive => run_faultInputInactive h
  | .startRequest => run_startRequest h
  | .room => run_room h
  | .clearToSendChange _ => run_clearToSendChange h
  | .shiftRegisterByteEnd => run_shiftRegisterByteEnd h
  | .byteReceived _ _ _ => run_byteReceived h
  | .statusByte => run_statusByte h
  | .printerReadyChange _ => run_printerReadyChange h
  | .inquiryTimerExpiry => run_inquiryTimerExpiry h
  | .pollTimerExpiry => run_pollTimerExpiry h
  | .stallTimerExpiry => run_stallTimerExpiry h
  | .breakTimerExpiry => run_breakTimerExpiry h
  | .bitArrival _ => by obtain rfl := Host.Outcome.next.inj h; exact run_takeBit _ s

/-- A step idles, or it is the run of the command at the front of the queue. -/
theorem step_run {s t : State} (h : step s = .next t) :
    t = s ∨ ∃ c rest, s.pending = c :: rest ∧ Run c { s with pending := rest } { s with pending := rest } t := by
  unfold step at h
  split at h
  · exact .inl (Host.Outcome.next.inj h).symm
  · rename_i c rest hp
    exact .inr ⟨c, rest, hp, run_exec h⟩

end Sys2Proof.Machine

/-! The values of the part stay in their ranges (O56): each act keeps each invariant, so every step does. -/

namespace Sys2Proof.Machine

open Sys2Proof

variable {c : Instr} {s₀ s t : State} {a : Bool}

/-! ### What the acts of whole-machine rows leave -/

theorem tick_eq (h : execSurveyClockTick s = .next t) : t = { s with
    survey := { s.survey with clock := if s.survey.state = .idle then s.survey.clock else satInc Config.max32 s.survey.clock }
    kit := { s.kit with timers := .ofFn fun c => tickTimer (s.kit.timers.get c) }
    line := { s.line with
      inquiry := tickTimer s.line.inquiry, poll := tickTimer s.line.poll
      stall := tickTimer s.line.stall, brk := tickTimer s.line.brk } } :=
  (Host.Outcome.next.inj h).symm

theorem settings_resetAll (s : State) : settingsOf (resetAll s) = settingsOf State.reset := by
  unfold resetAll kitAfterReset
  cases s.kit.faultActive <;> rfl

theorem settings_returned (s : State) : settingsOf (returned s) = settingsOf s := by
  unfold returned
  split <;> rfl

theorem settings_startSurvey {v : StartValues} (hs : v.site.length ≤ 16) : settingsOf (startSurvey v s) = settingsOf s := by
  rw [startSurvey_eq s hs]
  rfl

theorem settingsMove_refl : SettingsMove c s s := .inl rfl

/-- An act returns the settings to their defaults, leaves them, or it is the row of the item that it sets. -/
theorem act_settings (h : Act c s₀ a s t) :
    (c = .powerOn ∨ c = .resetPin) ∧ settingsOf t = settingsOf State.reset ∨ SettingsMove c s t := by
  cases h with
  | reset hc => exact .inl ⟨hc, settings_resetAll s⟩
  | tick _ h => obtain rfl := tick_eq h; exact .inr (.inl rfl)
  | start _ _ _ hs => exact .inr (.inl (settings_startSurvey hs))
  | journal _ h => exact .inr (.inl h.beside.settings)
  | generatorOff _ h => exact .inr (.inl ((settings_returned _).trans h.beside.settings))
  | leave hd => obtain rfl | rfl := hd <;> exact .inr (.inl rfl)
  | det hset => exact .inr hset
  | cap hset => exact .inr hset
  | agg hset => exact .inr hset
  | flow hset => exact .inr hset
  | link hset => exact .inr hset
  | kit hset => exact .inr hset
  | line hset => exact .inr hset
  | policy hc =>
    obtain ⟨p, rfl⟩ := hc
    exact .inr (.inr ⟨⟨.journalPolicy, p, rfl⟩, id⟩)
  | @note _ _ p => cases p <;> exact .inr (.inl rfl)
  | @port _ _ p => cases p <;> exact .inr (.inl rfl)
  | _ => exact .inr (.inl rfl)

theorem act_settingsSound (h : Act c s₀ a s t) (hs : SettingsSound (settingsOf s)) : SettingsSound (settingsOf t) := by
  obtain ⟨-, e⟩ | e | ⟨-, hset⟩ := act_settings h
  · rw [e]; decide
  · rwa [e]
  · exact hset hs

/-! ### The receiver and the generator (R42 to R63) -/

theorem resetAll_link (s : State) : (resetAll s).link = LinkUnit.reset ∧ (resetAll s).gen = State.reset.gen ∧
    (resetAll s).hcu = State.reset.hcu ∧ (resetAll s).flight = State.reset.flight ∧ (resetAll s).cap = State.reset.cap := by
  unfold resetAll
  split <;> exact ⟨rfl, rfl, rfl, rfl, rfl⟩

theorem act_linkSound (h : Act c s₀ a s t) (hs : LinkSound s) : LinkSound t := by
  cases h with
  | reset =>
    obtain ⟨hl, hg, -⟩ := resetAll_link s
    rw [LinkSound, hl, hg]
    decide
  | tick _ h => obtain rfl := tick_eq h; exact hs
  | start _ _ _ hv => rw [startSurvey_eq s hv]; exact hs
  | journal _ h => rw [LinkSound, h.beside.link, h.beside.gen]; exact hs
  | @generatorOff _ u _ h =>
    obtain ⟨hfig, -⟩ := (linkSound_iff s).1 hs
    have hlink : u.link = s.link := h.beside.link
    have hgen : u.gen.running = false := by rw [h.beside.gen]; rfl
    rw [linkSound_iff]
    unfold returned
    split
    · exact ⟨by
        rw [hlink]
        obtain ⟨h1, h2, -, h3⟩ := linkFigures_toHunt hfig
        exact ⟨h1, h2, Nat.zero_le 352, h3⟩, by simp [sendLoss, State.setLink, toHunt, hgen]⟩
    · rename_i hne
      exact ⟨by rwa [hlink], by simp [hne, hgen]⟩
  | link _ hl => exact hl hs
  | @note _ _ p => cases p <;> exact hs
  | @port _ _ p => cases p <;> exact hs
  | _ => exact hs

/-! ### Samples (R41, R65) -/

theorem samplesSound_of_flight {f : Flight} (hin : f.hcuIn = s.flight.hcuIn) (hcap : f.capIn = s.flight.capIn) (hs : SamplesSound s) :
    SamplesSound { s with flight := f } := by
  simpa [SamplesSound, hin, hcap] using hs

theorem act_samplesSound (h : Act c s₀ a s t) (hs : SamplesSound s) : SamplesSound t := by
  cases h with
  | reset =>
    obtain ⟨hl, hg, hh, hf, -⟩ := resetAll_link s
    rw [SamplesSound, hl, hg, hh, hf]
    decide
  | tick _ h => obtain rfl := tick_eq h; exact hs
  | start _ _ _ hv => rw [startSurvey_eq s hv]; exact hs
  | journal _ h =>
    have hb := h.beside
    rw [SamplesSound, hb.link, hb.gen, hb.hcu, hb.hcuIn, hb.capIn]
    exact hs
  | @generatorOff _ u _ h =>
    have hb := h.beside
    have hu : SamplesSound u := by
      rw [SamplesSound, hb.link, hb.gen, hb.hcu, hb.hcuIn, hb.capIn]
      exact hs
    unfold returned
    split
    · exact samplesSound_lossSent (l := _) hu rfl
    · exact hu
  | stop => exact samplesSound_of_flight rfl rfl hs
  | notified => exact samplesSound_of_flight rfl rfl hs
  | flow _ _ hflow => exact hflow hs
  | link _ _ hlink => exact hlink hs
  | @note _ _ p => cases p <;> exact hs
  | @port _ _ p => cases p <;> exact hs
  | _ => exact hs

/-! ### The window and the ring (R65, R98) -/

theorem act_windowSound (h : Act c s₀ a s t) (hs : WindowSound s.hcu) : WindowSound t.hcu := by
  cases h with
  | reset =>
    obtain ⟨-, -, hh, -⟩ := resetAll_link s
    rw [hh]
    decide
  | tick _ h => obtain rfl := tick_eq h; exact hs
  | start _ _ _ hv => rw [startSurvey_eq s hv]; exact hs
  | journal _ h => rw [h.beside.hcu]; exact hs
  | @generatorOff _ u _ h =>
    have hu : WindowSound u.hcu := by rw [h.beside.hcu]; exact hs
    unfold returned
    split <;> exact hu
  | flow _ hw => exact hw hs
  | @note _ _ p => cases p <;> exact hs
  | @port _ _ p => cases p <;> exact hs
  | _ => exact hs

theorem act_ringSound (h : Act c s₀ a s t) (hs : RingSound s.cap) : RingSound t.cap := by
  cases h with
  | reset =>
    obtain ⟨-, -, -, -, hc⟩ := resetAll_link s
    rw [hc]
    decide
  | tick _ h => obtain rfl := tick_eq h; exact hs
  | start _ _ _ hv => rw [startSurvey_eq s hv]; exact hs
  | journal _ h => rw [h.beside.cap]; exact hs
  | @generatorOff _ u _ h =>
    have hu : RingSound u.cap := by rw [h.beside.cap]; exact hs
    unfold returned
    split <;> exact hu
  | cap _ hr => exact hr hs
  | @note _ _ p => cases p <;> exact hs
  | @port _ _ p => cases p <;> exact hs
  | _ => exact hs

/-! ### O56 -/

/-- What every act of a command keeps when the command began with it, and what does not see the queue of waiting commands, every
step keeps. -/
theorem step_keeps_from {X : State → Prop}
    (hact : ∀ {c : Instr} {s₀ : State}, X s₀ → ∀ {a : Bool} {s t : State}, Act c s₀ a s t → X s → X t)
    (hq : ∀ s rest, X s → X { s with pending := rest }) (h : step s = .next t) (hs : X s) : X t := by
  obtain rfl | ⟨c, rest, -, hrun⟩ := step_run h
  · exact hs
  · exact hrun.keeps (hact (hq s rest hs)) (hq s rest hs)

theorem step_keeps {X : State → Prop} (hact : ∀ {c : Instr} {s₀ : State} {a : Bool} {s t : State}, Act c s₀ a s t → X s → X t)
    (hq : ∀ s rest, X s → X { s with pending := rest }) (h : step s = .next t) (hs : X s) : X t :=
  step_keeps_from (fun _ => hact) hq h hs

/-- Settles O56. -/
theorem everyStepKeepsTheRanges : Obligations.EveryStepKeepsTheRanges := fun _ _ h =>
  ⟨step_keeps (X := fun s => SettingsSound (settingsOf s)) act_settingsSound (fun _ _ => id) h,
    step_keeps act_linkSound (fun _ _ => id) h, step_keeps act_samplesSound (fun _ _ => id) h,
    step_keeps (X := fun s => WindowSound s.hcu) act_windowSound (fun _ _ => id) h,
    step_keeps (X := fun s => RingSound s.cap) act_ringSound (fun _ _ => id) h⟩

end Sys2Proof.Machine

/-! The journal's bookkeeping, the cursors and the time-step table (O57). -/

namespace Sys2Proof.Machine

open Sys2Proof

variable {c : Instr} {s₀ s t : State} {a : Bool}

/-! ### The store (R17, R21, R22) -/

/-- The records, the numbers and the slots of the store are as they were. -/
def sameStore (j j' : JournalUnit) : Prop :=
  j'.records = j.records ∧ j'.tailSeq = j.tailSeq ∧ j'.headSeq = j.headSeq ∧ j'.tailSlot = j.tailSlot ∧ j'.headSlot = j.headSlot ∧
    j'.free = j.free

theorem sameStore_refl (j : JournalUnit) : sameStore j j := ⟨rfl, rfl, rfl, rfl, rfl, rfl⟩

theorem journalSound_of_sameStore {j j' : JournalUnit} (h : sameStore j j') (hj : JournalSound j) : JournalSound j' := by
  obtain ⟨h1, h2, h3, h4, h5, h6⟩ := h
  rwa [JournalSound, h1, h2, h3, h4, h5, h6]

theorem journalSound_reclaimed {n : Nat} {j : JournalUnit} (hn : n ≤ j.records.length) (h : JournalSound j) :
    JournalSound (reclaimed n j) := by
  obtain ⟨h1, h2, h3, h4, h5, h6⟩ := h
  have hslots := usedSlots_take_add_drop n j.records
  refine ⟨Nat.le_add_right_of_le h1, ?_, ?_, ?_, Nat.mod_lt _ (by decide), ?_⟩
  · show j.headSeq = j.tailSeq + n + (j.records.drop n).length
    rw [List.length_drop, h2]
    omega
  · show (j.records.drop n).map Record.seq = List.range' (j.tailSeq + n) (j.records.drop n).length
    rw [List.map_drop, h3, List.drop_range', List.length_drop, Nat.mul_one]
  · show j.free + usedSlots (j.records.take n) + usedSlots (j.records.drop n) = 8192
    omega
  · show j.headSlot = ((j.tailSlot + usedSlots (j.records.take n)) % 8192 + usedSlots (j.records.drop n)) % 8192
    omega

theorem journalSound_placeRecord {b : Body} {test : Bool} {o : Origin} (hfree : bodySlots b ≤ s.journal.free)
    (h : JournalSound s.journal) : JournalSound (placeRecord b test o s).journal := by
  obtain ⟨h1, h2, h3, h4, h5, h6⟩ := h
  have hslots : usedSlots (s.journal.records ++ [newRecord b test o s]) = usedSlots s.journal.records + bodySlots b := by
    rw [usedSlots_append, usedSlots_cons, usedSlots_nil, Nat.add_zero]
    rfl
  refine ⟨h1, ?_, ?_, ?_, h5, ?_⟩
  · show s.journal.headSeq + 1 = s.journal.tailSeq + (s.journal.records ++ [newRecord b test o s]).length
    simp only [List.length_append, List.length_singleton]
    omega
  · show (s.journal.records ++ [newRecord b test o s]).map Record.seq =
      List.range' s.journal.tailSeq (s.journal.records ++ [newRecord b test o s]).length
    rw [List.map_append, h3, List.length_append, List.length_singleton, List.range'_1_concat, ← h2]
    rfl
  · show s.journal.free - bodySlots b + usedSlots (s.journal.records ++ [newRecord b test o s]) = 8192
    omega
  · show (s.journal.headSlot + bodySlots b) % 8192 = (s.journal.tailSlot + usedSlots (s.journal.records ++ [newRecord b test o s])) % 8192
    omega

/-- The cursors and the responses are as they were. -/
def sameCursors (s t : State) : Prop := ∀ p, (t.port p).cursor = (s.port p).cursor ∧ (t.port p).response = (s.port p).response

theorem sameCursors_raiseBoth (f : Flag) (s : State) : sameCursors s (raiseBoth f s) := fun p => by
  rw [raiseBoth, State.bothPorts_port]
  exact ⟨rfl, rfl⟩

/-- An act of an append reclaims the oldest records, places one, or leaves the store and the cursors as they were. -/
theorem JournalAct.store (h : JournalAct s t) :
    (∃ n ≤ s.journal.records.length, (s.journal.records.take n).all (reclaimable (holdPoint s)) = true ∧
      t = (s.setJournal (reclaimed n s.journal)).bothPorts (pushCursor (s.journal.tailSeq + n))) ∨
    (∃ b test o, bodySlots b ≤ s.journal.free ∧ t = placeRecord b test o s) ∨
    sameStore s.journal t.journal ∧ sameCursors s t := by
  cases h with
  | reclaim h =>
    obtain ⟨n, hn, hall, -, e⟩ := applyPlan_of_planHere h
    exact .inl ⟨n, hn, hall, e⟩
  | @place _ b test o h => exact .inr (.inl ⟨b, test, o, h, rfl⟩)
  | yields n =>
    refine .inr (.inr ⟨by rw [journal_yieldJob]; exact sameStore_refl _, ?_⟩)
    obtain e | ⟨k, l, -, e⟩ := yieldJob_shape n s <;> rw [e]
    · exact fun _ => ⟨rfl, rfl⟩
    · exact fun p => by cases p <;> exact ⟨rfl, rfl⟩
  | low =>
    refine .inr (.inr ?_)
    unfold checkLow
    split
    · split
      · exact ⟨sameStore_refl _, fun p => by cases p <;> exact ⟨rfl, rfl⟩⟩
      · exact ⟨sameStore_refl _, fun p => ⟨rfl, rfl⟩⟩
    · exact ⟨sameStore_refl _, fun p => by cases p <;> exact ⟨rfl, rfl⟩⟩
  | lost k => exact .inr (.inr ⟨by cases k <;> exact sameStore_refl _, fun p => by cases p <;> exact ⟨rfl, rfl⟩⟩)
  | counted => exact .inr (.inr ⟨sameStore_refl _, fun p => by cases p <;> exact ⟨rfl, rfl⟩⟩)
  | stop => exact .inr (.inr ⟨sameStore_refl _, fun p => by cases p <;> exact ⟨rfl, rfl⟩⟩)

theorem appends_journalSound (h : Appends s t) (hs : JournalSound s.journal) : JournalSound t.journal := by
  induction h with
  | refl => exact hs
  | tail _ hact ih =>
    obtain ⟨n, hn, -, rfl⟩ | ⟨b, test, o, hfree, rfl⟩ | ⟨hsame, -⟩ := hact.store
    · exact journalSound_reclaimed hn ih
    · exact journalSound_placeRecord hfree ih
    · exact journalSound_of_sameStore hsame ih

theorem resetAll_journal (s : State) : (resetAll s).journal = JournalUnit.reset ∧ (resetAll s).comp = ComposerUnit.reset ∧
    (resetAll s).survey = State.reset.survey ∧ (resetAll s).det = State.reset.det ∧ (resetAll s).agg = State.reset.agg := by
  unfold resetAll
  split <;> exact ⟨rfl, rfl, rfl, rfl, rfl⟩

theorem returned_journal (s : State) : (returned s).journal = s.journal ∧ (returned s).comp = s.comp ∧
    (returned s).survey = s.survey := by
  unfold returned
  split <;> exact ⟨rfl, rfl, rfl⟩

theorem returned_port (s : State) (p : Port) : (returned s).port p = s.port p := by
  unfold returned
  split <;> cases p <;> rfl

/-- A set SUPERSEDED bit changes no number and no slot (R33). -/
theorem journalSound_supersede (n : Nat) (h : JournalSound s.journal) : JournalSound (supersede n s).journal := by
  have hseq : ∀ l : List Record, (l.map fun r => if r.seq = n then { r with superseded := true } else r).map Record.seq =
      l.map Record.seq := fun l => by
    rw [List.map_map]
    exact List.map_congr_left fun r _ => by simp only [Function.comp_apply]; split <;> rfl
  have hslots : ∀ l : List Record, usedSlots (l.map fun r => if r.seq = n then { r with superseded := true } else r) = usedSlots l :=
    fun l => by
      rw [usedSlots, List.map_map]
      exact congrArg List.sum (List.map_congr_left fun r _ => by simp only [Function.comp_apply]; split <;> rfl)
  simp only [supersede, State.setJournal_journal, JournalSound, hseq, hslots, List.length_map]
  exact h

/-- The mark of a start takes one slot: its site id is padded to its field (R17, R210). -/
theorem slots_surveyStart {site : List Byte} {x : MarkBody} (hx : ∃ d h f m y z, x = .surveyStart site d h f m y z)
    (hs : site.length ≤ 16) : bodySlots (.mark x) = 1 := by
  obtain ⟨d, h, f, m, y, z, rfl⟩ := hx
  simp [bodySlots, bodyLen, markLen, slotsFor, Config.headerBytes, Config.slotBytes, Nat.max_eq_right hs]

theorem act_journalSound (h : Act c s₀ a s t) (hs : JournalSound s.journal) : JournalSound t.journal := by
  cases h with
  | reset =>
    obtain ⟨hj, -⟩ := resetAll_journal s
    rw [hj]
    decide
  | tick _ h => obtain rfl := tick_eq h; exact hs
  | start _ _ _ hv =>
    rw [startSurvey_eq s hv]
    refine ⟨le_rfl, rfl, rfl, ?_, Nat.zero_lt_succ _, ?_⟩ <;>
      simp [Record.slots, slots_surveyStart ⟨_, _, _, _, _, _, rfl⟩ hv]
  | clear => exact ⟨le_rfl, rfl, rfl, rfl, Nat.zero_lt_succ _, rfl⟩
  | journal _ h => exact appends_journalSound h hs
  | @generatorOff _ u _ h =>
    rw [(returned_journal u).1]
    exact appends_journalSound h hs
  | supersede => exact journalSound_supersede _ hs
  | @note _ _ p => cases p <;> exact hs
  | @port _ _ p => cases p <;> exact hs
  | _ => exact hs

/-! ### The cursors (R33) -/

theorem deliveryWithin_iff {n : Nat} {u : PortUnit} : deliveryWithin n u = true ↔
    ∀ r, u.response = some r → ∀ cursor first count, r.delivery = .readNext cursor first count →
      r.kind = some .readNext ∧ first + count ≤ n := by
  unfold deliveryWithin
  rcases hu : u.response with _ | ⟨code, body, kind, delivery, done⟩
  · simp
  · cases delivery <;> simp

theorem deliveryWithin_mono {m n : Nat} (hmn : m ≤ n) {u : PortUnit} (h : deliveryWithin m u = true) : deliveryWithin n u = true := by
  rw [deliveryWithin_iff] at h ⊢
  intro r hr cursor first count hd
  obtain ⟨hk, hle⟩ := h r hr cursor first count hd
  exact ⟨hk, hle.trans hmn⟩

/-- The response of a READ_NEXT is discarded with its kind, so no delivery is left (R3, R7). -/
theorem deliveryWithin_restartPort {m n : Nat} {u : PortUnit} (h : deliveryWithin m u = true) : deliveryWithin n (restartPort u) = true := by
  rw [deliveryWithin_iff] at h ⊢
  intro r hr cursor first count hd
  rw [restartPort_eq] at hr
  split at hr
  · simp at hr
  · rename_i hk
    have := (h r hr cursor first count hd).1
    simp [show u.response = some r from hr, this] at hk

theorem pushCursor_cursor (n : Nat) (u : PortUnit) : (pushCursor n u).cursor = max n u.cursor ∧ (pushCursor n u).response = u.response := by
  unfold pushCursor
  split
  · exact ⟨by show n = _; omega, rfl⟩
  · exact ⟨by omega, rfl⟩

theorem deliveryWithin_congr {n : Nat} {u v : PortUnit} (h : v.response = u.response) : deliveryWithin n v = deliveryWithin n u := by
  simp only [deliveryWithin, h]

theorem cursorSound_of_same (hj : t.journal.tailSeq = s.journal.tailSeq ∧ t.journal.headSeq = s.journal.headSeq) (hc : sameCursors s t)
    (h : CursorSound s) : CursorSound t := fun p => by
  obtain ⟨hcur, hresp⟩ := hc p
  obtain ⟨htail, hhead⟩ := hj
  rw [htail, hhead, hcur, deliveryWithin_congr hresp]
  exact h p

theorem appends_cursorSound (h : Appends s t) (hj : JournalSound s.journal) (hs : CursorSound s) : CursorSound t := by
  induction h with
  | refl => exact hs
  | @tail u v hpath hact ih =>
    obtain ⟨n, hn, -, rfl⟩ | ⟨b, test, o, hfree, rfl⟩ | ⟨hsame, hcur⟩ := hact.store
    · obtain ⟨-, hlen, -⟩ := appends_journalSound hpath hj
      intro p
      obtain ⟨h1, h2, h3⟩ := ih p
      obtain ⟨hc, hr⟩ := pushCursor_cursor (u.journal.tailSeq + n) (u.port p)
      rw [State.bothPorts_port, State.setJournal_port, hc, deliveryWithin_congr hr]
      refine ⟨?_, ?_, h3⟩
      · show u.journal.tailSeq + n ≤ _
        omega
      · show _ ≤ u.journal.headSeq
        omega
    · intro p
      obtain ⟨h1, h2, h3⟩ := ih p
      have hport : ((placeRecord b test o u).port p).cursor = (u.port p).cursor ∧
          ((placeRecord b test o u).port p).response = (u.port p).response := by cases p <;> exact ⟨rfl, rfl⟩
      rw [hport.1, deliveryWithin_congr hport.2]
      exact ⟨h1, Nat.le_succ_of_le h2, deliveryWithin_mono (Nat.le_succ _) h3⟩
    · obtain ⟨-, htail, hhead, -⟩ := hsame
      exact cursorSound_of_same ⟨htail, hhead⟩ hcur ih

theorem act_cursorSound (h : Act c s₀ a s t) (hj : JournalSound s.journal) (hs : CursorSound s) : CursorSound t := by
  cases h with
  | reset =>
    obtain ⟨hj, -⟩ := resetAll_journal s
    intro p
    rw [hj]
    unfold resetAll
    split <;> cases p <;> exact ⟨le_rfl, le_rfl, rfl⟩
  | tick _ h =>
    obtain rfl := tick_eq h
    exact cursorSound_of_same ⟨rfl, rfl⟩ (fun p => by cases p <;> exact ⟨rfl, rfl⟩) hs
  | start _ _ _ hv =>
    rw [startSurvey_eq s hv]
    intro p
    have hwithin : deliveryWithin 2 (restartPort (s.port p)) = true := deliveryWithin_restartPort (hs p).2.2
    cases p <;> exact ⟨le_rfl, Nat.le_succ 1, hwithin⟩
  | clear =>
    intro p
    have hwithin : deliveryWithin 1 (restartPort (s.port p)) = true := deliveryWithin_restartPort (hs p).2.2
    cases p <;> exact ⟨le_rfl, le_rfl, hwithin⟩
  | journal _ h => exact appends_cursorSound h hj hs
  | @generatorOff _ u _ h =>
    have hu : CursorSound u :=
      appends_cursorSound h hj (cursorSound_of_same (s := s) ⟨rfl, rfl⟩ (fun p => by cases p <;> exact ⟨rfl, rfl⟩) hs)
    intro p
    rw [(returned_journal u).1, returned_port]
    exact hu p
  | @port _ _ p u hu =>
    intro q
    by_cases hpq : q = p
    · subst hpq
      rw [State.setPort_port]
      have := hu.within hj hs
      cases q <;> exact this
    · have hq : (s.setPort p u).port q = s.port q := by
        cases p <;> cases q <;> first | rfl | exact absurd rfl hpq
      rw [hq]
      have := hs q
      cases p <;> exact this
  | @note _ _ p => cases p <;> exact cursorSound_of_same (s := s) ⟨rfl, rfl⟩ (fun p => by cases p <;> exact ⟨rfl, rfl⟩) hs
  | _ => exact cursorSound_of_same (s := s) ⟨rfl, rfl⟩ (fun p => by cases p <;> exact ⟨rfl, rfl⟩) hs

end Sys2Proof.Machine

/-! The stop sequence's record and the time-step table (O57, O58). -/

namespace Sys2Proof.Machine

open Sys2Proof

variable {c : Instr} {s₀ s t : State} {a : Bool}

/-! ### The stop sequence (R5) -/

theorem within_iff (x y : Blocks) : x.within y = true ↔ (x.detector = true → y.detector = true) ∧
    (x.capture = true → y.capture = true) ∧ (x.aggregator = true → y.aggregator = true) ∧ (x.generator = true → y.generator = true) := by
  obtain ⟨a, b, c, d⟩ := x
  cases a <;> cases b <;> cases c <;> cases d <;> simp [Blocks.within, and_assoc]

/-- The blocks that are done: nothing of them is open. -/
def detectorRests (s : State) : Prop := detectorDone s.det = true ∧ s.det.stopTaken = false

theorem others_within_iff (y : Blocks) (s : State) : y.others.within (blockDone s) = true ↔
    (y.detector = false → detectorRests s) ∧ (y.capture = false → s.cap.capturing = false) ∧
    (y.aggregator = false → s.agg.current = none) ∧ (y.generator = false → s.gen.running = false) := by
  simp [within_iff, Blocks.others, blockDone, detectorRests]

theorem allDone_iff (s : State) : blockDone s = ⟨true, true, true, true⟩ ↔
    detectorRests s ∧ s.cap.capturing = false ∧ s.agg.current = none ∧ s.gen.running = false := by
  simp [blockDone, detectorRests]

/-- A block that was done and may not open stays done, so the record stays sound where the blocks move. -/
theorem stopSound_of_blocks (hsur : t.survey = s.survey) (hfl : t.flight.stopNotices.within s.flight.stopNotices = true)
    (ht : t.det.stopTaken = true → s.det.stopTaken = true)
    (hd : detectorDone s.det = true → detectorDone t.det = true ∨ mayOpen Blocks.detector s)
    (hc : t.cap.capturing = true → s.cap.capturing = true ∨ mayOpen Blocks.capture s)
    (ha : t.agg.current ≠ none → s.agg.current ≠ none ∨ mayOpen Blocks.aggregator s)
    (hg : t.gen.running = true → s.gen.running = true ∨ mayOpen Blocks.generator s) (h : StopSound s) : StopSound t := by
  obtain ⟨h1, h2, h3, h4, h5, h6⟩ := h
  have htaken : s.det.stopTaken = false → t.det.stopTaken = false := fun e => by
    by_contra hne
    exact absurd (e.symm.trans (ht (by simpa using hne))) (by decide)
  have hrest : detectorRests s → ¬ mayOpen Blocks.detector s → detectorRests t := fun ⟨r1, r2⟩ ho =>
    ⟨(hd r1).resolve_right ho, htaken r2⟩
  have hcap : s.cap.capturing = false → ¬ mayOpen Blocks.capture s → t.cap.capturing = false := fun e ho => by
    by_contra hne
    obtain hn | hn := hc (by simpa using hne)
    · simp [e] at hn
    · exact ho hn
  have hagg : s.agg.current = none → ¬ mayOpen Blocks.aggregator s → t.agg.current = none := fun e ho => by
    by_contra hne
    exact (ha hne).elim (fun hn => hn e) ho
  have hgen : s.gen.running = false → ¬ mayOpen Blocks.generator s → t.gen.running = false := fun e ho => by
    by_contra hne
    obtain hn | hn := hg (by simpa using hne)
    · simp [e] at hn
    · exact ho hn
  rw [StopSound, hsur]
  refine ⟨h1, fun hp => ?_, ?_, fun hst => ?_, fun hp => ?_, fun hst => ?_⟩
  · obtain ⟨hy, hn, hst⟩ := h2 hp
    exact ⟨hy, within_empty (hn ▸ hfl), htaken hst⟩
  · rw [within_iff] at hfl h3 ⊢
    obtain ⟨f1, f2, f3, f4⟩ := hfl
    obtain ⟨g1, g2, g3, g4⟩ := h3
    exact ⟨g1 ∘ f1, g2 ∘ f2, g3 ∘ f3, g4 ∘ f4⟩
  · obtain ⟨hy, hn⟩ := h4 (ht hst)
    refine ⟨hy, ?_⟩
    by_contra hne
    exact absurd (hn.symm.trans (((within_iff _ _).1 hfl).1 (by simpa using hne))) (by decide)
  · -- The stop is pending: a block that has left the set may not open any more.
    have closed : ∀ block : Blocks → Bool, block s.survey.yetToFinish = false → ¬ mayOpen block s := fun block hb ⟨_, ho⟩ => by
      obtain ho | ho := ho
      · exact hp ho
      · simp [hb] at ho
    have := h5 hp
    rw [others_within_iff] at this ⊢
    obtain ⟨w1, w2, w3, w4⟩ := this
    exact ⟨fun e => hrest (w1 e) (closed _ e), fun e => hcap (w2 e) (closed _ e), fun e => hagg (w3 e) (closed _ e),
      fun e => hgen (w4 e) (closed _ e)⟩
  · have closed : ∀ block : Blocks → Bool, ¬ mayOpen block s := fun _ ⟨hr, _⟩ => hst hr
    have := h6 hst
    rw [allDone_iff] at this ⊢
    obtain ⟨w1, w2, w3, w4⟩ := this
    exact ⟨hrest w1 (closed _), hcap w2 (closed _), hagg w3 (closed _), hgen w4 (closed _)⟩

/-- A change that leaves every capture block leaves the record sound. -/
theorem stopSound_of_same (hsur : t.survey = s.survey) (hfl : t.flight.stopNotices = s.flight.stopNotices) (hd : t.det = s.det)
    (hc : t.cap = s.cap) (ha : t.agg = s.agg) (hg : t.gen = s.gen) (h : StopSound s) : StopSound t :=
  stopSound_of_blocks hsur (hfl ▸ within_refl _) (fun e => hd ▸ e) (fun e => .inl (hd.symm ▸ e)) (fun e => .inl (hc ▸ e))
    (fun e => .inl (ha ▸ e)) (fun e => .inl (hg ▸ e)) h

theorem stopSound_beginStop {why : StopPending} (hr : s.running = true) (hw : why ≠ .none) (h : StopSound s) :
    StopSound (beginStop why s) := by
  obtain ⟨hst, hp⟩ := (running_iff s).1 hr
  obtain ⟨-, -, htaken⟩ := h.2.1 hp
  refine ⟨fun _ => hst, fun e => absurd e hw, rfl, fun e => ?_, fun _ => ?_, fun e => absurd hst e⟩
  · exact absurd (htaken.symm.trans e) (by decide)
  · rw [others_within_iff]
    exact ⟨fun e => (Bool.false_ne_true e.symm).elim, fun e => (Bool.false_ne_true e.symm).elim, fun e => (Bool.false_ne_true e.symm).elim,
      fun e => (Bool.false_ne_true e.symm).elim⟩

theorem appends_stopSound (h : Appends s t) (hs : StopSound s) : StopSound t := by
  induction h with
  | refl => exact hs
  | tail _ hact ih =>
    obtain ⟨hsur, hfl⟩ | ⟨hrun, why, hw, rfl⟩ := hact.survey
    · have hb := hact.beside
      exact stopSound_of_same hsur (congrArg Flight.stopNotices hfl) hb.det hb.cap hb.agg hb.gen ih
    · exact stopSound_beginStop hrun hw ih

theorem returned_blocks (s : State) : (returned s).survey = s.survey ∧ (returned s).flight.stopNotices = s.flight.stopNotices ∧
    (returned s).det = s.det ∧ (returned s).cap = s.cap ∧ (returned s).agg = s.agg ∧ (returned s).gen = s.gen := by
  unfold returned
  split <;> exact ⟨rfl, rfl, rfl, rfl, rfl, rfl⟩

/-- No stop is pending outside RUNNING. -/
theorem StopSound.notPending (h : StopSound s) (hs : s.survey.state ≠ .running) : s.survey.stopPending = .none := by
  by_contra hp
  exact hs (h.1 hp)

theorem stopSound_stopped (hp : s.survey.stopPending ≠ .none) (hy : s.survey.yetToFinish = .empty) (h : StopSound s) :
    StopSound (surveyStopped s) := by
  obtain ⟨-, -, h3, h4, h5, -⟩ := h
  rw [hy] at h3 h4
  have hdone := h5 hp
  rw [others_within_iff, hy] at hdone
  obtain ⟨w1, w2, w3, w4⟩ := hdone
  have hn : s.flight.stopNotices = .empty := within_empty h3
  refine ⟨fun e => absurd rfl e, fun _ => ⟨hy, hn, (w1 rfl).2⟩, ?_, fun e => ?_, fun e => absurd rfl e, fun _ => ?_⟩
  · exact (congrArg (Blocks.within · _) hn).trans rfl
  · exact absurd (h4 e).1 (by decide)
  · exact (allDone_iff _).2 ⟨w1 rfl, w2 rfl, w3 rfl, w4 rfl⟩

theorem stopSound_notified (hn : s.flight.stopNotices.detector = true) (h : StopSound s) : StopSound (detectorNotified s) := by
  obtain ⟨h1, h2, h3, -, h5, h6⟩ := h
  have hp : s.survey.stopPending ≠ .none := fun e => by simp [(h2 e).2.1, Blocks.empty] at hn
  have hyet : s.survey.yetToFinish.detector = true := ((within_iff _ _).1 h3).1 hn
  refine ⟨h1, fun e => absurd e hp, ?_, fun _ => ⟨hyet, rfl⟩, fun _ => ?_, fun e => absurd (h1 hp) e⟩
  · rw [within_iff] at h3 ⊢
    exact ⟨fun e => absurd e (by simp [detectorNotified, leaveDetector]), h3.2⟩
  · have := h5 hp
    rw [others_within_iff] at this ⊢
    exact ⟨fun e => absurd (hyet.symm.trans e) (by decide), this.2⟩

theorem act_stopSound (h0 : StopSound s₀) (h : Act c s₀ a s t) (hs : StopSound s) : StopSound t := by
  cases h with
  | reset =>
    obtain ⟨-, -, hsur, hd, ha⟩ := resetAll_journal s
    obtain ⟨-, hg, -, hf, hc⟩ := resetAll_link s
    exact stopSound_of_same hsur (congrArg Flight.stopNotices hf) hd hc ha hg (s := State.reset) (by decide)
  | tick _ h =>
    obtain rfl := tick_eq h
    exact hs
  | start _ hr _ hv =>
    obtain ⟨hy, hn, ht⟩ := hs.2.1 (hs.notPending hr)
    rw [startSurvey_eq s hv]
    refine ⟨fun e => absurd rfl e, fun _ => ⟨hy, hn, ht⟩, ?_, fun e => ?_, fun e => absurd rfl e, fun e => absurd rfl e⟩
    · exact (congrArg (Blocks.within · _) hn).trans rfl
    · exact absurd (ht.symm.trans e) (by decide)
  | clear _ hst =>
    have hp := hs.notPending (by rw [hst]; decide)
    obtain ⟨hy, hn, ht⟩ := hs.2.1 hp
    obtain ⟨-, -, h3, h4, -, h6⟩ := hs
    exact ⟨fun e => absurd hp e, fun _ => ⟨hy, hn, ht⟩, h3, h4, fun e => absurd hp e, fun _ => h6 (by rw [hst]; decide)⟩
  | journal _ h => exact appends_stopSound h hs
  | @generatorOff _ u _ h =>
    have hoff : StopSound (s.setGen { s.gen with running := false }) :=
      stopSound_of_blocks (s := s) rfl (within_refl _) id .inl .inl .inl (fun e => absurd e (by simp)) hs
    obtain ⟨h1, h2, h3, h4, h5, h6⟩ := returned_blocks u
    exact stopSound_of_same h1 h2 h3 h4 h5 h6 (appends_stopSound h hoff)
  | stop hr hw => exact stopSound_beginStop hr hw hs
  | leave _ hkeep => exact hkeep h0 hs
  | stopped hp hy => exact stopSound_stopped hp hy hs
  | notified hn => exact stopSound_notified hn hs
  | det _ ht hd => exact stopSound_of_blocks (s := s) rfl (within_refl _) ht hd .inl .inl .inl hs
  | cap _ _ hd => exact stopSound_of_blocks (s := s) rfl (within_refl _) id .inl hd .inl .inl hs
  | agg _ _ _ hd => exact stopSound_of_blocks (s := s) rfl (within_refl _) id .inl .inl hd .inl hs
  | flow _ _ _ hn => exact stopSound_of_blocks (s := s) rfl hn id .inl .inl .inl .inl hs
  | link _ _ _ hd hn => exact stopSound_of_blocks (s := s) rfl (hn ▸ within_refl _) id .inl .inl .inl hd hs
  | @note _ _ p => cases p <;> exact hs
  | @port _ _ p => cases p <;> exact hs
  | _ => exact hs

/-! ### Survey time (R8 to R10) -/

theorem stepsSound_mono {l : List TimeStep} {m n : Nat} (hmn : m ≤ n) (h : stepsSound l m = true) : stepsSound l n = true := by
  induction l with
  | nil => rfl
  | cons e rest ih =>
    cases rest with
    | nil =>
      simp only [stepsSound, decide_eq_true_eq] at h ⊢
      exact h.trans hmn
    | cons f more =>
      simp only [stepsSound, Bool.and_eq_true] at h ⊢
      exact ⟨h.1, ih h.2⟩

theorem stepsSound_concat {l : List TimeStep} {n d ms : Nat} (h : stepsSound l n = true) : stepsSound (l ++ [⟨n, d, ms⟩]) n = true := by
  induction l with
  | nil => simp [stepsSound]
  | cons e rest ih =>
    cases rest with
    | nil => simpa [stepsSound] using h
    | cons f more =>
      simp only [List.cons_append, stepsSound, Bool.and_eq_true] at h ih ⊢
      exact ⟨h.1, ih h.2⟩

/-- The time-step table is as it was, and the survey is idle as it was. -/
theorem timeSound_of_same (hc : t.survey.clock = s.survey.clock) (hst : t.survey.steps = s.survey.steps)
    (hi : t.survey.state = .idle ↔ s.survey.state = .idle) (h : TimeSound s) : TimeSound t := by
  obtain ⟨h1, h2, h3, h4, h5⟩ := h
  rw [TimeSound, hc, hst]
  exact ⟨h1, h2, h3, fun e => h4 (hi.1 e), fun e => h5 fun e' => e (hi.2 e')⟩

theorem act_timeSound (hstop : StopSound s) (h : Act c s₀ a s t) (hs : TimeSound s) : TimeSound t := by
  cases h with
  | reset =>
    obtain ⟨-, -, hsur, -⟩ := resetAll_journal s
    rw [TimeSound, hsur]
    decide
  | tick _ h =>
    obtain rfl := tick_eq h
    obtain ⟨h1, h2, h3, h4, h5⟩ := hs
    by_cases hi : s.survey.state = .idle
    · rw [TimeSound]
      simp only [hi, if_true]
      exact ⟨h1, h2, h3, fun _ => h4 hi, fun e => absurd rfl e⟩
    · rw [TimeSound]
      simp only [hi, if_false]
      refine ⟨Nat.min_le_left _ _, h2, stepsSound_mono ?_ h3, fun e => absurd e id, fun _ => h5 hi⟩
      exact le_min h1 (Nat.le_succ _)
  | start _ _ _ hv =>
    rw [startSurvey_eq s hv]
    exact ⟨Nat.zero_le _, by simp, by simp [stepsSound], fun e => absurd e (by simp), fun _ => rfl⟩
  | clear => exact ⟨Nat.zero_le _, Nat.zero_le _, rfl, fun _ => ⟨rfl, rfl⟩, fun e => absurd rfl e⟩
  | journal _ h =>
    have hb := h.beside
    exact timeSound_of_same hb.clock hb.steps (by rw [hb.surveyState]) hs
  | @generatorOff _ u _ h =>
    have hb := h.beside
    have hsur := (returned_journal u).2.2
    exact timeSound_of_same (by rw [hsur, hb.clock]; rfl) (by rw [hsur, hb.steps]; rfl) (by rw [hsur, hb.surveyState]; rfl) hs
  | stopped hp =>
    have hst : s.survey.state = .running := hstop.1 hp
    exact timeSound_of_same (s := s) rfl rfl (by simp [surveyStopped, hst]) hs
  | timeStep _ hi hn =>
    obtain ⟨h1, h2, h3, h4, h5⟩ := hs
    refine ⟨h1, ?_, stepsSound_concat h3, fun e => absurd e hi, fun _ => ?_⟩
    · simpa using hn
    · have := h5 hi
      cases hl : s.survey.steps with
      | nil => simp [hl] at this
      | cons e rest => simpa [hl] using this
  | @note _ _ p => cases p <;> exact hs
  | @port _ _ p => cases p <;> exact hs
  | _ => exact hs

/-! ### O57 -/

/-- Settles O57: the cursors lean on the journal's bookkeeping, the time-step table on the stop sequence's. -/
theorem everyStepKeepsTheJournal : Obligations.EveryStepKeepsTheJournal := fun _ _ h =>
  ⟨step_keeps (X := fun s => JournalSound s.journal) act_journalSound (fun _ _ => id) h,
    fun hj hc => (step_keeps (X := fun s => JournalSound s.journal ∧ CursorSound s)
      (fun hact ⟨hj, hc⟩ => ⟨act_journalSound hact hj, act_cursorSound hact hj hc⟩) (fun _ _ => id) h ⟨hj, hc⟩).2,
    fun hs ht => (step_keeps_from (X := fun s => StopSound s ∧ TimeSound s)
      (fun h0 _ _ _ hact ⟨hs, ht⟩ => ⟨act_stopSound h0.1 hact hs, act_timeSound hs hact ht⟩) (fun _ _ => id) h ⟨hs, ht⟩).2⟩

end Sys2Proof.Machine

/-! The idle survey, the interval's survey, the print queue and the holds (O58). -/

namespace Sys2Proof.Machine

open Sys2Proof

variable {c : Instr} {s₀ s t : State} {a : Bool} {p : Port}

/-! ### The print queue (R154, R157, R159) -/

theorem JournalAct.queue (h : JournalAct s t) : QueueMove s.comp t.comp := by
  cases h with
  | yields n => exact queueMove_yieldJob n s
  | low =>
    unfold checkLow
    split
    · split <;> exact .refl _
    · exact .refl _
  | _ => exact .refl _

theorem appends_queue (h : Appends s t) : QueueMove s.comp t.comp := by
  induction h with
  | refl => exact .refl _
  | tail _ hact ih => exact ih.trans hact.queue

theorem act_queueSound (h : Act c s₀ a s t) (hs : QueueSound s.comp) : QueueSound t.comp := by
  cases h with
  | reset =>
    obtain ⟨-, hc, -⟩ := resetAll_journal s
    rw [hc]
    decide
  | tick _ h => obtain rfl := tick_eq h; exact hs
  | start _ _ _ hv => rw [startSurvey_eq s hv]; exact hs
  | journal _ h => exact (appends_queue h).sound hs
  | @generatorOff _ u _ h =>
    rw [(returned_journal u).2.1]
    exact (appends_queue h).sound hs
  | comp _ hq => exact hq hs
  | @note _ _ p => cases p <;> exact hs
  | @port _ _ p => cases p <;> exact hs
  | _ => exact hs

/-! ### The interval (R111, R118) -/

theorem appends_intervalIdle (h : Appends s t) (hs : IntervalIdle s) : IntervalIdle t := by
  induction h with
  | refl => exact hs
  | tail _ hact ih =>
    rw [IntervalIdle, hact.beside.agg]
    obtain ⟨hsur, -⟩ | ⟨-, why, -, rfl⟩ := hact.survey
    · rw [hsur]
      exact ih
    · exact ⟨ih.1, fun _ e => absurd e (by simp [beginStop, allBlocks])⟩

theorem act_intervalIdle (h : Act c s₀ a s t) (hs : IntervalIdle s) : IntervalIdle t := by
  cases h with
  | reset =>
    obtain ⟨-, -, hsur, -, hagg⟩ := resetAll_journal s
    rw [IntervalIdle, hsur, hagg]
    decide
  | tick _ h => obtain rfl := tick_eq h; exact hs
  | start _ _ _ hv =>
    rw [startSurvey_eq s hv]
    exact ⟨fun _ => rfl, fun _ _ => rfl⟩
  | clear _ hst => exact ⟨fun _ => hs.1 (by rw [hst]; decide), hs.2⟩
  | journal _ h => exact appends_intervalIdle h hs
  | @generatorOff _ u _ h =>
    obtain ⟨hsur, -, -, -, hagg, -⟩ := returned_blocks u
    rw [IntervalIdle, hsur, hagg]
    exact appends_intervalIdle h hs
  | stop => exact ⟨hs.1, fun _ e => absurd e (by simp [beginStop, allBlocks])⟩
  | leave _ _ hg =>
    refine ⟨hs.1, fun hp hy => (hg hy).elim (hs.2 hp) id⟩
  | stopped hp hy =>
    have hnone : s.agg.current = none := hs.2 hp (by rw [hy]; rfl)
    exact ⟨fun _ => hnone, fun _ _ => hnone⟩
  | agg _ _ _ hd =>
    refine ⟨fun hst => ?_, fun hp hy => ?_⟩
    · by_contra hne
      obtain h | h := hd hne
      · exact h (hs.1 hst)
      · exact hst h.1
    · by_contra hne
      obtain h | ⟨-, h | h⟩ := hd hne
      · exact h (hs.2 hp hy)
      · exact hp h
      · exact absurd (hy.symm.trans h) (by decide)
  | @note _ _ p => cases p <;> exact hs
  | @port _ _ p => cases p <;> exact hs
  | _ => exact hs

/-! ### The holds (R24, R154) -/

theorem lowerHold_le_left (n : Nat) (y : Option Nat) : ∃ m, lowerHold (some n) y = some m ∧ m ≤ n := by
  cases y with
  | none => exact ⟨n, rfl, le_rfl⟩
  | some k => exact ⟨min n k, rfl, Nat.min_le_left _ _⟩

theorem lowerHold_le_right (x : Option Nat) (n : Nat) : ∃ m, lowerHold x (some n) = some m ∧ m ≤ n := by
  cases x with
  | none => exact ⟨n, rfl, le_rfl⟩
  | some k => exact ⟨min k n, rfl, Nat.min_le_right _ _⟩

/-- No hold lies below the hold point. -/
theorem holdPoint_le {j : Job} {n : Nat} (hj : j ∈ s.comp.queue) (hn : j.hold = some n) : ∃ m, holdPoint s = some m ∧ m ≤ n := by
  unfold holdPoint
  generalize s.comp.queue = q at hj
  induction q with
  | nil => simp at hj
  | cons i rest ih =>
    rw [List.map_cons, List.foldr_cons]
    obtain rfl | hj := List.mem_cons.1 hj
    · rw [hn]
      exact lowerHold_le_left n _
    · obtain ⟨m, hm, hle⟩ := ih hj
      rw [hm]
      obtain ⟨k, hk, hkm⟩ := lowerHold_le_right i.hold m
      exact ⟨k, hk, hkm.trans hle⟩

/-- The records that a plan reclaims lie below every hold, so no hold is left below the tail. -/
theorem tail_le_hold {j : Job} {n h : Nat} (hjs : JournalSound s.journal) (hn : n ≤ s.journal.records.length)
    (hall : (s.journal.records.take n).all (reclaimable (holdPoint s)) = true) (hj : j ∈ s.comp.queue) (hh : j.hold = some h)
    (hle : s.journal.tailSeq ≤ h) : s.journal.tailSeq + n ≤ h := by
  obtain ⟨m, hm, hmh⟩ := holdPoint_le hj hh
  obtain ⟨-, -, hseq, -⟩ := hjs
  -- The n-th reclaimed record has number tail + n - 1.
  cases n with
  | zero => exact hle
  | succ k =>
    have hk : k < s.journal.records.length := hn
    have hmem : s.journal.records[k] ∈ s.journal.records.take (k + 1) := by
      rw [List.mem_take_iff_getElem]
      exact ⟨k, by simp; omega, rfl⟩
    have hlt := List.all_eq_true.1 hall _ hmem
    simp only [reclaimable, hm, decide_eq_true_eq] at hlt
    have hnum : (s.journal.records[k]).seq = s.journal.tailSeq + k := by
      have h1 : (s.journal.records.map Record.seq)[k]'(by simpa using hk) = (s.journal.records[k]).seq := List.getElem_map _
      rw [← h1]
      simp [hseq]
    omega

theorem appends_holdsSound (h : Appends s t) (hj : JournalSound s.journal) (hq : QueueSound s.comp) (hs : HoldsSound s) :
    HoldsSound t := by
  induction h with
  | refl => exact hs
  | @tail u v hpath hact ih =>
    have hju := appends_journalSound hpath hj
    have hqu := (appends_queue hpath).sound hq
    obtain ⟨n, hn, hall, rfl⟩ | ⟨b, test, o, hfree, rfl⟩ | ⟨⟨-, htail, hhead, -⟩, -⟩ := hact.store
    · intro j hmem hhold
      obtain ⟨h, hh⟩ := Option.isSome_iff_exists.1 hhold
      obtain ⟨h1, h2⟩ := ih j hmem hhold
      rw [hh] at h1 ⊢
      exact ⟨tail_le_hold hju hn hall hmem hh h1, h2⟩
    · intro j hmem hhold
      obtain ⟨h1, h2⟩ := ih j hmem hhold
      exact ⟨h1, Nat.lt_succ_of_lt h2⟩
    · intro j' hmem hhold
      obtain ⟨j, hj, hsome, hle, hlast⟩ := hact.queue.holds hqu j' hmem hhold
      obtain ⟨h1, h2⟩ := ih j hj hsome
      rw [htail, hhead]
      exact ⟨h1.trans hle, hlast ▸ h2⟩

theorem act_holdsSound (h0 : IdleEmpty s₀) (h : Act c s₀ a s t) (hj : JournalSound s.journal) (hq : QueueSound s.comp)
    (hs : HoldsSound s) : HoldsSound t := by
  cases h with
  | reset =>
    obtain ⟨-, hc, -⟩ := resetAll_journal s
    intro j hmem
    rw [hc] at hmem
    exact absurd hmem (by simp [ComposerUnit.reset])
  | tick _ h => obtain rfl := tick_eq h; exact hs
  | start _ _ hempty hv =>
    rw [startSurvey_eq s hv]
    intro j hmem
    rw [show _ = s.comp.queue from rfl, hempty h0] at hmem
    exact absurd hmem (by simp)
  | clear _ _ hempty =>
    intro j hmem
    rw [show (clearSurvey s).comp.queue = s.comp.queue from rfl, hempty] at hmem
    exact absurd hmem (by simp)
  | journal _ h => exact appends_holdsSound h hj hq hs
  | @generatorOff _ u _ h =>
    obtain ⟨hjo, hco, -⟩ := returned_journal u
    rw [HoldsSound, hjo, hco]
    exact appends_holdsSound h hj hq hs
  | comp _ _ hh => exact hh hj hq hs
  | @note _ _ p => cases p <;> exact hs
  | @port _ _ p => cases p <;> exact hs
  | _ => exact hs

/-! ### The idle survey (R1) -/

/-- A command that neither clears the survey nor resets the part leaves a survey that is not IDLE so; what it appends, it appends in
a survey. -/
theorem act_idleEmpty (hc : c ≠ .powerOn ∧ c ≠ .resetPin ∧ ∀ p, c ≠ .surveyClear p) (h0 : StopSound s₀) (h : Act c s₀ a s t)
    (hs : (s₀.survey.state ≠ .idle → s.survey.state ≠ .idle) ∧ IdleEmpty s) :
    (s₀.survey.state ≠ .idle → t.survey.state ≠ .idle) ∧ IdleEmpty t := by
  obtain ⟨hlive, hidle⟩ := hs
  cases h with
  | reset hcmd => exact (hcmd.elim hc.1 hc.2.1).elim
  | tick _ h => obtain rfl := tick_eq h; exact ⟨hlive, hidle⟩
  | start _ _ _ hv =>
    rw [startSurvey_eq s hv]
    exact ⟨fun _ => by simp, fun e => absurd e (by simp)⟩
  | clear hcmd => exact absurd hcmd (hc.2.2 _)
  | journal live h =>
    have hstate := h.beside.surveyState
    have := hlive (live h0)
    exact ⟨fun _ => hstate ▸ this, fun e => absurd (hstate ▸ e) this⟩
  | @generatorOff _ u live h =>
    have hstate : (returned u).survey.state = s.survey.state := by rw [(returned_journal u).2.2, h.beside.surveyState]; rfl
    have := hlive (live h0)
    exact ⟨fun _ => hstate ▸ this, fun e => absurd (hstate ▸ e) this⟩
  | supersede =>
    refine ⟨hlive, fun e => ?_⟩
    obtain ⟨h1, h2, h3⟩ := hidle e
    exact ⟨by simp [supersede, h1], h2, h3⟩
  | stopped => exact ⟨fun _ => by simp [surveyStopped], fun e => absurd e (by simp [surveyStopped])⟩
  | comp hi =>
    refine ⟨hlive, fun e => ?_⟩
    obtain ⟨h1, h2, h3⟩ := hidle e
    exact ⟨h1, h2, hi e h3⟩
  | @note _ _ p => cases p <;> exact ⟨hlive, hidle⟩
  | @port _ _ p => cases p <;> exact ⟨hlive, hidle⟩
  | _ => exact ⟨hlive, hidle⟩

theorem respond_frame (p : Port) (k : RequestKind) (code : ResultCode) (body : List Word) (s : State) :
    (respond p k code body s).survey = s.survey ∧ (respond p k code body s).journal = s.journal ∧
      (respond p k code body s).comp = s.comp := by
  cases p <;> exact ⟨rfl, rfl, rfl⟩

theorem idleEmpty_respond {k : RequestKind} {code : ResultCode} {body : List Word} (h : IdleEmpty s) :
    IdleEmpty (respond p k code body s) := by
  obtain ⟨h1, h2, h3⟩ := respond_frame p k code body s
  rw [IdleEmpty, h1, h2, h3]
  exact h

theorem idleEmpty_withdrawn (h : IdleEmpty s) : IdleEmpty (withdrawn p s) := by cases p <;> exact h

theorem idleEmpty_surveyClear (h : exec (.surveyClear p) s = .next t) (hs : IdleEmpty s) : IdleEmpty t := by
  simp only [exec, execSurveyClear, Host.Outcome.next.injEq] at h
  subst h
  by_cases hw : ∃ body, waits p .surveyClear body s
  · obtain ⟨body, hw⟩ := hw
    have hwd : IdleEmpty (withdrawn p s) := idleEmpty_withdrawn hs
    rw [takeRequest_of_waits _ hw]
    split
    · exact idleEmpty_respond hwd
    · split
      · exact idleEmpty_respond hwd
      · split
        · exact idleEmpty_respond hwd
        · rename_i hq
          exact idleEmpty_respond fun _ => ⟨rfl, rfl, not_not.1 hq⟩
  · rw [takeRequest_of_other _ (not_exists.1 hw)]
    exact hs

theorem exec_idleEmpty (h0 : StopSound s) (h : exec c s = .next t) (hs : IdleEmpty s) : IdleEmpty t := by
  have reset : IdleEmpty (resetAll s) := fun _ => by
    obtain ⟨hj, hc, -⟩ := resetAll_journal s
    rw [hj, hc]
    exact ⟨rfl, rfl, rfl⟩
  by_cases hc : c ≠ .powerOn ∧ c ≠ .resetPin ∧ ∀ p, c ≠ .surveyClear p
  · exact ((run_exec h).keeps (X := fun u => (s.survey.state ≠ .idle → u.survey.state ≠ .idle) ∧ IdleEmpty u)
      (fun hact => act_idleEmpty hc h0 hact) ⟨id, hs⟩).2
  · by_cases h1 : c = .powerOn
    · subst h1
      obtain rfl := Host.Outcome.next.inj h
      exact reset
    by_cases h2 : c = .resetPin
    · subst h2
      obtain rfl := Host.Outcome.next.inj h
      exact reset
    · have h3 : ∃ p, c = .surveyClear p := by
        by_contra hno
        exact hc ⟨h1, h2, fun p e => hno ⟨p, e⟩⟩
      obtain ⟨p, rfl⟩ := h3
      exact idleEmpty_surveyClear h hs

theorem step_idleEmpty (h0 : StopSound s) (h : step s = .next t) (hs : IdleEmpty s) : IdleEmpty t := by
  unfold step at h
  split at h
  · obtain rfl := Host.Outcome.next.inj h
    exact hs
  · rename_i rest _
    exact exec_idleEmpty (s := { s with pending := rest }) h0 h hs

/-! ### O58 -/

/-- Settles O58. -/
theorem everyStepKeepsSurveyAndQueue : Obligations.EveryStepKeepsSurveyAndQueue := fun s _ h =>
  ⟨fun h0 hi => ⟨step_keeps_from (X := StopSound) (fun h0 _ _ _ hact => act_stopSound h0 hact) (fun _ _ => id) h h0,
      step_idleEmpty h0 h hi⟩,
    step_keeps (X := IntervalIdle) act_intervalIdle (fun _ _ => id) h,
    step_keeps (X := fun s => QueueSound s.comp) act_queueSound (fun _ _ => id) h,
    fun hj hi hq hh => by
      obtain rfl | ⟨c, rest, -, hrun⟩ := step_run h
      · exact hh
      · exact (hrun.keeps (X := fun s => JournalSound s.journal ∧ QueueSound s.comp ∧ HoldsSound s)
          (fun hact ⟨hj, hq, hh⟩ => ⟨act_journalSound hact hj, act_queueSound hact hq, act_holdsSound (s₀ := { s with pending := rest }) hi hact hj hq hh⟩)
          ⟨hj, hq, hh⟩).2.2⟩

end Sys2Proof.Machine

/-! Intervals, ports, supply, presence, printer line and notes (O59). -/

namespace Sys2Proof.Machine

open Sys2Proof

variable {c : Instr} {s₀ s t : State} {a : Bool} {p : Port}

/-! ### Intervals (R111 to R121) -/

/-- The interval's length is in its range in either form of the interval. -/
theorem length_of_intervalSound {g : AggregatorUnit} (h : intervalSound g = true) : 15 ≤ g.length := by
  unfold intervalSound at h
  split at h
  all_goals first | (simp only [Bool.and_eq_true, decide_eq_true_eq] at h; tauto) | exact absurd h (by decide)

theorem act_intervalSound (hc : ∀ p, c ≠ .postFrame p) (h : Act c s₀ a s t) (hs : intervalSound s.agg = true) :
    intervalSound t.agg = true := by
  cases h with
  | reset =>
    obtain ⟨-, -, -, -, hagg⟩ := resetAll_journal s
    rw [hagg]
    decide
  | tick _ h => obtain rfl := tick_eq h; exact hs
  | start _ _ _ hv =>
    rw [startSurvey_eq s hv]
    show (decide (15 ≤ s.agg.length) && _ && _ && _ && _ && _ && _ && _ && _) = true
    rw [decide_eq_true (length_of_intervalSound hs)]
    rfl
  | journal _ h => rw [h.beside.agg]; exact hs
  | @generatorOff _ u _ h =>
    obtain ⟨-, -, -, -, hagg, -⟩ := returned_blocks u
    rw [hagg, h.beside.agg]
    exact hs
  | agg _ hi => exact (hi.resolve_left fun ⟨p, e⟩ => hc p e) hs
  | @note _ _ p => cases p <;> exact hs
  | @port _ _ p => cases p <;> exact hs
  | _ => exact hs

theorem step_intervalSound (h : step s = .next t) (hs : intervalSound s.agg = true) : intervalSound t.agg = true := by
  unfold step at h
  split at h
  · obtain rfl := Host.Outcome.next.inj h
    exact hs
  · rename_i c rest _
    by_cases hc : ∃ p, c = .postFrame p
    · obtain ⟨p, rfl⟩ := hc
      exact intervalSound_postFrame h hs
    · exact (run_exec h).keeps (X := fun s => intervalSound s.agg = true) (act_intervalSound (not_exists.1 hc)) hs

theorem act_accumulatorsSound (h : Act c s₀ a s t) (hs : AccumulatorsSound s.agg) : AccumulatorsSound t.agg := by
  have hreset : AccumulatorsSound AggregatorUnit.reset := by decide
  cases h with
  | reset =>
    obtain ⟨-, -, -, -, hagg⟩ := resetAll_journal s
    rw [hagg]
    exact hreset
  | tick _ h => obtain rfl := tick_eq h; exact hs
  | start _ _ _ hv => rw [startSurvey_eq s hv]; exact hreset
  | journal _ h => rw [h.beside.agg]; exact hs
  | @generatorOff _ u _ h =>
    obtain ⟨-, -, -, -, hagg, -⟩ := returned_blocks u
    rw [hagg, h.beside.agg]
    exact hs
  | agg _ _ ha => exact ha hs
  | @note _ _ p => cases p <;> exact hs
  | @port _ _ p => cases p <;> exact hs
  | _ => exact hs

/-! ### Ports (R194 to R208) -/

theorem portSound_pushCursor (n : Nat) {u : PortUnit} (h : PortSound u) : PortSound (pushCursor n u) := by
  unfold pushCursor
  split
  · refine portSound_raiseOn .loss ?_
    obtain ⟨h1, h2, h3, h4, h5, h6, -, h8⟩ := h
    exact ⟨h1, h2, h3, h4, h5, h6, Nat.min_le_left _ _, h8⟩
  · exact h

theorem portSound_restartPort {u : PortUnit} (h : PortSound u) : PortSound (restartPort u) := by
  rw [restartPort_eq]
  obtain ⟨h1, h2, h3, h4, h5, h6, -, h8⟩ := h
  refine ⟨h1, h2, h3, ?_, ?_, h6, Nat.zero_le _, h8⟩
  · show u.waiting = none ∨ _ = none
    split
    · exact .inr rfl
    · exact h4
  · intro hf
    replace hf : (if u.response.map Response.kind == some (some .readNext) then false else u.fetchDue) = true := hf
    show ¬ _ = none
    split
    · rename_i hk
      rw [if_pos hk] at hf
      exact absurd hf (by decide)
    · rename_i hk
      rw [if_neg hk] at hf
      exact h5 hf

/-- Both ports are sound. -/
def portsSound (s : State) : Prop := PortSound s.portA ∧ PortSound s.portB

theorem portsSound_bothPorts {f : PortUnit → PortUnit} (hf : ∀ u, PortSound u → PortSound (f u)) (h : portsSound s) :
    portsSound (s.bothPorts f) := ⟨hf _ h.1, hf _ h.2⟩

theorem portsSound_raiseBoth (f : Flag) (h : portsSound s) : portsSound (raiseBoth f s) :=
  portsSound_bothPorts (fun _ => portSound_raiseOn f) h

theorem appends_portsSound (h : Appends s t) (hs : portsSound s) : portsSound t := by
  induction h with
  | refl => exact hs
  | @tail u v _ hact ih =>
    cases hact with
    | reclaim h =>
      obtain ⟨n, -, -, -, e⟩ := applyPlan_of_planHere h
      rw [e]
      exact portsSound_bothPorts (fun _ => portSound_pushCursor _) ih
    | yields n =>
      obtain e | ⟨k, l, -, e⟩ := yieldJob_shape n u <;> rw [e]
      · exact ih
      · exact portsSound_raiseBoth _ ih
    | low =>
      unfold checkLow
      split
      · split
        · exact portsSound_raiseBoth _ ih
        · exact ih
      · exact ih
    | lost => exact portsSound_raiseBoth _ ih
    | _ => exact ih

theorem act_portsSound (h : Act c s₀ a s t) (hs : portsSound s) : portsSound t := by
  cases h with
  | reset =>
    have hreset : PortSound PortUnit.reset := by decide
    unfold resetAll
    split
    · exact portsSound_raiseBoth _ ⟨hreset, hreset⟩
    · exact ⟨hreset, hreset⟩
  | tick _ h => obtain rfl := tick_eq h; exact hs
  | start _ _ _ hv =>
    rw [startSurvey_eq s hv]
    exact ⟨portSound_restartPort hs.1, portSound_restartPort hs.2⟩
  | clear => exact ⟨portSound_restartPort hs.1, portSound_restartPort hs.2⟩
  | journal _ h => exact appends_portsSound h hs
  | @generatorOff _ u _ h =>
    have hu : portsSound u := appends_portsSound h hs
    unfold returned
    split <;> exact hu
  | @port _ _ p u hu =>
    cases p
    · exact ⟨hu.sound hs.1, hs.2⟩
    · exact ⟨hs.1, hu.sound hs.2⟩
  | @note _ _ p => cases p <;> exact hs
  | _ => exact hs

/-! ### The kit lines (R129 to R138) -/

theorem act_supplySound (h : Act c s₀ a s t) (hs : SupplySound s.kit) : SupplySound t.kit := by
  cases h with
  | reset =>
    unfold resetAll kitAfterReset
    cases s.kit.faultActive
    · exact ⟨rfl, fun e => absurd e Bool.false_ne_true⟩
    · exact ⟨rfl, fun _ => rfl⟩
  | tick _ h => obtain rfl := tick_eq h; exact hs
  | start _ _ _ hv => rw [startSurvey_eq s hv]; exact hs
  | journal _ h => rw [h.beside.kit]; exact hs
  | @generatorOff _ u _ h =>
    have hu : SupplySound u.kit := by rw [h.beside.kit]; exact hs
    unfold returned
    split <;> exact hu
  | kit _ hk => exact hk hs
  | @note _ _ p => cases p <;> exact hs
  | @port _ _ p => cases p <;> exact hs
  | _ => exact hs

theorem presenceSound_tick {k : KitUnit} (h : PresenceSound k) :
    PresenceSound { k with timers := .ofFn fun c => tickTimer (k.timers.get c) } := fun i => by
  obtain ⟨h1, h2, h3⟩ := h i
  refine ⟨h1, ?_, ?_⟩
  · show ((Eight.ofFn fun c => tickTimer (k.timers.get c)).get i).isSome = _
    rw [eight_get_ofFn, tickTimer, Option.isSome_map]
    exact h2
  · show ((Eight.ofFn fun c => tickTimer (k.timers.get c)).get i).getD 0 ≤ 50
    rw [eight_get_ofFn, tickTimer]
    cases ht : k.timers.get i with
    | none => simp
    | some n =>
      rw [ht] at h3
      exact (Nat.sub_le _ _).trans h3

/-- The kit lines at reset, a debounce timer started on each line that differs from its settled level (R132). -/
def linesAfterReset (sense : Eight Bool) : KitUnit :=
  { KitUnit.reset with
    sense := sense
    timers := .ofFn fun c => if comparedLevel { KitUnit.reset with sense := sense } c then some Config.debounceMs else none }

theorem presenceSound_linesAfterReset (sense : Eight Bool) : PresenceSound (linesAfterReset sense) := fun i => by
  have hsettled : KitUnit.reset.settled.get i = false := by revert i; decide
  have hpresent : KitUnit.reset.present.get i = false := by revert i; decide
  have htimer : (linesAfterReset sense).timers.get i =
      if comparedLevel { KitUnit.reset with sense := sense } i then some Config.debounceMs else none := eight_get_ofFn _ i
  refine ⟨?_, ?_, ?_⟩
  · show KitUnit.reset.present.get i = (KitUnit.reset.settled.get i && _)
    rw [hsettled, hpresent, Bool.false_and]
  · show _ = (comparedLevel { KitUnit.reset with sense := sense } i != KitUnit.reset.settled.get i)
    rw [htimer, hsettled]
    cases comparedLevel { KitUnit.reset with sense := sense } i <;> rfl
  · rw [htimer]
    cases comparedLevel { KitUnit.reset with sense := sense } i <;> decide

theorem presenceSound_afterReset (k : KitUnit) : PresenceSound (kitAfterReset k) := by
  have h := presenceSound_linesAfterReset k.sense
  unfold kitAfterReset
  cases k.faultActive <;> exact h

theorem act_presenceSound (h : Act c s₀ a s t) (hs : PresenceSound s.kit) : PresenceSound t.kit := by
  cases h with
  | reset =>
    have : (resetAll s).kit = kitAfterReset s.kit := by unfold resetAll; split <;> rfl
    rw [this]
    exact presenceSound_afterReset s.kit
  | tick _ h => obtain rfl := tick_eq h; exact presenceSound_tick hs
  | start _ _ _ hv => rw [startSurvey_eq s hv]; exact hs
  | journal _ h => rw [h.beside.kit]; exact hs
  | @generatorOff _ u _ h =>
    have hu : PresenceSound u.kit := by rw [h.beside.kit]; exact hs
    unfold returned
    split <;> exact hu
  | kit _ _ hk => exact hk hs
  | @note _ _ p => cases p <;> exact hs
  | @port _ _ p => cases p <;> exact hs
  | _ => exact hs

/-! ### The printer line (R181 to R193) -/

theorem lineServes.move {l l' : LineUnit} (h : lineServes l l') : LineMove l l' := by
  obtain rfl | ⟨b, rfl⟩ := h
  · exact .refl _
  · exact lineMove_stopServing b _

theorem JournalAct.lineMove (h : JournalAct s t) : LineMove s.line t.line := by
  cases h with
  | yields n =>
    obtain e | ⟨k, l, hl, e⟩ := yieldJob_shape n s <;> rw [e]
    · exact .refl _
    · exact hl.move
  | low =>
    unfold checkLow
    split
    · split <;> exact .refl _
    · exact .refl _
  | _ => exact .refl _

theorem appends_lineMove (h : Appends s t) : LineMove s.line t.line := by
  induction h with
  | refl => exact .refl _
  | tail _ hact ih => exact ih.trans hact.lineMove

theorem lineSound_tick {l : LineUnit} (h : LineSound l) :
    LineSound { l with
      inquiry := tickTimer l.inquiry, poll := tickTimer l.poll, stall := tickTimer l.stall, brk := tickTimer l.brk } := by
  have hnone : ∀ x : Option Nat, tickTimer x = none ↔ x = none := fun x => by simp [tickTimer]
  simp only [LineSound, ne_eq, hnone]
  exact h

theorem act_lineSound (h : Act c s₀ a s t) (hs : LineSound s.line) : LineSound t.line := by
  cases h with
  | reset =>
    have : (resetAll s).line = { LineUnit.reset with ready := s.line.ready, cts := s.line.cts } := by unfold resetAll; split <;> rfl
    rw [this]
    exact lineSound_of_stopped (Nat.zero_le _) rfl rfl rfl (fun e => absurd rfl e) (fun _ => by contradiction) (fun _ => by contradiction)
      (fun _ => by contradiction)
  | tick _ h => obtain rfl := tick_eq h; exact lineSound_tick hs
  | start _ _ _ hv => rw [startSurvey_eq s hv]; exact hs
  | journal _ h => exact (appends_lineMove h).sound hs
  | @generatorOff _ u _ h =>
    have hu : LineSound u.line := (appends_lineMove h).sound hs
    unfold returned
    split <;> exact hu
  | line _ hl => exact hl hs
  | @note _ _ p => cases p <;> exact hs
  | @port _ _ p => cases p <;> exact hs
  | _ => exact hs

/-! ### Notes (R142 to R146) -/

/-- Both note contexts are sound. -/
def notesSound (s : State) : Prop := noteSound s.noteA = true ∧ noteSound s.noteB = true

theorem act_notesSound (h : Act c s₀ a s t) (hs : notesSound s) : notesSound t := by
  cases h with
  | reset => unfold resetAll; split <;> exact ⟨rfl, rfl⟩
  | tick _ h => obtain rfl := tick_eq h; exact hs
  | start _ _ _ hv => rw [startSurvey_eq s hv]; exact hs
  | journal _ h => rw [notesSound, h.beside.noteA, h.beside.noteB]; exact hs
  | @generatorOff _ u _ h =>
    have hu : notesSound u := by rw [notesSound, h.beside.noteA, h.beside.noteB]; exact hs
    unfold returned
    split <;> exact hu
  | @note _ _ p x hx =>
    cases p
    · exact ⟨hx hs.1, hs.2⟩
    · exact ⟨hs.1, hx hs.2⟩
  | @port _ _ p => cases p <;> exact hs
  | _ => exact hs

/-! ### O59 -/

/-- Settles O59. -/
theorem everyStepKeepsTheUnits : Obligations.EveryStepKeepsTheUnits := fun _ _ h =>
  ⟨step_intervalSound h,
    step_keeps (X := fun s => AccumulatorsSound s.agg) act_accumulatorsSound (fun _ _ => id) h,
    fun hA hB => step_keeps (X := portsSound) act_portsSound (fun _ _ => id) h ⟨hA, hB⟩,
    step_keeps (X := fun s => SupplySound s.kit) act_supplySound (fun _ _ => id) h,
    step_keeps (X := fun s => PresenceSound s.kit) act_presenceSound (fun _ _ => id) h,
    step_keeps (X := fun s => LineSound s.line) act_lineSound (fun _ _ => id) h,
    fun hA hB => step_keeps (X := notesSound) act_notesSound (fun _ _ => id) h ⟨hA, hB⟩⟩

end Sys2Proof.Machine

/-! Rules over all commands: completion, the survey clock and the survey state (O2, O4, O5). -/

namespace Sys2Proof.Machine

open Sys2Proof

variable {c : Instr} {s₀ s t : State} {a : Bool} {p : Port}

/-! ### Completion -/

theorem act_pending (h : Act c s₀ a s t) : t.pending = s.pending := by
  cases h with
  | reset => unfold resetAll; split <;> rfl
  | tick _ h => obtain rfl := tick_eq h; rfl
  | start _ _ _ hv => rw [startSurvey_eq s hv]
  | journal _ h => exact h.beside.pending
  | @generatorOff _ u _ h =>
    have hu : u.pending = s.pending := h.beside.pending
    unfold returned
    split <;> exact hu
  | @note _ _ p => cases p <;> rfl
  | @port _ _ p => cases p <;> rfl
  | _ => rfl

theorem exec_next (c : Instr) (s : State) : ∃ t, exec c s = .next t := by cases c <;> exact ⟨_, rfl⟩

/-- Settles O2. -/
theorem everyCommandCompletes : Obligations.EveryCommandCompletes := fun c s => by
  obtain ⟨t, h⟩ := exec_next c s
  exact ⟨t, h, (run_exec h).keeps (X := fun u => u.pending = s.pending) (fun hact e => (act_pending hact).trans e) rfl⟩

/-! ### SURVEY_START and SURVEY_CLEAR -/

/-- SURVEY_START starts a survey that is not running, or it answers a refusal and nothing more. -/
theorem surveyStart_cases (h : exec (.surveyStart p) s = .next t) : t = s ∨
    (∃ code, t = respond p .surveyStart code [] (withdrawn p s)) ∨
    ∃ v, v.site.length ≤ 16 ∧ s.survey.state ≠ .running ∧ t = respond p .surveyStart .ok [] (startSurvey v (withdrawn p s)) := by
  simp only [exec, execSurveyStart, Host.Outcome.next.injEq] at h
  subst h
  by_cases hw : ∃ body, waits p .surveyStart body s
  · obtain ⟨body, hw⟩ := hw
    refine .inr ?_
    rw [takeRequest_of_waits _ hw]
    split
    · rename_i v _
      split
      · exact .inl ⟨_, rfl⟩
      · split
        · exact .inl ⟨_, rfl⟩
        · rename_i hlen _ hnone
          rw [startRefusal_withdrawn, startRefusal_none_iff] at hnone
          exact .inr ⟨v, by omega, hnone.1, rfl⟩
    · exact .inl ⟨_, rfl⟩
  · exact .inl (takeRequest_of_other _ (not_exists.1 hw))

/-- SURVEY_CLEAR clears a stopped survey, or it answers a refusal and nothing more. -/
theorem surveyClear_cases (h : exec (.surveyClear p) s = .next t) : t = s ∨
    (∃ code, t = respond p .surveyClear code [] (withdrawn p s)) ∨
    (s.survey.state = .stopped ∧ s.comp.queue = [] ∧ t = respond p .surveyClear .ok [] (clearSurvey (withdrawn p s))) := by
  simp only [exec, execSurveyClear, Host.Outcome.next.injEq] at h
  subst h
  by_cases hw : ∃ body, waits p .surveyClear body s
  · obtain ⟨body, hw⟩ := hw
    refine .inr ?_
    rw [takeRequest_of_waits _ hw]
    split
    · exact .inl ⟨_, rfl⟩
    · split
      · exact .inl ⟨_, rfl⟩
      · split
        · exact .inl ⟨_, rfl⟩
        · rename_i hst hq
          exact .inr ⟨by simpa using hst, by simpa using hq, rfl⟩
  · exact .inl (takeRequest_of_other _ (not_exists.1 hw))

/-! ### The survey clock (R8) -/

/-- The commands that begin, clear or reset a survey. -/
def resetsSurvey (c : Instr) : Prop := (∃ p, c = .surveyStart p ∨ c = .surveyClear p) ∨ c = .powerOn ∨ c = .resetPin

theorem act_clock (hc : c ≠ .surveyClockTick) (h : Act c s₀ a s t) :
    t.survey.clock = s.survey.clock ∨ resetsSurvey c ∧ t.survey.clock = 0 := by
  cases h with
  | reset hcmd =>
    obtain ⟨-, -, hsur, -⟩ := resetAll_journal s
    exact .inr ⟨.inr hcmd, by rw [hsur]; rfl⟩
  | tick hcmd => exact absurd hcmd hc
  | start hcmd _ _ hv =>
    rw [startSurvey_eq s hv]
    exact .inr ⟨.inl ⟨_, .inl hcmd⟩, rfl⟩
  | clear hcmd => exact .inr ⟨.inl ⟨_, .inr hcmd⟩, rfl⟩
  | journal _ h => exact .inl h.beside.clock
  | @generatorOff _ u _ h => exact .inl (by rw [(returned_journal u).2.2, h.beside.clock]; rfl)
  | @note _ _ p => cases p <;> exact .inl rfl
  | @port _ _ p => cases p <;> exact .inl rfl
  | _ => exact .inl rfl

/-- Settles O4. -/
theorem surveyClockCountsAndIsNeverStepped : Obligations.SurveyClockCountsAndIsNeverStepped := by
  refine ⟨fun s => rfl, fun c s t hs h => ?_⟩
  by_cases hc : c = .surveyClockTick
  · subst hc
    obtain rfl := tick_eq h
    refine .inl ⟨rfl, ?_⟩
    split
    · exact (hs.2.2.2.1 ‹_›).1
    · rfl
  · have hclock := (run_exec h).keeps (X := fun u => u.survey.clock = s.survey.clock ∨ resetsSurvey c ∧ u.survey.clock = 0)
      (fun hact hs => (act_clock hc hact).elim (fun e => by rw [e]; exact hs) .inr) (.inl rfl)
    exact hclock.elim (fun e => .inr (.inr ⟨hc, e⟩)) fun e => .inr (.inl e)

/-! ### The survey state (R1) -/

theorem stoppedNow_of_stopSound (h : StopSound t) (hst : t.survey.state = .stopped) : t.survey.stopPending = .none ∧
    t.survey.yetToFinish = ⟨false, false, false, false⟩ ∧ blockDone t = ⟨true, true, true, true⟩ := by
  have hne : t.survey.state ≠ .running := by rw [hst]; decide
  have hp := h.notPending hne
  obtain ⟨-, h2, -, -, -, h6⟩ := h
  exact ⟨hp, (h2 hp).1, h6 hne⟩

/-- Of the commands that neither begin, clear nor reset a survey, only one that completes a stop changes the survey's state. -/
theorem act_surveyState (hc : ¬ resetsSurvey c) (h0 : StopSound s₀) (h : Act c s₀ a s t) : t.survey.state = s.survey.state ∨
    s₀.survey.stopPending ≠ .none ∧ t.survey.state = .stopped := by
  cases h with
  | reset hcmd => exact absurd (.inr hcmd) hc
  | tick _ h => obtain rfl := tick_eq h; exact .inl rfl
  | start hcmd => exact absurd (.inl ⟨_, .inl hcmd⟩) hc
  | clear hcmd => exact absurd (.inl ⟨_, .inr hcmd⟩) hc
  | journal _ h => exact .inl h.beside.surveyState
  | @generatorOff _ u _ h => exact .inl (by rw [(returned_journal u).2.2, h.beside.surveyState]; rfl)
  | stopped _ _ hp => exact .inr ⟨hp h0, rfl⟩
  | @note _ _ p => cases p <;> exact .inl rfl
  | @port _ _ p => cases p <;> exact .inl rfl
  | _ => exact .inl rfl

/-- Settles O5: a start, a clear and a reset by their own equations, every other command by its acts. -/
theorem surveyStateChangesOnFourEvents : Obligations.SurveyStateChangesOnFourEvents := fun c s t h0 h hne => by
  by_cases hc : resetsSurvey c
  · obtain ⟨p, rfl | rfl⟩ | hc := hc
    · refine .inl ⟨⟨p, rfl⟩, ?_⟩
      obtain rfl | ⟨code, rfl⟩ | ⟨v, hv, hr, rfl⟩ := surveyStart_cases h
      · exact absurd rfl hne
      · exact absurd (by rw [(respond_frame p _ _ _ _).1, withdrawn_survey]) hne
      · rw [(respond_frame p _ _ _ _).1, startSurvey_eq _ hv]
        exact ⟨hr, rfl, rfl⟩
    · refine .inr (.inr (.inl ⟨⟨p, rfl⟩, ?_⟩))
      obtain rfl | ⟨code, rfl⟩ | ⟨hst, -, rfl⟩ := surveyClear_cases h
      · exact absurd rfl hne
      · exact absurd (by rw [(respond_frame p _ _ _ _).1, withdrawn_survey]) hne
      · rw [(respond_frame p _ _ _ _).1]
        exact ⟨hst, rfl⟩
    · refine .inr (.inr (.inr ⟨hc, ?_⟩))
      have ht : t = resetAll s := by obtain rfl | rfl := hc <;> exact (Host.Outcome.next.inj h).symm
      rw [ht, (resetAll_journal s).2.2.1]
      rfl
  · obtain ⟨hsound, hstate⟩ := (run_exec h).keeps (X := fun u => StopSound u ∧
        (u.survey.state = s.survey.state ∨ s.survey.stopPending ≠ .none ∧ u.survey.state = .stopped))
      (fun hact ⟨hu, hs⟩ => ⟨act_stopSound h0 hact hu, (act_surveyState hc h0 hact).elim (fun e => by rw [e]; exact hs) .inr⟩)
      ⟨h0, .inl rfl⟩
    obtain e | ⟨hp, hst⟩ := hstate
    · exact absurd e hne
    · exact .inr (.inl ⟨h0.1 hp, hp, hst, stoppedNow_of_stopSound hsound hst⟩)

end Sys2Proof.Machine

/-! Stored records, cursors and flags change by their rules alone (O13, O14). -/

namespace Sys2Proof.Machine

open Sys2Proof

variable {c : Instr} {s₀ s t : State} {a : Bool} {p : Port} {r : Record}

/-! ### Stored records (R18, R31) -/

/-- Where a stored record can be later: unchanged, reclaimed, or superseded by NOTE_PART. -/
def recordStays (c : Instr) (r : Record) (s : State) : Prop :=
  r ∈ s.journal.records ∨ r.seq < s.journal.tailSeq ∨
    (r.kind = .note ∧ (∃ p, c = .notePart p) ∧ { r with superseded := true } ∈ s.journal.records)

/-- A record is kept by a reclaim, or its number is below the new tail. -/
theorem mem_reclaimed {n : Nat} (hj : JournalSound s.journal) (hr : r ∈ s.journal.records) :
    r ∈ (reclaimed n s.journal).records ∨ r.seq < (reclaimed n s.journal).tailSeq := by
  rw [← List.take_append_drop n s.journal.records] at hr
  refine (List.mem_append.1 hr).symm.imp_right fun hr => ?_
  obtain ⟨-, -, hseq, -⟩ := hj
  have hmem : r.seq ∈ (s.journal.records.map Record.seq).take n := by
    rw [← List.map_take]
    exact List.mem_map_of_mem hr
  rw [hseq, List.mem_take_iff_getElem] at hmem
  obtain ⟨i, hi, e⟩ := hmem
  rw [List.getElem_range'] at e
  show r.seq < s.journal.tailSeq + n
  omega

theorem recordStays_appends (hj : JournalSound s.journal) (h : Appends s t) (hs : recordStays c r s) : recordStays c r t := by
  induction h with
  | refl => exact hs
  | @tail u v hpath hact ih =>
    have hju := appends_journalSound hpath hj
    obtain ⟨n, -, -, rfl⟩ | ⟨b, test, o, hfree, rfl⟩ | ⟨⟨hrec, htail, -⟩, -⟩ := hact.store
    · obtain h | h | ⟨hk, hc, h⟩ := ih
      · exact (mem_reclaimed hju h).imp_right .inl
      · exact .inr (.inl (Nat.lt_add_right n h))
      · exact (mem_reclaimed hju h).elim (fun h => .inr (.inr ⟨hk, hc, h⟩)) fun h => .inr (.inl h)
    · exact ih.imp (List.mem_append_left _) (.imp_right fun ⟨hk, hc, h⟩ => ⟨hk, hc, List.mem_append_left _ h⟩)
    · rw [recordStays, hrec, htail]
      exact ih

theorem act_recordStays (hc : ¬ resetsSurvey c) (h0 : JournalSound s₀.journal) (hj : JournalSound s.journal) (h : Act c s₀ a s t)
    (hs : recordStays c r s) : recordStays c r t := by
  cases h with
  | reset hcmd => exact absurd (.inr hcmd) hc
  | tick _ h => obtain rfl := tick_eq h; exact hs
  | start hcmd => exact absurd (.inl ⟨_, .inl hcmd⟩) hc
  | clear hcmd => exact absurd (.inl ⟨_, .inr hcmd⟩) hc
  | journal _ h => exact recordStays_appends hj h hs
  | @generatorOff _ u _ h =>
    rw [recordStays, (returned_journal u).1]
    exact recordStays_appends (by exact hj) h (by exact hs)
  | @supersede _ _ n hcmd hk =>
    have hmap : ∀ {x : Record}, x ∈ s.journal.records →
        (if x.seq = n then { x with superseded := true } else x) ∈ (supersede n s).journal.records := fun hx =>
      List.mem_map.2 ⟨_, hx, rfl⟩
    obtain h | h | ⟨hkind, hcmd', h⟩ := hs
    · have := hmap h
      split at this
      · rename_i hn
        exact .inr (.inr ⟨hk h0 r h hn, hcmd, this⟩)
      · exact .inl this
    · exact .inr (.inl h)
    · have := hmap h
      refine .inr (.inr ⟨hkind, hcmd', ?_⟩)
      split at this <;> exact this
  | @note _ _ p => cases p <;> exact hs
  | @port _ _ p => cases p <;> exact hs
  | _ => exact hs

/-! ### Held records (R24) -/

/-- The journal holds record r as it was stored, but for its SUPERSEDED bit. -/
def recordHeld (r : Record) (s : State) : Prop :=
  ∃ r' ∈ s.journal.records, r'.seq = r.seq ∧ r'.body = r.body ∧ r'.surveyMs = r.surveyMs ∧ r'.origin = r.origin

/-- Under PRINT_FIRST with the hold point at h, record r is held. -/
def heldUnder (h : Nat) (r : Record) (s : State) : Prop :=
  s.journal.policy = .printFirst ∧ holdPoint s = some h ∧ recordHeld r s

theorem heldUnder_appends {h : Nat} (hr : h ≤ r.seq) (hact : Appends s t) (hs : heldUnder h r s) : heldUnder h r t := by
  induction hact with
  | refl => exact hs
  | @tail u v _ hact ih =>
    obtain ⟨hpol, hpoint, r', hmem, hseq, hrest⟩ := ih
    cases hact with
    | reclaim hplan =>
      obtain ⟨n, hn, hall, -, e⟩ := applyPlan_of_planHere hplan
      rw [e]
      refine ⟨hpol, hpoint, r', ?_, hseq, hrest⟩
      show r' ∈ u.journal.records.drop n
      rw [← List.take_append_drop n u.journal.records] at hmem
      refine (List.mem_append.1 hmem).resolve_left fun hgone => ?_
      have := List.all_eq_true.1 hall r' hgone
      simp only [reclaimable, hpoint, decide_eq_true_eq] at this
      omega
    | yields n hp => exact absurd (hp.symm.trans hpol) (by decide)
    | place => exact ⟨hpol, hpoint, r', List.mem_append_left _ hmem, hseq, hrest⟩
    | low =>
      unfold checkLow
      split
      · split <;> exact ⟨hpol, hpoint, r', hmem, hseq, hrest⟩
      · exact ⟨hpol, hpoint, r', hmem, hseq, hrest⟩
    | lost k => cases k <;> exact ⟨hpol, hpoint, r', hmem, hseq, hrest⟩
    | counted => exact ⟨hpol, hpoint, r', hmem, hseq, hrest⟩
    | stop => exact ⟨hpol, hpoint, r', hmem, hseq, hrest⟩

theorem recordHeld_supersede {n : Nat} (hs : recordHeld r s) : recordHeld r (supersede n s) := by
  obtain ⟨r', hmem, h⟩ := hs
  refine ⟨_, List.mem_map.2 ⟨r', hmem, rfl⟩, ?_⟩
  split <;> exact h

theorem act_heldUnder {h : Nat} (hc : ¬ resetsSurvey c) (hr : h ≤ r.seq) (hact : Act c s₀ true s t) (hs : heldUnder h r s) :
    heldUnder h r t := by
  cases hact with
  | reset hcmd => exact absurd (.inr hcmd) hc
  | tick _ h => obtain rfl := tick_eq h; exact hs
  | start hcmd => exact absurd (.inl ⟨_, .inl hcmd⟩) hc
  | clear hcmd => exact absurd (.inl ⟨_, .inr hcmd⟩) hc
  | journal _ h => exact heldUnder_appends hr h hs
  | @generatorOff _ u _ h =>
    have hu : heldUnder _ r u := heldUnder_appends hr h (by exact hs)
    unfold returned
    split <;> exact hu
  | supersede => exact ⟨hs.1, hs.2.1, recordHeld_supersede hs.2.2⟩
  | @note _ _ p => cases p <;> exact hs
  | @port _ _ p => cases p <;> exact hs
  | _ => exact hs

/-- Once a command appends no more, no record leaves. -/
theorem act_recordHeld (hc : ¬ resetsSurvey c) (hact : Act c s₀ false s t) (hs : recordHeld r s) : recordHeld r t := by
  cases hact with
  | reset hcmd => exact absurd (.inr hcmd) hc
  | tick _ h => obtain rfl := tick_eq h; exact hs
  | start hcmd => exact absurd (.inl ⟨_, .inl hcmd⟩) hc
  | clear hcmd => exact absurd (.inl ⟨_, .inr hcmd⟩) hc
  | supersede => exact recordHeld_supersede hs
  | @note _ _ p => cases p <;> exact hs
  | @port _ _ p => cases p <;> exact hs
  | _ => exact hs

/-- What the acts that may append keep, and what the acts after them keep. -/
theorem Run.keeps_phases {X Y : State → Prop} (hX : ∀ {s t : State}, Act c s₀ true s t → X s → X t) (hXY : ∀ {s : State}, X s → Y s)
    (hY : ∀ {s t : State}, Act c s₀ false s t → Y s → Y t) (h : Run c s₀ s t) (hs : X s) : Y t := by
  obtain ⟨u, hsu, hut⟩ := h
  have hu : X u := by
    clear hut
    induction hsu with
    | refl => exact hs
    | tail _ hact ih => exact hX hact ih
  induction hut with
  | refl => exact hXY hu
  | tail _ hact ih => exact hY hact ih

/-- Settles O13: the acts that may append keep the hold point and the policy, so no held record is reclaimed. -/
theorem storedRecordsStay : Obligations.StoredRecordsStay := by
  refine ⟨fun c s t r hj hr h => ?_, fun c s t n r hpol hpoint hr hn h => ?_⟩
  · by_cases hc : resetsSurvey c
    · exact .inl hc
    · exact .inr ((run_exec h).keeps (X := fun u => JournalSound u.journal ∧ recordStays c r u)
        (fun hact ⟨hju, hs⟩ => ⟨act_journalSound hact hju, act_recordStays hc hj hju hact hs⟩) ⟨hj, .inl hr⟩).2
  · by_cases hc : resetsSurvey c
    · obtain hc | hc | hc := hc
      · exact .inl hc
      · exact .inr (.inl hc)
      · exact .inr (.inr (.inl hc))
    · exact .inr (.inr (.inr ((run_exec h).keeps_phases (act_heldUnder hc hn) (fun hs => hs.2.2) (act_recordHeld hc)
        ⟨hpol, hpoint, r, hr, rfl, rfl, rfl, rfl⟩)))

/-! ### Cursors (R33, R36, R38) -/

/-- Cursor p since s: where it was, at or above the tail; or pushed to the tail, which has moved. -/
def cursorMoved (p : Port) (s t : State) : Prop :=
  s.journal.tailSeq ≤ t.journal.tailSeq ∧
    ((t.port p).cursor = (s.port p).cursor ∧ t.journal.tailSeq ≤ (t.port p).cursor ∨
      (t.port p).cursor = t.journal.tailSeq ∧ s.journal.tailSeq < t.journal.tailSeq)

theorem cursorMoved_of_same {u : State} (htail : t.journal.tailSeq = s.journal.tailSeq) (hcur : (t.port p).cursor = (s.port p).cursor)
    (h : cursorMoved p u s) : cursorMoved p u t := by
  rw [cursorMoved, htail, hcur]
  exact h

theorem cursorMoved_appends {u : State} (h : Appends s t) (hs : cursorMoved p u s) : cursorMoved p u t := by
  induction h with
  | refl => exact hs
  | @tail v w hpath hact ih =>
    obtain ⟨n, hn, -, rfl⟩ | ⟨b, test, o, hfree, rfl⟩ | ⟨⟨-, htail, -⟩, hcur⟩ := hact.store
    · obtain ⟨hc, -⟩ := pushCursor_cursor (v.journal.tailSeq + n) (v.port p)
      rw [cursorMoved, State.bothPorts_port, State.setJournal_port, hc]
      obtain ⟨h1, h2⟩ := ih
      show u.journal.tailSeq ≤ v.journal.tailSeq + n ∧ (max (v.journal.tailSeq + n) (v.port p).cursor = (u.port p).cursor ∧
        v.journal.tailSeq + n ≤ max (v.journal.tailSeq + n) (v.port p).cursor ∨
        max (v.journal.tailSeq + n) (v.port p).cursor = v.journal.tailSeq + n ∧ u.journal.tailSeq < v.journal.tailSeq + n)
      omega
    · exact cursorMoved_of_same (s := v) rfl (by cases p <;> rfl) ih
    · exact cursorMoved_of_same htail (hcur p).1 ih

theorem act_cursorMoved {u : State} (hc : ¬ resetsSurvey c) (hp : c ≠ .seek p ∧ c ≠ .fetchComplete p) (h : Act c s₀ a s t)
    (hs : cursorMoved p u s) : cursorMoved p u t := by
  cases h with
  | reset hcmd => exact absurd (.inr hcmd) hc
  | tick _ h => obtain rfl := tick_eq h; cases p <;> exact hs
  | start hcmd => exact absurd (.inl ⟨_, .inl hcmd⟩) hc
  | clear hcmd => exact absurd (.inl ⟨_, .inr hcmd⟩) hc
  | journal _ h => exact cursorMoved_appends h hs
  | @generatorOff _ v _ h =>
    have hv : cursorMoved p u v := cursorMoved_appends h (cursorMoved_of_same (s := s) rfl (by cases p <;> rfl) hs)
    exact cursorMoved_of_same (by rw [(returned_journal v).1]) (by rw [returned_port]) hv
  | @port _ _ q v hv =>
    refine cursorMoved_of_same (s := s) (by cases q <;> rfl) ?_ hs
    by_cases hpq : p = q
    · subst hpq
      rw [State.setPort_port]
      obtain e | e | e := hv.cursor
      · exact e
      · exact absurd e hp.1
      · exact absurd e hp.2
    · cases p <;> cases q <;> first | rfl | exact absurd rfl hpq
  | @note _ _ q => exact cursorMoved_of_same (s := s) (by cases q <;> rfl) (by cases q <;> cases p <;> rfl) hs
  | _ => exact cursorMoved_of_same (s := s) rfl (by cases p <;> rfl) hs

/-- A survey that begins, is cleared or is reset takes each cursor to 1, or leaves it. -/
theorem cursor_of_resetsSurvey (hc : resetsSurvey c) (h : exec c s = .next t) (p : Port) :
    (t.port p).cursor = (s.port p).cursor ∨ (t.port p).cursor = 1 := by
  have answer : ∀ (q : Port) (k : RequestKind) (code : ResultCode) (u : State),
      ((respond q k code [] u).port p).cursor = (u.port p).cursor := fun q k code u => by cases q <;> cases p <;> rfl
  have request : ∀ (q : Port) (u : State), ((withdrawn q u).port p).cursor = (u.port p).cursor := fun q u => by
    cases q <;> cases p <;> rfl
  obtain ⟨q, rfl | rfl⟩ | rfl | rfl := hc
  · obtain rfl | ⟨code, rfl⟩ | ⟨v, hv, -, rfl⟩ := surveyStart_cases h
    · exact .inl rfl
    · exact .inl (by rw [answer, request])
    · refine .inr ?_
      rw [answer, startSurvey_eq _ hv]
      cases p <;> rfl
  · obtain rfl | ⟨code, rfl⟩ | ⟨-, -, rfl⟩ := surveyClear_cases h
    · exact .inl rfl
    · exact .inl (by rw [answer, request])
    · refine .inr ?_
      rw [answer]
      cases p <;> rfl
  all_goals
    obtain rfl := Host.Outcome.next.inj h
    refine .inr ?_
    unfold resetAll
    split <;> cases p <;> rfl

/-! ### Flags (R202, R204) -/

theorem flagSet_restartPort (f : Flag) (u : PortUnit) : flagSet (restartPort u) f = flagSet u f := by
  rw [restartPort_eq]
  rfl

theorem flagSet_pushCursor {f : Flag} {n : Nat} {u : PortUnit} (h : flagSet u f = true) : flagSet (pushCursor n u) f = true := by
  unfold pushCursor
  split
  · exact flagSet_raiseOn _ _ h
  · exact h

theorem flag_raiseBoth {f g : Flag} (h : flagSet (s.port p) f = true) : flagSet ((raiseBoth g s).port p) f = true := by
  rw [raiseBoth, State.bothPorts_port]
  exact flagSet_raiseOn _ _ h

theorem flag_appends {f : Flag} (h : Appends s t) (hs : flagSet (s.port p) f = true) : flagSet (t.port p) f = true := by
  induction h with
  | refl => exact hs
  | @tail u v _ hact ih =>
    cases hact with
    | reclaim h =>
      obtain ⟨n, -, -, -, e⟩ := applyPlan_of_planHere h
      rw [e, State.bothPorts_port, State.setJournal_port]
      exact flagSet_pushCursor ih
    | yields n =>
      obtain e | ⟨k, l, -, e⟩ := yieldJob_shape n u <;> rw [e]
      · exact ih
      · exact flag_raiseBoth (by cases p <;> exact ih)
    | low =>
      unfold checkLow
      split
      · split
        · exact flag_raiseBoth (by cases p <;> exact ih)
        · exact ih
      · cases p <;> exact ih
    | lost => exact flag_raiseBoth (by cases p <;> exact ih)
    | _ => cases p <;> exact ih

/-- No act clears a flag but a completed fetch's, a reset's aside. -/
theorem act_flag {f : Flag} (hc : ∀ q, c ≠ .fetchComplete q) (hr : c ≠ .powerOn ∧ c ≠ .resetPin) (h : Act c s₀ a s t)
    (hs : flagSet (s.port p) f = true) : flagSet (t.port p) f = true := by
  cases h with
  | reset hcmd => exact absurd hcmd (not_or.2 hr)
  | tick _ h => obtain rfl := tick_eq h; cases p <;> exact hs
  | start _ _ _ hv =>
    rw [← flagSet_restartPort f] at hs
    rw [startSurvey_eq s hv]
    cases p <;> exact hs
  | clear =>
    rw [← flagSet_restartPort f] at hs
    cases p <;> exact hs
  | journal _ h => exact flag_appends h hs
  | @generatorOff _ u _ h =>
    rw [returned_port]
    exact flag_appends h (by cases p <;> exact hs)
  | @port _ _ q u hu =>
    by_cases hpq : p = q
    · subst hpq
      rw [State.setPort_port]
      obtain ⟨q, e⟩ | hkeep := hu.flags
      · exact absurd e (hc q)
      · exact hkeep f hs
    · have e : (s.setPort q u).port p = s.port p := by
        cases p <;> cases q <;> first | rfl | exact absurd rfl hpq
      rw [e]
      exact hs
  | @note _ _ q => cases q <;> cases p <;> exact hs
  | _ => cases p <;> exact hs

/-- A completed fetch clears a flag of the set that a STATUS response marked, at its first completion. -/
theorem flag_completeFetch {f : Flag} {u : PortUnit} (hs : flagSet u f = true) (hn : flagSet (completeFetch u) f = false) :
    u.clearSet.getLsbD (flagIndex f) = true ∧
      ∃ r, u.response = some r ∧ r.delivered = false ∧ ∃ x y z, r.delivery = .status x y z := by
  unfold completeFetch at hn
  split at hn
  · split at hn
    · rename_i r hr
      cases hd : r.delivered with
      | true =>
        rw [hd, if_pos rfl] at hn
        exact absurd (hs.symm.trans hn) (by decide)
      | false =>
        rw [hd, if_neg (by decide)] at hn
        cases hdel : r.delivery with
        | nothing => rw [hdel] at hn; exact absurd (hs.symm.trans hn) (by decide)
        | readNext => rw [hdel] at hn; exact absurd (hs.symm.trans hn) (by decide)
        | status x y z =>
          rw [hdel] at hn
          refine ⟨?_, r, hr, hd, x, y, z, hdel⟩
          have hcleared : (u.flags &&& ~~~ u.clearSet).getLsbD (flagIndex f) = false := hn
          have hset : u.flags.getLsbD (flagIndex f) = true := hs
          have hlt : flagIndex f < 8 := by cases f <;> decide
          simpa [BitVec.getLsbD_and, BitVec.getLsbD_not, hset, hlt] using hcleared
    · exact absurd (hs.symm.trans hn) (by decide)
  · exact absurd (hs.symm.trans hn) (by decide)

/-- Settles O14. -/
theorem cursorsAndFlagsChangeOnlyByTheirRules : Obligations.CursorsAndFlagsChangeOnlyByTheirRules := by
  refine ⟨fun c s t p hs h hne => ?_, fun c s t p f h hf hn => ?_⟩
  · by_cases hc : resetsSurvey c
    · exact .inr (.inr (.inr ⟨hc, (cursor_of_resetsSurvey hc h p).resolve_left hne⟩))
    · by_cases hp : c ≠ .seek p ∧ c ≠ .fetchComplete p
      · obtain ⟨-, hmoved⟩ := (run_exec h).keeps (X := fun u => cursorMoved p s u) (act_cursorMoved hc hp)
          ⟨le_rfl, .inl ⟨rfl, (hs p).1⟩⟩
        exact .inr (.inr (.inl (hmoved.resolve_left fun e => hne e.1)))
      · by_cases hseek : c = .seek p
        · exact .inl hseek
        · exact .inr (.inl (by by_contra hf; exact hp ⟨hseek, hf⟩))
  · by_cases hr : c ≠ .powerOn ∧ c ≠ .resetPin
    · by_cases hc : ∃ q, c = .fetchComplete q
      · obtain ⟨q, rfl⟩ := hc
        obtain rfl := Host.Outcome.next.inj h
        by_cases hpq : p = q
        · subst hpq
          rw [State.modPort, State.setPort_port] at hn
          exact .inr (.inr ⟨rfl, flag_completeFetch hf hn⟩)
        · have e : (s.modPort q completeFetch).port p = s.port p := by
            cases p <;> cases q <;> first | rfl | exact absurd rfl hpq
          rw [e, hf] at hn
          exact absurd hn (by decide)
      · have := (run_exec h).keeps (X := fun u => flagSet (u.port p) f = true) (act_flag (not_exists.1 hc) hr) hf
        exact absurd (this.symm.trans hn) (by decide)
    · by_cases hpow : c = .powerOn
      · exact .inl hpow
      · exact .inr (.inl (by by_contra hpin; exact hr ⟨hpow, hpin⟩))

end Sys2Proof.Machine

/-! Settings change by their SETs alone (O26). -/

namespace Sys2Proof.Machine

open Sys2Proof

variable {c : Instr} {s₀ s t u : State} {p : Port} {i : Item} {v : List Word} {x : Settings} {y : Bool}

/-- A command that neither resets the part nor sets an item leaves every setting. -/
theorem settings_of_run (hr : c ≠ .powerOn ∧ c ≠ .resetPin) (hc : ∀ i p, c ≠ setCommand i p) (h : Run c s₀ s t) :
    settingsOf t = settingsOf s :=
  h.keeps (X := fun u => settingsOf u = settingsOf s) (fun hact e => by
    obtain ⟨hcmd, -⟩ | e' | ⟨⟨i, p, hcmd⟩, -⟩ := act_settings hact
    · exact absurd hcmd (not_or.2 hr)
    · exact e'.trans e
    · exact absurd hcmd (hc i p)) rfl

/-- What a changed sync word does to the receiver sets nothing. -/
theorem settings_syncChanged (s : State) : settingsOf (syncChanged s) = settingsOf s :=
  settings_of_run (c := .testFrame) (s₀ := s) (by decide) (fun i p => by cases i <;> simp [setCommand]) (acts_syncChanged rfl).run

theorem settings_checkLimit (s : State) : settingsOf (checkLimit s) = settingsOf s := (appends_checkLimit s).beside.settings

theorem settings_respond (p : Port) (k : RequestKind) (code : ResultCode) (body : List Word) (s : State) :
    settingsOf (respond p k code body s) = settingsOf s := by cases p <;> rfl

theorem settings_withdrawn (p : Port) (s : State) : settingsOf (withdrawn p s) = settingsOf s := by cases p <;> rfl

/-- The owner's act leaves the settings as its table gives them. -/
theorem settings_ownerEffect {changed : Bool} (h : accepts i v (settingsOf u) = some (x, y)) :
    settingsOf (ownerEffect i changed x u) = x := by
  have sync : settingsOf (if changed then syncChanged (withSettings x u) else withSettings x u) = x := by
    split
    · exact settings_syncChanged _
    · rfl
  cases i with
  | syncA => exact sync
  | syncB => exact sync
  | syncF => exact sync
  | bandEdges =>
    obtain ⟨-, rfl⟩ := some_of_ite h
    have hl := sameWindow_changeEdges u.inSurvey (v.map BitVec.toNat) u.hcu
    simp [ownerEffect, withSettings, settingsOf, State.setHcu, hl.2.2.2.2]
  | supply => obtain rfl | rfl := namedOf_some h <;> rfl
  | _ => rfl

/-- The row of a SET changes the settings as `accepts` says, or not at all. -/
theorem settings_applyChange {k : RequestKind} {change : Option SetChange} {P : Settings → Prop}
    (h : ∀ ch u, change = some ch → settingsOf u = settingsOf s → P (settingsOf (ch.effect u))) :
    settingsOf (applyChange p k i change s) = settingsOf s ∨ P (settingsOf (applyChange p k i change s)) := by
  unfold applyChange
  split
  · exact .inl (settings_respond _ _ _ _ _)
  · split
    · exact .inl (settings_respond _ _ _ _ _)
    · rename_i ch
      split
      · split
        · exact .inl (settings_respond _ _ _ _ _)
        · rename_i u hu
          rw [settings_respond, settings_checkLimit]
          exact .inr (h ch u rfl (appends_portAppend hu).beside.settings)
      · rw [settings_respond]
        exact .inr (h ch s rfl rfl)

/-- A SET that names an item has its code as first word. -/
theorem word_of_namedItem {w : Word} (h : namedItem (w :: v) = some i) : w = word (itemCode i) := by
  have hcode : ∀ n, itemOfCode n = some i → n = itemCode i := fun n hn => by
    unfold itemOfCode at hn
    split at hn
    · simp at hn
    · obtain ⟨hlt, rfl⟩ := List.getElem?_eq_some_iff.1 hn
      have : n ≤ 22 := by
        have : allItems.length = 22 := rfl
        omega
      interval_cases n <;> first | contradiction | rfl
  have hof : itemOfCode w.toNat = some i := by
    unfold namedItem at h
    split at h
    · rename_i code _ heq
      obtain ⟨rfl, -⟩ := List.cons.inj heq
      split at h
      · simp at h
      · exact h
    · simp at h
  rw [← BitVec.toNat_inj, hcode _ hof]
  have hle : itemCode i ≤ 22 := by cases i <;> decide
  simp [word]
  omega

theorem settings_set (hi : i ≠ .probe) (h : exec (setCommand i p) s = .next t) : settingsOf t = settingsOf s ∨
    ∃ body, waits p .set (word (itemCode i) :: body) s ∧ ∃ y, accepts i body (settingsOf s) = some (settingsOf t, y) := by
  rw [exec_setCommand hi, Host.Outcome.next.injEq] at h
  subst h
  obtain e | ⟨body, -, -, e⟩ | ⟨w, v, hw, hn, e⟩ := takeSetOf_cases p i (ownerOf i) s
  · exact .inl (congrArg settingsOf e)
  · exact .inl (by rw [e]; cases p <;> rfl)
  · rw [e]
    obtain rfl := word_of_namedItem hn
    by_cases hv : v.length = valueLength i
    · obtain ⟨-, ho⟩ | ⟨x, y, ch, hacc, ho, hch⟩ := ownerOf_answers (s := withdrawn p s) hi hv
      · rw [ho]
        have := settings_applyChange (p := p) (i := i) (k := .set) (s := withdrawn p s) (change := none) (P := fun _ => False)
          (by simp)
        exact .inl ((this.resolve_right id).trans (settings_withdrawn p s))
      · rw [ho]
        obtain h | h := settings_applyChange (p := p) (i := i) (k := .set) (s := withdrawn p s) (change := some ch)
          (P := fun z => z = x) (fun ch' u hch' hu => by
            obtain rfl := Option.some.inj hch'
            obtain ⟨changed, heff, -⟩ := hch.effect u hu
            rw [heff]
            exact settings_ownerEffect (v := v) (y := y) (hu ▸ hacc))
        · exact .inl (h.trans (settings_withdrawn p s))
        · rw [settings_withdrawn] at hacc
          exact .inr ⟨v, hw, y, by rw [hacc]; exact congrArg some (congrArg (·, y) h.symm)⟩
    · rw [ownerOf_of_length hv]
      exact .inl (by cases p <;> rfl)

/-! ### PROBE_SET (R129, R130) -/

/-- An entry put on its channel sets that entry alone. -/
theorem settings_changeEntry {n : Nat} {e : ProbeEntry} (s : State) : settingsOf (changeEntry n e s) = settingsOf s ∨
    settingsOf (changeEntry n e s) = { settingsOf s with entries := s.kit.entries.set n e } := by
  unfold changeEntry
  split
  · exact .inl rfl
  · refine .inr ?_
    have hplace : settingsOf (sendProbeNotice n s.kit (placeEntry n e s.kit) (s.setKit (placeEntry n e s.kit))) =
        { settingsOf s with entries := s.kit.entries.set n e } := by
      have hk : (placeEntry n e s.kit).entries = s.kit.entries.set n e ∧ (placeEntry n e s.kit).supplyOn = s.kit.supplyOn := by
        unfold placeEntry formPresent retime
        split <;> exact ⟨rfl, rfl⟩
      unfold sendProbeNotice
      split <;> simp [settingsOf, State.setKit, hk]
    dsimp only
    split
    · exact hplace
    · rw [announcePresence, (besideAppend_markInRunning _ _).settings]
      exact hplace

/-- A checked entry is the one that its values give, on a channel that may have it. -/
theorem entry_of_checkEntry {q : ProbeValues} {e : ProbeEntry} {b : Bool} (h : checkEntry q = some (e, b)) :
    q.channel ≤ 7 ∧ kindAllowed q.channel e.kind = true ∧ ∃ k, probeKindOfCode q.kind = some k ∧
      e = ⟨k, if k = .voltageLead then some (max 1000 (min 32767 q.level)) else none, k == .voltageLead && q.inDetector,
        q.activeHigh, q.calDue⟩ := by
  unfold checkEntry at h
  split at h
  · rename_i k hk
    split at h
    · rename_i hok
      split at h
      · rename_i hlead
        obtain ⟨rfl, -⟩ := Prod.mk.inj (Option.some.inj h)
        exact ⟨by omega, hok.2, k, hk, by simp [hlead, clampTo]⟩
      · rename_i hlead
        obtain ⟨rfl, -⟩ := Prod.mk.inj (Option.some.inj h)
        exact ⟨by omega, hok.2, k, hk, by simp [hlead]⟩
    · simp at h
  · simp at h

/-- The entry of a PROBE_SET's body, read and checked, is the one that its body gives. -/
theorem probeGiven_of_checkEntry {body : List Word} {q : ProbeValues} {e : ProbeEntry} {b : Bool} (hq : readProbeSet body = some q)
    (h : checkEntry q = some (e, b)) : probeGiven body = some (q.channel, e) := by
  obtain ⟨-, -, k, hk, rfl⟩ := entry_of_checkEntry h
  unfold readProbeSet at hq
  split at hq
  · obtain rfl := Option.some.inj hq
    simp only [probeGiven, hk, Option.map_some, beq_iff_eq]
  · obtain rfl := Option.some.inj hq
    simp only [probeGiven, hk, Option.map_some, beq_iff_eq]
  · simp at hq

theorem settings_probeSet (h : exec (.probeSet p) s = .next t) : settingsOf t = settingsOf s ∨
    ∃ body n e, waits p .probeSet body s ∧ probeGiven body = some (n, e) ∧ n ≤ 7 ∧ kindAllowed n e.kind = true ∧
      settingsOf t = { settingsOf s with entries := s.kit.entries.set n e } := by
  simp only [exec, execProbeSet, Host.Outcome.next.injEq] at h
  subst h
  by_cases hw : ∃ body, waits p .probeSet body s
  · obtain ⟨body, hw⟩ := hw
    rw [takeRequest_of_waits _ hw]
    split
    · exact .inl ((settings_respond _ _ _ _ _).trans (settings_withdrawn p s))
    · rename_i q hq
      have heff : ∀ ch u, probeChange q (withdrawn p s) = some ch → settingsOf u = settingsOf (withdrawn p s) →
          settingsOf (ch.effect u) = settingsOf s ∨ ∃ e b, checkEntry q = some (e, b) ∧
            settingsOf (ch.effect u) = { settingsOf s with entries := s.kit.entries.set q.channel e } := by
        intro ch u hch hu
        rw [settings_withdrawn] at hu
        simp only [probeChange, Option.map_eq_some_iff] at hch
        obtain ⟨⟨e, b⟩, he, rfl⟩ := hch
        have hentries : u.kit.entries = s.kit.entries := congrArg Settings.entries hu
        refine (settings_changeEntry (n := q.channel) (e := e) u).imp (fun h => h.trans hu) fun h => ⟨e, b, he, ?_⟩
        rw [h, hu, hentries]
      obtain h | h | ⟨e, b, he, h⟩ := settings_applyChange (p := p) (i := .probe) (k := .probeSet) (s := withdrawn p s)
        (P := fun z => z = settingsOf s ∨ ∃ e b, checkEntry q = some (e, b) ∧
          z = { settingsOf s with entries := s.kit.entries.set q.channel e }) heff
      · exact .inl (h.trans (settings_withdrawn p s))
      · exact .inl h
      · obtain ⟨hlt, hkind, -⟩ := entry_of_checkEntry he
        exact .inr ⟨body, q.channel, e, hw, probeGiven_of_checkEntry hq he, hlt, hkind, h⟩
  · exact .inl (congrArg settingsOf (takeRequest_of_other _ (not_exists.1 hw)))

/-- Settles O26. -/
theorem settingsChangeOnlyBySets : Obligations.SettingsChangeOnlyBySets := by
  refine fun c s t h => ⟨fun hc => ?_, fun hp hr hc => ?_, fun i p hc hi => ?_, fun p hc => ?_⟩
  · have ht : t = resetAll s := by obtain rfl | rfl := hc <;> exact (Host.Outcome.next.inj h).symm
    rw [ht, settings_resetAll]
    rfl
  · exact settings_of_run ⟨hp, hr⟩ hc (run_exec h)
  · subst hc
    exact settings_set hi h
  · subst hc
    exact settings_probeSet h

end Sys2Proof.Machine

/-! The step, and the reset (O1, O3, O60). -/

namespace Sys2Proof.Machine

open Sys2Proof

/-- Settles O1: both parts are the two equations of `step`. -/
theorem stepRunsFrontCommand : Obligations.StepRunsFrontCommand := by
  refine ⟨fun c rest s h => ?_, fun s h => ?_⟩ <;> rw [step, h]

theorem cursorSound_reset : CursorSound State.reset := fun p => by cases p <;> decide

theorem holdsSound_reset : HoldsSound State.reset := fun j hj => absurd hj (by simp [State.reset, ComposerUnit.reset])

/-- Settles O60: every invariant but the cursors' and the holds' is a finite check of the reset state. -/
theorem resetIsSound : Obligations.ResetIsSound := by
  refine ⟨?_, ?_, ?_, ?_, ?_, ?_, cursorSound_reset, ?_, ?_, ?_, ?_, ?_, holdsSound_reset, ?_, ?_, ?_, ?_, ?_, ?_, ?_, ?_, ?_⟩
  all_goals decide

/-- A line that is FITTED at reset has its debounce timer started. -/
theorem timers_afterReset (x : Eight Bool) :
    (Eight.ofFn fun c => if comparedLevel { KitUnit.reset with sense := x } c then some Config.debounceMs else none) =
      ⟨if x.c0 then none else some 50, if x.c1 then none else some 50, if x.c2 then none else some 50, if x.c3 then none else some 50,
        if x.c4 then none else some 50, if x.c5 then none else some 50, if x.c6 then none else some 50,
        if x.c7 then none else some 50⟩ := by
  have h : ∀ b : Bool, (if b == false then some Config.debounceMs else none) = if b then none else some 50 := by decide
  simp only [Eight.ofFn, Eight.mk.injEq]
  exact ⟨h _, h _, h _, h _, h _, h _, h _, h _⟩

/-- Settles O3. -/
theorem resetReturnsEveryBlock : Obligations.ResetReturnsEveryBlock := by
  intro c s hc
  have h : exec c s = .next (resetAll s) := by rcases hc with rfl | rfl <;> rfl
  rw [h]
  cases hf : s.kit.faultActive
  · simp only [resetAll, kitAfterReset, hf, timers_afterReset]
    rfl
  · have hport : flagsRaised 0x40 PortUnit.reset = { PortUnit.reset with flags := 0x40 } := by decide
    have henable : ∀ k : KitUnit, k.faulted = true → supplyShouldBeOn k = false := fun k hk => by simp [supplyShouldBeOn, hk]
    simp only [resetAll, kitAfterReset, hf, timers_afterReset, reduceIte, raiseBoth_probe, activateFault, settleSupply, henable]
    simp only [State.bothPorts]
    rw [show State.reset.portA = PortUnit.reset from rfl, show State.reset.portB = PortUnit.reset from rfl, hport]
    rfl
end Sys2Proof.Machine

/-! Requests that begin a stop, and those that only report (O7, O36). -/

namespace Sys2Proof.Machine

open Sys2Proof

variable {s t : State} {p q : Port} {body : List Word}

/-! ### SURVEY_STOP and SEQ_LIMIT_STOP (R5, R6) -/

theorem exec_surveyStop_of_waits (hw : waits p .surveyStop body s) : exec (.surveyStop p) s = .next (
    if body ≠ [] then answered p .surveyStop .badRequest [] s
    else if s.running then respond p .surveyStop .ok [] (beginStop (.request p) (withdrawn p s))
    else answered p .surveyStop .wrongState [] s) := by
  show execSurveyStop p s = _
  rw [execSurveyStop, takeRequest_of_waits _ hw, withdrawn_running, respond_withdrawn, respond_withdrawn]

theorem respond_beginStop (why : StopPending) (s : State) :
    respond p .surveyStop .ok [] (beginStop why (withdrawn p s)) = answered p .surveyStop .ok [] (beginStop why s) := by
  cases p <;> rfl

/-! ### What a start and a clear leave of an older response (R3, R7) -/

theorem refusedReadNext_kind {u : PortUnit} (h : refusedReadNext u = true) :
    (u.response.map Response.kind == some (some .readNext)) = true := by
  unfold refusedReadNext at h
  split at h
  · rename_i r hr
    simp only [Bool.and_eq_true, beq_iff_eq] at h
    simp [hr, h.1]
  · simp at h

theorem restartPort_of_refused {u : PortUnit} (h : refusedReadNext u = true) :
    (restartPort u).response = none ∧ (restartPort u).fetchDue = false := by
  have hk := refusedReadNext_kind h
  rw [restartPort_eq]
  exact ⟨if_pos hk, if_pos hk⟩

/-- An answer at one port leaves the other's response, and every completion that is due. -/
theorem respond_response (k : RequestKind) (code : ResultCode) (body : List Word) (s : State) :
    (q ≠ p → ((respond p k code body s).port q).response = (s.port q).response) ∧
      ((respond p k code body s).port q).fetchDue = (s.port q).fetchDue := by
  cases p <;> cases q <;> exact ⟨fun h => by first | rfl | exact absurd rfl h, rfl⟩

theorem port_startSurvey {v : StartValues} (hv : v.site.length ≤ 16) (s : State) (q : Port) :
    (startSurvey v s).port q = { restartPort (s.port q) with arrivals := (restartPort (s.port q)).arrivals ++ [.mark] } := by
  rw [startSurvey_eq s hv]
  cases q <;> rfl

theorem refusedReadNext_withdrawn : refusedReadNext ((withdrawn p s).port q) = refusedReadNext (s.port q) := by
  cases p <;> cases q <;> rfl

/-- A survey that begins or is cleared discards the response of a refused READ_NEXT, and sends no message. -/
theorem startOrClear_leaves (h : exec (.surveyStart p) s = .next t ∨ exec (.surveyClear p) s = .next t) :
    t.flight = s.flight ∧ (t.survey.state ≠ s.survey.state → ∀ q : Port, refusedReadNext (s.port q) = true →
      (q ≠ p → (t.port q).response = none) ∧ (t.port q).fetchDue = false) := by
  have flight : ∀ (k : RequestKind) (code : ResultCode) (u : State), (respond p k code [] u).flight = u.flight := fun k code u => by
    cases p <;> rfl
  have refused : ∀ (k : RequestKind) (code : ResultCode), t = respond p k code [] (withdrawn p s) → t.flight = s.flight ∧
      (t.survey.state ≠ s.survey.state → ∀ q : Port, refusedReadNext (s.port q) = true →
        (q ≠ p → (t.port q).response = none) ∧ (t.port q).fetchDue = false) := fun k code e => by
    refine ⟨by rw [e, flight, withdrawn_flight], fun hne => absurd ?_ hne⟩
    rw [e, (respond_frame p _ _ _ _).1, withdrawn_survey]
  obtain h | h := h
  · obtain rfl | ⟨code, e⟩ | ⟨v, hv, -, rfl⟩ := surveyStart_cases h
    · exact ⟨rfl, fun hne => absurd rfl hne⟩
    · exact refused _ _ e
    · refine ⟨by rw [flight, startSurvey_eq _ hv, ← withdrawn_flight p s], fun _ q hq => ?_⟩
      rw [← refusedReadNext_withdrawn (p := p)] at hq
      obtain ⟨hr, hf⟩ := restartPort_of_refused hq
      obtain ⟨hresp, hfetch⟩ := respond_response (q := q) (p := p) .surveyStart .ok [] (startSurvey v (withdrawn p s))
      rw [hfetch, port_startSurvey hv]
      refine ⟨fun hne => ?_, hf⟩
      rw [hresp hne, port_startSurvey hv]
      exact hr
  · obtain rfl | ⟨code, e⟩ | ⟨-, -, rfl⟩ := surveyClear_cases h
    · exact ⟨rfl, fun hne => absurd rfl hne⟩
    · exact refused _ _ e
    · refine ⟨by rw [flight, ← withdrawn_flight p s]; rfl, fun _ q hq => ?_⟩
      rw [← refusedReadNext_withdrawn (p := p)] at hq
      obtain ⟨hr, hf⟩ := restartPort_of_refused hq
      obtain ⟨hresp, hfetch⟩ := respond_response (q := q) (p := p) .surveyClear .ok [] (clearSurvey (withdrawn p s))
      have hport : (clearSurvey (withdrawn p s)).port q = restartPort ((withdrawn p s).port q) := by cases q <;> rfl
      rw [hfetch, hport]
      refine ⟨fun hne => ?_, hf⟩
      rw [hresp hne, hport]
      exact hr

/-- Settles O7. -/
theorem stopsBeginTheStopSequence : Obligations.StopsBeginTheStopSequence := by
  refine ⟨fun p s body hw => ?_, fun s => ⟨fun hr hh => ?_, fun hn => ?_⟩, fun p s body hw hb => exec_surveyClear_bad_request hw hb,
    fun p s t h => startOrClear_leaves h⟩
  · rw [exec_surveyStop_of_waits hw]
    refine ⟨fun hb => by rw [if_pos hb], fun hb hr => ?_, fun hb hr => ?_⟩
    · rw [if_neg (not_not.2 hb), if_pos ((running_iff s).2 hr), respond_beginStop]
      rfl
    · rw [if_neg (not_not.2 hb), if_neg (by rwa [running_iff])]
  · have hcond : (s.running && decide (Config.reserveStart ≤ s.journal.headSeq)) = true := by
      rw [Bool.and_eq_true, running_iff, decide_eq_true_iff]
      exact ⟨hr, hh⟩
    show Host.Outcome.next (checkLimit s) = _
    rw [checkLimit, if_pos hcond]
    rfl
  · have hcond : ¬ (s.running && decide (Config.reserveStart ≤ s.journal.headSeq)) = true := by
      rw [Bool.and_eq_true, running_iff, decide_eq_true_iff]
      exact hn
    show Host.Outcome.next (checkLimit s) = _
    rw [checkLimit, if_neg hcond]

/-! ### LIVE and COUNTERS (R78, R79) -/

theorem word_bit (b : Bool) : word (bit b) = if b then 1 else 0 := by cases b <;> rfl

theorem four_toList_flatMap {α β : Type} (x : Four α) (f : α → List β) :
    x.toList.flatMap f = (List.range 4).flatMap fun c => f (x.get c) := rfl

theorem liveChannel_words (edges : List Nat) (v : Option ChanValue) : liveChannel edges v =
    match v with
    | none => [0]
    | some y => [1, word y.residual, if y.clipped then 1 else 0, if y.capped then 1 else 0, if y.inDetector then 1 else 0,
        word (edges.filter fun e => decide (e ≤ y.residual)).length] := by
  cases v with
  | none => rfl
  | some y => simp only [liveChannel, bandOf, word_bit]

/-- Settles O36. -/
theorem liveAndCountersReport : Obligations.LiveAndCountersReport := by
  intro p s body
  refine ⟨fun hw => ?_, fun hw => ?_⟩
  · rw [show exec (.live p) s = execLive p s from rfl, execLive, takeRequest_of_waits _ hw]
    refine ⟨fun hb => by rw [if_pos hb, respond_withdrawn], fun hb => ?_⟩
    rw [if_neg (not_not.2 hb), respond_withdrawn, liveBody, withdrawn_link, withdrawn_hcu]
    simp only [word_bit, four_toList_flatMap, liveChannel_words]
    rfl
  · rw [show exec (.counters p) s = execCounters p s from rfl, execCounters, takeRequest_of_waits _ hw]
    refine ⟨fun hb => by rw [if_pos hb, respond_withdrawn], fun hb => ?_⟩
    rw [if_neg (not_not.2 hb), respond_withdrawn, countersBody, withdrawn_survey, withdrawn_hcu]
    simp only [word_bit, occupancyWords]

end Sys2Proof.Machine

/-! PROOF (O18). A select period at a port, as one update of its port unit: the release of a request frame with what the port unit
then answers, the port reset, and a record's arrival at the port. -/

namespace Sys2Proof.Machine

open Sys2Proof

variable {p : Port} {s : State} {body : List Word}

theorem modPort_modPort (s : State) (p : Port) (f g : PortUnit → PortUnit) :
    (s.modPort p f).modPort p g = s.modPort p fun u => g (f u) := by cases p <;> rfl

theorem modPort_congr {f g : PortUnit → PortUnit} (h : f (s.port p) = g (s.port p)) : s.modPort p f = s.modPort p g := by
  rw [State.modPort, State.modPort, h]

/-- A released frame that its port unit answers at once (R196, R197). -/
theorem clockZeros_respondWith (n : Nat) (kind : Option RequestKind) (code : ResultCode) (d : Delivery) (f : PortUnit → PortUnit) :
    clockZeros p n (respondWith p kind code body d ((releasePeriod p s).modPort p f)) = s.modPort p fun u =>
      { f { discardResponse u with waiting := none, intake := none, answer := [] } with
        response := some ⟨code, body, kind, d, false⟩, out := List.replicate n 0 } := by cases p <;> rfl

theorem clockZeros_answer (n : Nat) (kind : Option RequestKind) (code : ResultCode) (d : Delivery) :
    clockZeros p n (respondWith p kind code body d (releasePeriod p s)) = s.modPort p fun u =>
      { periodEnded n u with response := some ⟨code, body, kind, d, false⟩ } := by cases p <;> rfl

/-! ### PORT_CONFIG (R206) -/

theorem exec_portConfig : exec (.portConfig p body) s = .next (inPeriod p (word (256 * 23 + body.length) :: body) true
    (fun s => takeConfig p body (releasePeriod p s)) s) := rfl

theorem readConfig_of_length (h : body.length ≠ 3) : readConfig body = none := by
  match body, h with
  | [], _ | [_], _ | [_, _], _ | _ :: _ :: _ :: _ :: _, _ => rfl

theorem okOr_bne (x y : Nat) : okOr (x != y) = if y = x then .ok else .okClamped := by
  by_cases h : y = x
  · rw [if_pos h, h, bne_self_eq_false]; rfl
  · rw [if_neg h, bne_iff_ne.2 (Ne.symm h)]; rfl

/-! ### PORT_RESET (R198) -/

theorem exec_portReset (more : Nat) (released : Bool) : exec (.portReset ⟨p, more, released⟩) s =
    .next (inPeriod p (0xFFFF :: List.replicate more 0) released (fun s => resetNotes p <|
      (releasePeriod p s).modPort p fun u => { u with clearSet := 0, missedToClear := 0 }) s) := rfl

theorem clockZeros_portReset (n : Nat) : clockZeros p n (resetNotes p <|
    (releasePeriod p s).modPort p fun u => { u with clearSet := 0, missedToClear := 0 }) =
      (s.modPort p fun u => { u with
        intake := none, waiting := none, response := none, fetchDue := false, clearSet := 0, missedToClear := 0, answer := []
        out := List.replicate n 0 }).setNote p .empty := by
  simp only [releasePeriod, discardResponse_eq]
  cases p <;> rfl

/-! ### A record's arrival at a port (R203) -/

theorem exec_newRecordDivider {k : RecordKind} {rest : List RecordKind} (h : (s.port p).arrivals = k :: rest) :
    exec (.newRecordDivider p) s = .next (s.modPort p fun u => countRecord k { u with arrivals := rest }) := by
  simp only [exec, execNewRecordDivider, h]

/-- Settles O18. -/
theorem portConfigAndPortReset : Obligations.PortConfigAndPortReset := by
  refine ⟨fun p s body => ⟨fun h => ?_, fun h hb => ?_, fun e k d hb h => ?_⟩, fun p more s => ⟨fun h released => ?_, fun h => ⟨?_, ?_⟩⟩,
    fun p s k rest h => ⟨fun hw hd => ?_, fun hw hd => ?_, fun hw => ?_⟩⟩
  · rw [exec_portConfig, inPeriod_of_not_follows _ _ h]
  · rw [exec_portConfig, inPeriod_released _ h]
    dsimp only
    rw [takeConfig, readConfig_of_length hb]
    exact congrArg _ (clockZeros_answer _ _ _ _)
  · subst hb
    rw [exec_portConfig, inPeriod_released _ h]
    refine congrArg _ (.trans (clockZeros_respondWith _ _ _ _ _) (modPort_congr ?_))
    simp only [okOr_bne]
    simp [periodEnded, clampTo, configWords]
    rfl
  · rw [exec_portReset, inPeriod_of_not_follows _ _ h]
  · rw [exec_portReset, inPeriod_held _ h]
  · rw [exec_portReset, inPeriod_released _ h, clockZeros_portReset]
    simp
  · rw [exec_newRecordDivider h]
    refine congrArg _ (modPort_congr ?_)
    exact (if_pos hw).trans (if_neg (Nat.not_le.2 hd))
  · rw [exec_newRecordDivider h]
    refine congrArg _ (modPort_congr ?_)
    exact (if_pos hw).trans (if_pos hd)
  · rw [exec_newRecordDivider h]
    refine congrArg _ (modPort_congr ?_)
    exact if_neg (Bool.eq_false_iff.1 hw)

end Sys2Proof.Machine

/-! PROOF (O17). The STATUS response: its body, group by group, in the words of R207, and the marks that its fetch will clear. -/

namespace Sys2Proof.Machine

open Sys2Proof

variable {p : Port} {s : State} {body : List Word}

/-! ### The words of the body's codes -/

theorem surveyCode_word (x : SurveyState) : word (surveyCode x) = match x with | .idle => 0 | .running => 1 | .stopped => 2 := by
  cases x <;> rfl

theorem stopCode_word (x : StopPending) :
    word (stopCode x) = match x with | .none => 0 | .request _ => 1 | .seqLimit => 2 := by cases x <;> rfl

theorem linkCode_word (x : LinkState) : word (linkCode x) =
    match x with | .hunt => 0 | .confirm => 1 | .locked => 2 | .brk => 3 | .loopback => 4 := by cases x <;> rfl

theorem ctxCode_word (x : CtxState) : word (ctxCode x) = match x with | .idle => 0 | .opened => 1 | .closing => 2 := by
  cases x <;> rfl

theorem lineCode_word (x : LineState) : word (lineCode x) =
    match x with | .idle => 0 | .inquiring => 1 | .sending => 2 | .stalled => 3 | .suspended => 4 | .brk => 5 := by
  cases x <;> rfl

theorem supplyCode_word (b : Bool) : word (supplyCode b) = if !b then 1 else 0 := by cases b <;> rfl

theorem optional32_eq (x : Option Nat) : optional32 x = match x with | some h => words32 h | none => [] := by
  cases x <;> rfl

theorem word_toNat {w : Nat} (x : BitVec w) : word x.toNat = x.setWidth 16 := by
  rw [word, BitVec.ofNat_toNat]

theorem heldCode_eq (h : HeldStatus) :
    heldCode h = flagsValue [h.paperLow, h.paperOut, h.coverOpen, h.headHot, h.bufferFull] := by
  obtain ⟨a, b, c, d, e⟩ := h
  cases a <;> cases b <;> cases c <;> cases d <;> cases e <;> rfl

/-- A mask of eight channels fits its eight bits, and so its word (R140). -/
theorem maskOf_word (f : Nat → Bool) :
    (maskOf f).setWidth 16 = word (((List.range 8).map fun c => if f c then 2 ^ c else 0).sum) := by
  rw [← word_toNat, maskOf, BitVec.toNat_ofNat, Nat.mod_eq_of_lt]
  have hle : ∀ c, (if f c then 2 ^ c else 0) ≤ 2 ^ c := fun c => by split <;> simp
  have h0 := hle 0; have h1 := hle 1; have h2 := hle 2; have h3 := hle 3
  have h4 := hle 4; have h5 := hle 5; have h6 := hle 6; have h7 := hle 7
  simp only [List.range_succ, List.range_zero, List.nil_append, List.map_append, List.map_cons, List.map_nil, List.sum_append,
    List.sum_cons, List.sum_nil]
  omega

/-! ### The body, and the frame -/

theorem jobStateCode_word (x : JobState) :
    word (jobStateCode x) = match x with | .queued => 0 | .printing => 1 | .stalled => 2 | .suspended => 3 := by cases x <;> rfl

theorem overdue_eq (s : State) : overdue s = fun c =>
    match wallTime s.survey.steps s.survey.clock with
    | some (day, _) => (s.kit.entries.get c).kind != .none && (s.kit.entries.get c).calDue != 0
        && decide ((s.kit.entries.get c).calDue < day)
    | none => false := by
  funext c
  rw [overdue, surveyDay]
  cases wallTime s.survey.steps s.survey.clock <;> rfl

theorem statusPrinting_eq (s : State) : statusPrinting s =
    (match s.comp.queue with
      | [] => []
      | j :: _ => [word j.number, match j.state with | .queued => 0 | .printing => 1 | .stalled => 2 | .suspended => 3])
      ++ [(match s.line.state with
          | .idle => 0 | .inquiring => 1 | .sending => 2 | .stalled => 3 | .suspended => 4 | .brk => 5),
        word (flagsValue [s.line.held.paperLow, s.line.held.paperOut, s.line.held.coverOpen, s.line.held.headHot,
          s.line.held.bufferFull]), if s.line.ready then 1 else 0, if s.line.cts then 1 else 0] := by
  rw [statusPrinting, lineCode_word, heldCode_eq, word_bit, word_bit, headJob]
  cases s.comp.queue with
  | nil => rfl
  | cons j rest =>
    simp only [List.head?_cons, jobStateCode_word]

theorem two_mul_bit_headJob (s : State) : 2 * bit (headJob s).isSome = if s.comp.queue = [] then 0 else 2 := by
  rw [headJob]
  cases s.comp.queue <;> rfl

/-- The release of a frame leaves what STATUS reports. -/
theorem statusBody_releasePeriod : statusBody p (releasePeriod p s) = statusBody p s := by
  cases p <;> simp only [statusBody, releasePeriod, discardResponse_eq] <;> rfl

theorem exec_status : exec (.status p body) s = .next (inPeriod p (word (256 * 7 + body.length) :: body) true
    (fun s => takeStatus p body (releasePeriod p s)) s) := rfl

theorem clockZeros_takeStatus (n : Nat) : clockZeros p n (takeStatus p [] (releasePeriod p s)) =
    s.modPort p fun u => { periodEnded n u with
      clearSet := u.flags, missedToClear := u.missed
      response := some ⟨.ok, statusBody p s, some .status, .status u.framing u.parity u.overrun, false⟩ } := by
  rw [takeStatus, if_neg (not_not.2 rfl), statusBody_releasePeriod]
  cases p <;> simp only [releasePeriod, periodEnded, discardResponse_eq] <;> rfl

/-- Settles O17. -/
theorem statusReportsAndMarksForClearing : Obligations.StatusReportsAndMarksForClearing := by
  refine fun p s body => ⟨fun h => ?_, fun h hb => ?_, fun h hb => ?_⟩
  · rw [exec_status, inPeriod_of_not_follows _ _ h]
  · rw [exec_status, inPeriod_released _ h]
    dsimp only
    rw [takeStatus, if_pos hb]
    exact congrArg _ (clockZeros_answer _ _ _ _)
  · subst hb
    rw [exec_status, inPeriod_released _ h]
    dsimp only
    rw [clockZeros_takeStatus]
    refine congrArg _ (modPort_congr ?_)
    simp only [statusBody, statusSurvey, statusJournal, statusPort, statusLink, statusCapture, statusKit, statusPrinting_eq, statusErrors,
      presentMask, overdueMask, unpoweredMask, surveyCode_word, stopCode_word, linkCode_word, ctxCode_word,
      supplyCode_word, optional32_eq, word_toNat, maskOf_word, overdue_eq, two_mul_bit_headJob, word_bit,
      List.append_assoc, List.cons_append, List.nil_append]
    rfl

end Sys2Proof.Machine

/-! PROOF (O16, O19). Request frames and fetches: what a released frame does by its form, and what a fetch frame and its first
completion do. -/

namespace Sys2Proof.Machine

open Sys2Proof

variable {p : Port} {s : State} {words body : List Word}

/-! ### REQUEST_FRAME (R195 to R197) -/

theorem periodOf_cons {h : Word} (hf : (h :: body).head? ≠ some 0xFEFE) (hr : (h :: body).head? ≠ some 0xFFFF) (extra : Nat) :
    periodOf (h :: body) extra = .request :=
  (if_neg fun e => hf (congrArg some e)).trans (if_neg fun e => hr (congrArg some e))

/-- A period whose first word is neither the FETCH nor the reset word is a request frame's, or no frame at all. -/
theorem exec_requestFrame_of_head (hf : words.head? ≠ some 0xFEFE) (hr : words.head? ≠ some 0xFFFF) :
    exec (.requestFrame p words .asserted) s = .next (inPeriod p words false id s) ∧
    ∀ extra, exec (.requestFrame p words (.released extra)) s = .next (inPeriod p words true (releaseFrame p words extra.val) s) := by
  cases words with
  | nil => exact ⟨rfl, fun _ => rfl⟩
  | cons h body =>
    have hperiod := periodOf_cons hf hr 0
    have hexec : ∀ select, exec (.requestFrame p (h :: body) select) s = execRequestFrame p (h :: body) select s := fun _ => rfl
    exact ⟨by simp only [hexec, execRequestFrame, hperiod], fun extra => by simp only [hexec, execRequestFrame, hperiod]⟩

theorem exec_requestFrame_of_otherRow (h : words.head? = some 0xFEFE ∨ words.head? = some 0xFFFF) (select : Select) :
    exec (.requestFrame p words select) s = .next s := by
  obtain ⟨w, body, rfl⟩ : ∃ w body, words = w :: body := by cases words <;> simp at h ⊢
  have hexec : exec (.requestFrame p (w :: body) select) s = execRequestFrame p (w :: body) select s := rfl
  obtain h | h := h <;> obtain rfl := Option.some.inj h <;> rw [hexec] <;> cases select <;> rfl

theorem head_of_frameWf {extra : Nat} (h : frameWf words extra = true) :
    words.head? ≠ some 0xFEFE ∧ words.head? ≠ some 0xFFFF := by
  cases words with
  | nil => exact ⟨nofun, nofun⟩
  | cons w body =>
    rw [frameWf, Bool.and_eq_true, bne_iff_ne, bne_iff_ne] at h
    exact ⟨fun e => h.1 (Option.some.inj e), fun e => h.2 (Option.some.inj e)⟩

/-- A well-formed request frame is released with its body and the kind its header gives (R196). -/
theorem releaseFrame_wellFormed {h : Word} (hf : frameWf (h :: body) 0 = true) (hlen : body.length = h.toNat % 256) :
    releaseFrame p (h :: body) 0 s = releaseRequest p (h.toNat / 256) body s := by
  have hperiod : periodOf (h :: body) 0 = .request := by
    obtain ⟨h1, h2⟩ := head_of_frameWf hf
    exact periodOf_cons h1 h2 0
  rw [releaseFrame, hperiod, judgeFrame, if_pos ⟨rfl, hlen⟩]
  rfl

/-- A malformed frame makes nothing of itself; the port's response and waiting request are gone all the same (R196). -/
theorem releaseFrame_malformed {extra : Nat} (hf : frameWf words extra = true)
    (h : words = [] ∨ extra ≠ 0 ∨ ∃ h body, words = h :: body ∧ body.length ≠ h.toNat % 256) :
    releaseFrame p words extra s = releasePeriod p s := by
  have hjudge : judgeFrame words extra = none := by
    cases words with
    | nil => rfl
    | cons w body =>
      rw [judgeFrame, if_neg]
      rintro ⟨h0, hl⟩
      obtain h | h | ⟨w', body', h, hl'⟩ := h
      · cases h
      · exact h h0
      · cases h
        exact hl' hl
  have hperiod : periodOf words extra = .request := by
    cases words with
    | nil => rw [periodOf, if_neg (bne_iff_ne.1 hf)]
    | cons w body =>
      obtain ⟨h1, h2⟩ := head_of_frameWf hf
      exact periodOf_cons h1 h2 extra
  rw [releaseFrame, hperiod, hjudge]

/-- The frame of STATUS and that of PORT_CONFIG, released, are their rows (R197, notes/assumptions/3). -/
theorem exec_requestFrame_request {code : Nat} {f : State → State} (hc : code < 254)
    (hb : body.length ≤ 255) (hrelease : ∀ s, releaseRequest p code body s = f (releasePeriod p s)) :
    exec (.requestFrame p (word (256 * code + body.length) :: body) (.released 0)) s =
      .next (inPeriod p (word (256 * code + body.length) :: body) true (fun s => f (releasePeriod p s)) s) := by
  have hword : (word (256 * code + body.length)).toNat = 256 * code + body.length := by
    rw [word, BitVec.toNat_ofNat]; omega
  have hne : ∀ w : Word, 254 * 256 ≤ w.toNat → (word (256 * code + body.length) :: body).head? ≠ some w := by
    rintro w hw e
    have := congrArg BitVec.toNat (Option.some.inj e)
    omega
  have h1 := hne 0xFEFE (by decide)
  have h2 := hne 0xFFFF (by decide)
  rw [(exec_requestFrame_of_head h1 h2).2]
  have hf : frameWf (word (256 * code + body.length) :: body) 0 = true := by
    rw [frameWf, Bool.and_eq_true, bne_iff_ne, bne_iff_ne]
    exact ⟨fun e => h1 (congrArg some e), fun e => h2 (congrArg some e)⟩
  have hr : releaseFrame p (word (256 * code + body.length) :: body) (0 : Fin 16).val = fun s => f (releasePeriod p s) := by
    funext s
    rw [show (0 : Fin 16).val = 0 from rfl, releaseFrame_wellFormed hf (by omega),
      show (word (256 * code + body.length)).toNat / 256 = code by omega, hrelease]
  rw [hr]

theorem releaseRequest_waits {k : RequestKind} {code : Nat} (hk : requestOfCode code = some k) (h1 : k ≠ .status)
    (h2 : k ≠ .portConfig) :
    releaseRequest p code body s = (releasePeriod p s).modPort p fun u => { u with waiting := some ⟨k, body⟩ } := by
  rw [releaseRequest, hk]
  cases k <;> first | rfl | exact absurd rfl h1 | exact absurd rfl h2

/-- Settles O16. -/
theorem requestFrameReachesThePort : Obligations.RequestFrameReachesThePort := by
  refine ⟨fun p s words extra hf hw => ?_, fun p s words h1 h2 hw => ⟨?_, fun hn => ?_⟩, fun p s words select h => ?_,
    fun p s body hb => ⟨?_, ?_⟩⟩
  · obtain ⟨h1, h2⟩ := head_of_frameWf hf
    have hexec : exec (.requestFrame p words (.released extra)) s =
        .next (clockZeros p words.length (releaseFrame p words extra.val s)) := by
      rw [(exec_requestFrame_of_head h1 h2).2, inPeriod_released _ hw]
    refine ⟨?_, ?_, fun hbad => ?_⟩
    · rintro h body k rfl rfl hlen hk hs hc
      rw [hexec, show (0 : Fin 16).val = 0 from rfl, releaseFrame_wellFormed hf hlen, releaseRequest_waits hk hs hc]
      cases p <;> rfl
    · rintro h body rfl rfl hlen hk
      rw [hexec, show (0 : Fin 16).val = 0 from rfl, releaseFrame_wellFormed hf hlen, releaseRequest, hk]
      exact congrArg _ (clockZeros_answer _ _ _ _)
    · have hext : words = [] ∨ extra.val ≠ 0 ∨ ∃ h body, words = h :: body ∧ body.length ≠ h.toNat % 256 :=
        hbad.imp_right fun h => h.imp_left fun he e => he (Fin.ext e)
      rw [hexec, releaseFrame_malformed hf hext, clockZeros_releasePeriod]
  · rw [(exec_requestFrame_of_head h1 h2).1, inPeriod_held _ hw]
  · subst hn
    rw [(exec_requestFrame_of_head h1 h2).2, inPeriod_released _ hw]
    cases p <;> rfl
  · by_cases hrow : words.head? = some 0xFEFE ∨ words.head? = some 0xFFFF
    · exact exec_requestFrame_of_otherRow hrow select
    · have hw := h.resolve_right hrow
      rw [not_or] at hrow
      cases select with
      | asserted => rw [(exec_requestFrame_of_head hrow.1 hrow.2).1, inPeriod_of_not_follows _ _ hw]
      | released extra => rw [(exec_requestFrame_of_head hrow.1 hrow.2).2, inPeriod_of_not_follows _ _ hw]
  · rw [exec_status]
    exact exec_requestFrame_request (f := takeStatus p body) (by decide) hb fun _ => rfl
  · rw [exec_portConfig]
    exact exec_requestFrame_request (f := takeConfig p body) (by decide) hb fun _ => rfl

/-! ### Fetching (R199, R200) -/

theorem fetchAnswer_ne_nil (u : PortUnit) : fetchAnswer u ≠ [] := by
  unfold fetchAnswer
  split <;> exact List.cons_ne_nil _ _

/-- The answer of a fetch frame: the one read at its start, or the port's as it stands (R199). -/
theorem answerOf_eq (u : PortUnit) : answerOf u =
    if u.answer ≠ [] then u.answer
    else if u.waiting ≠ none then [0x0100]
    else match u.response with
      | none => [0x0000]
      | some r => word (0x0200 + resultCode r.code) :: word r.body.length :: r.body := by
  rw [answerOf]
  by_cases h : u.answer = []
  · rw [if_pos h, if_neg (not_not.2 h), fetchAnswer]
    cases hw : u.waiting with
    | some r => rw [if_pos nofun]
    | none => rw [if_neg (not_not.2 rfl)]; cases u.response <;> rfl
  · rw [if_neg h, if_pos h]

theorem take_append_replicate {α : Type} (l : List α) (x : α) (n : Nat) :
    l.take n ++ List.replicate (n - l.length) x = (l ++ List.replicate n x).take n := by
  rw [List.take_append, List.take_replicate, Nat.min_eq_left (Nat.sub_le _ _)]

/-- The delivered records that pushes had counted as missed are those of the response between its cursor and the port's (R37). -/
theorem recounted_eq (cursor first count now : Nat) : recounted cursor first count now =
    ((List.range count).filter fun i => decide (cursor ≤ first + i) && decide (first + i < now)).length := by
  unfold recounted
  induction count with
  | zero => simp only [List.range_zero, List.filter_nil, List.length_nil]; omega
  | succ n ih =>
    rw [List.range_succ, List.filter_append, List.length_append, ← ih]
    by_cases h : cursor ≤ first + n ∧ first + n < now
    · rw [List.filter_cons_of_pos (by simpa using h)]
      simp only [List.filter_nil, List.length_cons, List.length_nil]
      omega
    · rw [List.filter_cons_of_neg (by simpa using h)]
      simp only [List.filter_nil, List.length_nil]
      omega

theorem exec_fetchComplete : exec (.fetchComplete p) s = .next (s.modPort p completeFetch) := rfl

theorem completeFetch_of_due {u : PortUnit} {r : Response} (hr : u.response = some r) (hd : u.fetchDue = true) :
    completeFetch u = { (if r.delivered then u else deliver r.delivery u) with
      fetchDue := false, response := some { r with delivered := true } } := by
  rw [completeFetch, if_pos hd, hr]

theorem exec_fetchFrame (n : Nat) (released : Bool) : exec (.fetchFrame p ⟨n, released⟩) s =
    .next (if mayGoOn (0xFEFE :: List.replicate n 0) (s.port p) then s.modPort p (fetchWords n released) else s) := rfl

theorem fetchWhole_eq (u : PortUnit) (n : Nat) : fetchWhole u n =
    decide (2 ≤ (answerOf u).length ∧ u.response ≠ none ∧
      (match u.intake with | none => 0 | some held => held.length - 1) < (answerOf u).length ∧ (answerOf u).length ≤ n) := by
  unfold fetchWhole
  cases u.response with
  | none => simp
  | some r => simp [Bool.decide_and, Bool.and_comm, Bool.and_assoc] <;> rfl

/-- The words of a fetch frame as the statement casts them, number by number. -/
theorem cast_fetchFrame (n : Nat) : ((65278 :: List.replicate n 0 : List Nat) : List Word) = 0xFEFE :: List.replicate n 0 := by
  simp [← List.map_eq_flatMap]

/-- Settles O19. -/
theorem fetchesDeliverOnce : Obligations.FetchesDeliverOnce := by
  refine ⟨fun p n released s => ⟨fun hw => ?_, fun hw => ?_⟩, fun p s hd => ?_, fun p s r hr hd => ⟨fun h => ?_, ?_, ?_⟩⟩
  · rw [cast_fetchFrame] at hw
    rw [exec_fetchFrame, if_neg (by rwa [mayGoOn_iff])]
  · simp only [cast_fetchFrame] at hw ⊢
    rw [exec_fetchFrame, if_pos ((mayGoOn_iff _ _).2 hw)]
    refine congrArg _ (modPort_congr ?_)
    simp only [fetchWords, fetchWhole_eq, take_append_replicate, answerOf_eq]
    rfl
  · rw [exec_fetchComplete, show s.modPort p completeFetch = s.modPort p id from
      modPort_congr (if_neg (by rw [hd]; exact Bool.false_ne_true))]
    cases p <;> rfl
  · rw [exec_fetchComplete]
    refine congrArg _ (modPort_congr ((completeFetch_of_due hr hd).trans ?_))
    obtain h | h := h
    · rw [if_pos h]
    · rw [h, deliver, ite_self]
  · rintro cursor first count hdel hnext
    rw [exec_fetchComplete]
    refine congrArg _ (modPort_congr ((completeFetch_of_due hr hd).trans ?_))
    rw [if_neg (by rw [hdel]; exact Bool.false_ne_true), hnext, deliver, recounted_eq]
  · rintro f q o hdel hst
    rw [exec_fetchComplete]
    refine congrArg _ (modPort_congr ((completeFetch_of_due hr hd).trans ?_))
    rw [if_neg (by rw [hdel]; exact Bool.false_ne_true), hst, deliver]

end Sys2Proof.Machine

/-! PROOF (part of O15). The byte layouts of records (R17, R209, R210): the model's bytes are those of the layout tables, field by
field, and its words their pairs. -/

namespace Sys2Proof.Machine

open Sys2Proof

/-! ### Fields, most significant byte first -/

@[simp] theorem field_one (v : Nat) : field 1 v = [byte v] := by simp [field, byte]
@[simp] theorem field_two (v : Nat) : field 2 v = be16 v := by simp [field, be16, byte, List.range_succ]
@[simp] theorem field_four (v : Nat) : field 4 v = be32 v := by simp [field, be32, byte, List.range_succ]
@[simp] theorem field_three_zero : field 3 0 = [0, 0, 0] := by decide
@[simp] theorem fields_nil : fields [] = [] := rfl
@[simp] theorem fields_cons (n v : Nat) (l : List (Nat × Nat)) : fields ((n, v) :: l) = field n v ++ fields l := rfl

theorem fields_map {α : Type} (l : List α) (n : Nat) (f : α → Nat) :
    fields (l.map fun x => (n, f x)) = l.flatMap fun x => field n (f x) := by
  rw [fields, List.flatMap_map]

theorem fields_pairs (l : List Nat) : fields (l.map fun v => (2, v)) = l.flatMap be16 := by
  rw [fields_map l 2 fun v => v]
  simp only [field_two]

theorem be16_signed (v : Int) : be16 (signed v) = beInt16 v := by
  have h : ∀ n, BitVec.ofNat 8 (signed v / 2 ^ n) = (BitVec.ofInt 16 v).extractLsb' n 8 := fun n => by
    rw [signed]
    apply BitVec.eq_of_toNat_eq
    rw [BitVec.extractLsb'_toNat, BitVec.toNat_ofInt, BitVec.toNat_ofNat, Nat.shiftRight_eq_div_pow]
    rfl
  have h8 := h 8
  have h0 := h 0
  rw [show signed v / 2 ^ 0 = signed v by simp] at h0
  exact congrArg₂ (fun a b => [a, b]) h8 h0

theorem be16_toNat (w : Word) : be16 w.toNat = [w.extractLsb' 8 8, w.extractLsb' 0 8] := by
  have h : ∀ n, BitVec.ofNat 8 (w.toNat / 2 ^ n) = w.extractLsb' n 8 := fun n => by
    apply BitVec.eq_of_toNat_eq
    rw [BitVec.extractLsb'_toNat, BitVec.toNat_ofNat, Nat.shiftRight_eq_div_pow]
  have h0 := h 0
  rw [show w.toNat / 2 ^ 0 = w.toNat by simp] at h0
  exact congrArg₂ (fun a b => [a, b]) (h 8) h0

/-! ### The bodies, kind by kind -/

theorem kindNumber_eq (k : RecordKind) : kindNumber k = kindCode k := by cases k <;> rfl
theorem originNumber_eq (o : Origin) : originNumber o = originCode o := by cases o <;> rfl

theorem flagsValue_cons (b : Bool) (l : List Bool) : flagsValue (b :: l) = bit b + 2 * flagsValue l := by
  have h : ∀ (l : List Bool) n, ((l.zipIdx (n + 1)).map fun x => if x.1 then 2 ^ x.2 else 0).sum =
      2 * ((l.zipIdx n).map fun x => if x.1 then 2 ^ x.2 else 0).sum := by
    intro l
    induction l with
    | nil => exact fun _ => rfl
    | cons x l ih =>
      intro n
      simp only [List.zipIdx_cons, List.map_cons, List.sum_cons, ih, Nat.mul_add, Nat.pow_succ']
      cases x <;> rfl
  simp only [flagsValue, List.zipIdx_cons, List.map_cons, List.sum_cons, h]
  cases b <;> simp [bit]

@[simp] theorem flagsValue_nil : flagsValue [] = 0 := rfl

theorem eventFlags_value (f : EventFlags) :
    flagsValue [f.clipped, f.capped, f.test, f.cut, f.linkLost, f.probeChange, f.calOverdue, f.noWave, f.waveShared, f.wavePartial] =
      eventFlagsCode f := by
  simp only [flagsValue_cons, flagsValue_nil, eventFlagsCode]
  omega

theorem mask4_value (m : Four Bool) : flagsValue m.toList = mask4Code m := by
  simp only [Four.toList, flagsValue_cons, flagsValue_nil, mask4Code]
  omega

theorem intervalFlags_value (f : IntervalFlags) :
    flagsValue [f.flagged, f.partialClose, f.split, f.calOverdue, f.test, f.more] = intervalFlagsCode f := by
  simp only [flagsValue_cons, flagsValue_nil, intervalFlagsCode]
  omega

theorem two_flags (a b : Bool) : flagsValue [a, b] = bit a + 2 * bit b := by
  simp only [flagsValue_cons, flagsValue_nil, Nat.mul_zero, Nat.add_zero]

theorem four_flags (a b c d : Bool) : flagsValue [a, b, c, d] = bit a + 2 * bit b + 4 * bit c + 8 * bit d := by
  simp only [flagsValue_cons, flagsValue_nil]
  omega

/-- The presence mask of an interval, a byte of eight bits, as the flags of its channels. -/
theorem presenceMask_value (i : IntervalBody) :
    byte (flagsValue (i.magnitudes.toList.map Option.isSome)) = byte (presenceMask i).toNat := by
  rw [presenceMask, maskOf, byte, byte, BitVec.ofNat_toNat, BitVec.setWidth_eq]
  rfl

theorem eventImage_eq (e : EventBody) : eventImage e = eventBytes e := by
  simp only [eventImage, eventBytes, fields_cons, fields_nil, field_one, field_two, field_four, fields_map, eventFlags_value, mask4_value,
    two_flags, List.append_assoc, List.append_nil, List.cons_append, List.nil_append]
  cases e.cls <;> cases e.wave <;> simp [classCode, byte]

theorem waveImage_eq (w : WaveBody) : waveImage w = waveBytes w := by
  simp only [waveImage, waveBytes, fields_cons, fields_nil, field_one, field_two, field_four, fields_map, be16_signed, two_flags,
    List.append_assoc, List.append_nil, List.cons_append, List.nil_append]

theorem intervalImage_eq (b : IntervalBody) : intervalImage b = intervalBytes b := by
  simp only [intervalImage, intervalBytes, fields_cons, fields_nil, field_one, field_two, field_four, fields_map, intervalFlags_value,
    presenceMask_value, ← mask4_value,
    List.append_assoc, List.append_nil, List.cons_append, List.nil_append]
  simp only [fields_pairs]
  rfl

theorem noteImage_eq (n : NoteBody) : noteImage n = noteBytes n := by
  have hcite : ∀ c : CiteEntry, fields [(4, c.seq), (4, c.surveyMs), (1, kindNumber c.kind), (1, originNumber c.origin),
      (1, flagsValue [c.test, c.superseded]), (1, 0), (4, c.reference)] = citeBytes c := fun c => by
    simp only [fields_cons, fields_nil, field_one, field_four, kindNumber_eq, originNumber_eq, two_flags, citeBytes, List.append_assoc,
      List.append_nil, List.cons_append, List.nil_append]
    rfl
  simp only [noteImage, noteBytes, fields_cons, fields_nil, field_one, field_two, field_three_zero, field_four, hcite, four_flags,
    List.append_assoc, List.append_nil, List.cons_append, List.nil_append]
  cases n.category <;> cases n.supersedes <;> simp [categoryCode]

theorem settingImage_eq (b : SettingBody) : settingImage b = settingBytes b := by
  have hwords : ∀ ws : List Word, fields (ws.map fun w => (2, w.toNat)) = wordBytes ws := fun ws => by
    simp only [fields_map, field_two, be16_toNat, wordBytes]
  simp only [settingImage, settingBytes, hwords, fields_cons, fields_nil, field_one, bit, List.append_nil, List.cons_append, List.nil_append]
  simp [wordBytes]

theorem markImage_eq (m : MarkBody) : markImage m = markBytes m := by
  cases m with
  | surveyStop r => cases r <;> simp [markImage, markBytes, portCode] <;> rfl
  | _ => simp [markImage, markBytes, bit, supplyCode, probeKindCode, linkCode, portCode] <;> rfl

theorem bodyImage_eq (b : Body) : bodyImage b = bodyBytes b := by
  cases b with
  | event e => exact eventImage_eq e
  | wave w => exact waveImage_eq w
  | interval i => exact intervalImage_eq i
  | note n => exact noteImage_eq n
  | setting b => exact settingImage_eq b
  | mark m => exact markImage_eq m

/-! ### The lengths, and the record's words -/

theorem length_be16 (n : Nat) : (be16 n).length = 2 := rfl
theorem length_be32 (n : Nat) : (be32 n).length = 4 := rfl
theorem length_beInt16 (i : Int) : (beInt16 i).length = 2 := rfl

theorem length_flatMap_const {α β : Type} (l : List α) (f : α → List β) (k : Nat) (h : ∀ x, (f x).length = k) :
    (l.flatMap f).length = k * l.length := by
  rw [List.length_flatMap, List.map_congr_left (g := fun _ => k) fun x _ => h x, List.map_const', List.sum_replicate, smul_eq_mul,
    Nat.mul_comm]

theorem length_markBytes (m : MarkBody) : (markBytes m).length = markLen m := by
  cases m with
  | surveyStop r => cases r <;> rfl
  | surveyStart site =>
    simp only [markBytes, markLen, List.length_append, List.length_cons, List.length_nil, List.length_replicate, length_be16, length_be32]
    omega
  | _ => rfl

theorem length_bodyBytes (b : Body) : (bodyBytes b).length = bodyLen b := by
  cases b with
  | event e =>
    cases h : e.wave <;> simp [bodyBytes, eventBytes, bodyLen, Four.toList, h, length_be16, length_be32]
  | wave w =>
    simp only [bodyBytes, waveBytes, bodyLen, List.length_append, List.length_cons, List.length_nil, length_be16, length_be32,
      length_beInt16, List.length_flatMap, length_flatMap_const _ beInt16 2 length_beInt16, List.sum_map_mul_left]
  | interval i =>
    simp only [bodyBytes, intervalBytes, bodyLen, List.length_append, List.length_cons, List.length_nil, length_be16, length_be32,
      List.length_flatMap, length_flatMap_const _ be16 2 length_be16, List.sum_map_mul_left]
    simp [Four.toList, Nat.mul_comm]
  | note n =>
    simp only [bodyBytes, noteBytes, bodyLen, List.length_append, List.length_cons, List.length_nil, length_be16, length_be32,
      length_flatMap_const _ citeBytes 16 fun _ => rfl]
  | setting b =>
    simp only [bodyBytes, settingBytes, wordBytes, bodyLen, List.length_append, List.length_cons, List.length_nil,
      length_flatMap_const _ (fun w : Word => [w.extractLsb' 8 8, w.extractLsb' 0 8]) 2 fun _ => rfl]
    omega
  | mark m => exact length_markBytes m

theorem recordImage_eq (r : Record) : recordImage r = headerBytes r ++ bodyBytes r.body := by
  simp only [recordImage, headerBytes, fields_cons, fields_nil, field_one, field_two, field_four, bodyImage_eq, length_bodyBytes,
    kindNumber_eq, originNumber_eq, two_flags, List.append_assoc, List.append_nil, List.cons_append, List.nil_append]
  rfl

theorem length_recordImage (r : Record) : (recordImage r).length = 16 + bodyLen r.body := by
  rw [recordImage_eq, List.length_append, length_bodyBytes]
  rfl

theorem word_pair (h l : Byte) : word (256 * h.toNat + l.toNat) = h ++ l := by
  apply BitVec.eq_of_toNat_eq
  rw [word, BitVec.toNat_ofNat, BitVec.toNat_append, Nat.shiftLeft_eq, ← Nat.shiftLeft_eq, ← Nat.shiftLeft_add_eq_or_of_lt l.isLt,
    Nat.shiftLeft_eq]
  omega

/-- Byte pairs as words, by index (R35). -/
theorem pairWords_eq : ∀ b : List Byte, pairWords b = (List.range ((b.length + 1) / 2)).map fun i =>
    word (256 * (b.getD (2 * i) 0).toNat + (b.getD (2 * i + 1) 0).toNat)
  | [] => rfl
  | [h] => by rw [show pairWords [h] = [h ++ (0 : Byte)] from rfl, ← word_pair]; simp [List.range_succ]
  | h :: l :: rest => by
    rw [show pairWords (h :: l :: rest) = (h ++ l) :: pairWords rest from rfl, pairWords_eq rest,
      show ((h :: l :: rest).length + 1) / 2 = (rest.length + 1) / 2 + 1 by simp only [List.length_cons]; omega,
      List.range_succ_eq_map, List.map_cons, List.map_map, ← word_pair]
    rfl

theorem recordCopy_eq (r : Record) : recordCopy r = recordWords r := by
  rw [recordWords, ← recordImage_eq, pairWords_eq]
  rfl

/-- The bytes a record takes in a snapshot (R35). -/
theorem copyBytes_eq (r : Record) : copyBytes r = 2 * (recordCopy r).length := by
  rw [recordCopy, List.length_map, List.length_range, length_recordImage]
  rfl

end Sys2Proof.Machine

/-! PROOF (O15). READ_NEXT takes its snapshot from the cursor, whole records within its limits; SEEK sets the cursor. -/

namespace Sys2Proof.Machine

open Sys2Proof

variable {p : Port} {s : State} {body : List Word}

/-- A snapshot is the longest run of whole records from the front that its count and its room allow (R35). -/
theorem snapshotRecords_spec (n room : Nat) (l : List Record) : ∃ more, l = snapshotRecords n room l ++ more ∧
    (snapshotRecords n room l).length ≤ n ∧ ((snapshotRecords n room l).map copyBytes).sum ≤ room ∧
    ((snapshotRecords n room l).length = n ∨ more = [] ∨
      ∃ r, more.head? = some r ∧ room < ((snapshotRecords n room l).map copyBytes).sum + copyBytes r) := by
  induction n generalizing room l with
  | zero => exact ⟨l, rfl, Nat.le_refl _, Nat.zero_le _, .inl rfl⟩
  | succ n ih =>
    cases l with
    | nil => exact ⟨[], rfl, Nat.zero_le _, Nat.zero_le _, .inr (.inl rfl)⟩
    | cons r rest =>
      by_cases h : copyBytes r ≤ room
      · obtain ⟨more, hsplit, hlen, hsum, hend⟩ := ih (room - copyBytes r) rest
        rw [snapshotRecords, if_pos h]
        refine ⟨more, congrArg (r :: ·) hsplit, Nat.succ_le_succ hlen, ?_, ?_⟩
        · rw [List.map_cons, List.sum_cons]; omega
        · refine hend.imp (congrArg Nat.succ) (.imp id ?_)
          rintro ⟨x, hx, hroom⟩
          refine ⟨x, hx, ?_⟩
          rw [List.map_cons, List.sum_cons]; omega
      · rw [snapshotRecords, if_neg h]
        refine ⟨r :: rest, rfl, Nat.zero_le _, Nat.zero_le _, .inr (.inr ⟨r, rfl, ?_⟩)⟩
        rw [List.map_nil, List.sum_nil]; omega

theorem exec_readNext_bad_request (h : waits p .readNext body s) (hb : body.length ≠ 1) :
    exec (.readNext p) s = .next (answered p .readNext .badRequest [] s) := by
  rw [show exec (.readNext p) s = execReadNext p s from rfl, execReadNext, takeRequest_of_waits _ h, ← respond_withdrawn]
  match body, hb with
  | [], _ | _ :: _ :: _, _ => rfl

theorem exec_readNext {n : Word} (h : waits p .readNext [n] s) : exec (.readNext p) s =
    .next (if n.toNat = 0 ∨ 32 < n.toNat then answered p .readNext .badValue [] s
      else respondWith p (some .readNext) .ok (snapshotBody (s.port p) (snapshotAt n.toNat (s.port p).cursor s) s)
        (.readNext (s.port p).cursor (((snapshotAt n.toNat (s.port p).cursor s).head?.map Record.seq).getD (s.port p).cursor)
          (snapshotAt n.toNat (s.port p).cursor s).length) (withdrawn p s)) := by
  rw [show exec (.readNext p) s = execReadNext p s from rfl, execReadNext, takeRequest_of_waits _ h, ← respond_withdrawn]
  cases p <;> rfl

/-! ### SEEK (R38) -/

theorem exec_seek (h : waits p .seek body s) : exec (.seek p) s = .next (match readSeek body with
    | none => answered p .seek .badRequest [] s
    | some f => (answered p .seek (okOr (seekTo f s.journal).2)
        (words32 (seekTo f s.journal).1 ++ words32 s.journal.tailSeq ++ words32 s.journal.headSeq) s).modPort p
          fun u => { u with cursor := (seekTo f s.journal).1 }) := by
  rw [show exec (.seek p) s = execSeek p s from rfl, execSeek, takeRequest_of_waits _ h]
  cases readSeek body <;> cases p <;> rfl

theorem readSeek_malformed (h : body.length ≠ (if body.headD 0 = 0 then 3 else 1) ∨ 2 < (body.headD 0).toNat) :
    readSeek body = none := by
  match body with
  | [] => rfl
  | [f] =>
    have h1 : f ≠ 1 := by
      rintro rfl
      exact h.elim (fun h => h (by decide)) (fun h => absurd h (by decide))
    have h2 : f ≠ 2 := by
      rintro rfl
      exact h.elim (fun h => h (by decide)) (fun h => absurd h (by decide))
    rw [readSeek, if_neg h1, if_neg h2]
  | [_, _] => rfl
  | [f, x, y] =>
    have h0 : f ≠ 0 := by
      rintro rfl
      exact h.elim (fun h => h rfl) (fun h => absurd h (Nat.not_lt_zero 2))
    rw [readSeek, if_neg h0]
  | _ :: _ :: _ :: _ :: _ => rfl

theorem seekTo_number_low {n : Nat} {j : JournalUnit} (h : n < j.tailSeq) :
    seekTo (.number n) j = (j.tailSeq, true) := by
  have hc : clampTo j.tailSeq j.headSeq n = j.tailSeq := by unfold clampTo; omega
  rw [seekTo, hc, bne_iff_ne.2 (by omega)]

theorem seekTo_number_within {n : Nat} {j : JournalUnit} (h1 : j.tailSeq ≤ n) (h2 : n ≤ j.headSeq) :
    seekTo (.number n) j = (n, false) := by
  have hc : clampTo j.tailSeq j.headSeq n = n := by unfold clampTo; omega
  rw [seekTo, hc, bne_self_eq_false]

theorem seekTo_number_high {n : Nat} {j : JournalUnit} (h : j.headSeq < n) (hj : j.tailSeq ≤ j.headSeq) :
    seekTo (.number n) j = (j.headSeq, true) := by
  have hc : clampTo j.tailSeq j.headSeq n = j.headSeq := by unfold clampTo; omega
  rw [seekTo, hc, bne_iff_ne.2 (by omega)]

/-- Settles O15. -/
theorem readNextAndSeek : Obligations.ReadNextAndSeek := by
  refine ⟨fun p s body h => ⟨exec_readNext_bad_request h, ?_⟩, fun p s body h => ⟨?_, ?_, ?_, fun hb => ?_⟩⟩
  · rintro n rfl
    refine ⟨fun hn => by rw [exec_readNext h, if_pos hn], fun h1 h32 => ?_⟩
    obtain ⟨more, hsplit, hlen, hsum, hend⟩ := snapshotRecords_spec n.toNat (Config.responseBytes - preambleBytes)
      (s.journal.records.filter fun r => decide ((s.port p).cursor ≤ r.seq))
    rw [show copyBytes = fun r => 2 * (recordCopy r).length from funext copyBytes_eq] at hsum hend
    refine ⟨_, more, hsplit, hlen, hsum, hend, ?_⟩
    rw [exec_readNext h, if_neg (by omega), show recordCopy = recordWords from funext recordCopy_eq]
    cases p <;> rfl
  · rintro hi lo rfl
    have hexec : exec (.seek p) s = .next ((answered p .seek (okOr (seekTo (.number (join32 hi lo)) s.journal).2)
        (words32 (seekTo (.number (join32 hi lo)) s.journal).1 ++ words32 s.journal.tailSeq ++ words32 s.journal.headSeq) s).modPort p
          fun u => { u with cursor := (seekTo (.number (join32 hi lo)) s.journal).1 }) := exec_seek h
    refine ⟨fun h1 h2 => ?_, fun h1 h2 => ?_, fun h1 h2 => ?_⟩ <;> rw [hexec]
    · rw [seekTo_number_low h1]
      rfl
    · rw [seekTo_number_within h1 h2]
      rfl
    · rw [seekTo_number_high h1 h2]
      rfl
  · rintro rfl
    rw [exec_seek h]
    cases p <;> rfl
  · rintro rfl
    rw [exec_seek h]
    cases p <;> rfl
  · rw [exec_seek h, readSeek_malformed hb]

end Sys2Proof.Machine

/-! PROOF (O25, refuted). GET reports the value in force, however long it is: the statement asks seven words of BAND_EDGES in every
state, and a state whose list of edges is not sound has not seven. -/

namespace Sys2Proof.Machine

open Sys2Proof

/-- The reset state with no band edge, and a GET of BAND_EDGES waiting at port A; no run reaches it (SettingsSound asks seven edges). -/
def edgeless : State :=
  { State.reset with
    hcu := { State.reset.hcu with edges := [] }
    portA := { State.reset.portA with waiting := some ⟨.get, [word (itemCode .bandEdges)]⟩ } }

theorem exec_get_edgeless : exec (.get .a) edgeless = .next (answered .a .get .ok [] edgeless) := rfl

theorem answered_injective {p : Port} {k : RequestKind} {code : ResultCode} {ws vs : List Word} {s : State}
    (h : answered p k code ws s = answered p k code vs s) : ws = vs := by
  have hport := congrArg (fun t => (t.port p).response.map Response.body) h
  cases p <;> exact Option.some.inj hport

/-- Refutes O25: the length of BAND_EDGES' answer is that of the list in force, which the statement does not ask to be sound. -/
theorem not_getReportsTheValueInForce : ¬ Obligations.GetReportsTheValueInForce := by
  intro h
  obtain ⟨-, -, -, hwhole, -⟩ := h .a edgeless .bandEdges 0
  obtain ⟨ws, hexec, hlen, -⟩ := hwhole nofun nofun rfl
  rw [exec_get_edgeless] at hexec
  rw [← answered_injective (Host.Outcome.next.inj hexec)] at hlen
  exact absurd hlen (by decide)

end Sys2Proof.Machine

/-! PROOF (O21). SET: the body's form, and a change made in IDLE, for every item. -/

namespace Sys2Proof.Machine

open Sys2Proof

variable {p : Port} {i : Item} {s : State} {v body : List Word} {x : Settings} {c : Bool}

/-! ### The body of a SET (R12) -/

theorem itemOfCode_itemCode (i : Item) : itemOfCode (word (itemCode i)).toNat = some i := by cases i <;> rfl

theorem namedItem_itemCode (hi : i ≠ .probe) (v : List Word) : namedItem (word (itemCode i) :: v) = some i := by
  cases i with
  | probe => exact absurd rfl hi
  | _ => rfl

theorem exec_set_of_named (hi : i ≠ .probe) (hw : waits p .set (word (itemCode i) :: v) s) :
    exec (setCommand i p) s = .next (match ownerOf i v (withdrawn p s) with
      | none => answered p .set .badRequest [] s
      | some change => applyChange p .set i change (withdrawn p s)) := by
  rw [exec_setCommand hi, takeSetOf, show (s.port p).waiting = some ⟨.set, word (itemCode i) :: v⟩ from hw]
  dsimp only
  rw [if_pos ⟨rfl, .inl (namedItem_itemCode hi v)⟩, takeRequest_of_waits _ hw, namedItem_itemCode hi]
  dsimp only
  rw [List.drop_succ_cons, List.drop_zero]
  cases ownerOf i v (withdrawn p s) with
  | none => exact congrArg _ (respond_withdrawn ..)
  | some change => rfl

theorem exec_set_of_unnamed (hi : i ≠ .probe) (hw : waits p .set body s) (hn : namedItem body = none) :
    exec (setCommand i p) s = .next (answered p .set .badRequest [] s) := by
  rw [exec_setCommand hi, takeSetOf, show (s.port p).waiting = some ⟨.set, body⟩ from hw]
  dsimp only
  rw [if_pos ⟨rfl, .inr hn⟩, takeRequest_of_waits _ hw, hn]
  exact congrArg _ (respond_withdrawn ..)

theorem exec_set_of_other {k : Item} (hi : i ≠ .probe) (hk : k ≠ .probe) (hne : k ≠ i) (hw : waits p .set (word (itemCode k) :: v) s) :
    exec (setCommand i p) s = .next s := by
  rw [exec_setCommand hi, takeSetOf, show (s.port p).waiting = some ⟨.set, word (itemCode k) :: v⟩ from hw]
  dsimp only
  rw [if_neg]
  rintro ⟨-, h | h⟩ <;> rw [namedItem_itemCode hk] at h
  · exact hne (Option.some.inj h)
  · cases h

theorem namedItem_none (h : body = [] ∨ itemOfCode (body.headD 0).toNat = none ∨ itemOfCode (body.headD 0).toNat = some .probe) :
    namedItem body = none := by
  cases body with
  | nil => rfl
  | cons w v =>
    obtain h | h | h := h
    · cases h
    · simp only [List.headD_cons] at h
      simp only [namedItem, h]
    · simp only [List.headD_cons] at h
      simp only [namedItem, h]

/-! ### A change outside a survey (R13) -/

theorem applyChange_idle {k : RequestKind} {item : Item} {change : Option SetChange} (h : s.survey.state = .idle) :
    applyChange p k item change s = match change with
      | none => respond p k .badValue [] s
      | some ch => respond p k (okOr ch.clamped) [] (ch.effect s) := by
  have hin : s.inSurvey = false := by simp [State.inSurvey, h]
  unfold applyChange
  rw [hin]
  cases change <;> rfl

theorem closeCurrent_idle (cause : CloseCause) (h : s.agg.current = none) : closeCurrent cause s = s := by rw [closeCurrent, h]

theorem syncChanged_of_unlocked (h1 : s.link.state ≠ .confirm) (h2 : s.link.state ≠ .locked) : syncChanged s = s := by
  rw [syncChanged]
  cases h : s.link.state with
  | confirm => exact absurd h h1
  | locked => exact absurd h h2
  | _ => rfl

/-- Outside a survey an owner stores its value and does no more, but for a changed sync word under a lock and the supply (R13). -/
theorem ownerEffect_idle {changed : Bool} (hi : i ≠ .supply) (hidle : s.survey.state = .idle) (hcur : s.agg.current = none)
    (hsync : isSyncWord i = true → changed = false ∨ (s.link.state ≠ .confirm ∧ s.link.state ≠ .locked)) :
    ownerEffect i changed x s = withSettings x s := by
  have word (h : isSyncWord i = true) :
      (if changed then syncChanged (withSettings x s) else withSettings x s) = withSettings x s := by
    obtain h | ⟨h1, h2⟩ := hsync h
    · rw [h]; rfl
    · rw [syncChanged_of_unlocked (by exact h1) (by exact h2), ite_self]
  have interval : withSettings x (if changed then closeCurrent .split s else s) = withSettings x s := by
    rw [closeCurrent_idle _ hcur, ite_self]
  cases i with
  | syncA | syncB | syncF => exact word rfl
  | intervalLength | keptOrders | recordMask | limit => exact interval
  | bandEdges =>
    have hin : s.inSurvey = false := by simp [State.inSurvey, hidle]
    rw [ownerEffect, hin]
    rfl
  | supply => exact absurd rfl hi
  | _ => rfl

theorem withSettings_withdrawn (x : Settings) (p : Port) (s : State) :
    withSettings x (withdrawn p s) = withdrawn p (withSettings x s) := by cases p <;> rfl

/-- Settles O21. -/
theorem setInIdleStoresTheValue : Obligations.SetInIdleStoresTheValue := by
  refine ⟨fun i p s v hi hw hidle hint => ⟨fun hv => ?_, fun hv => ⟨fun hacc => ?_, fun x c hacc hsup hsync => ?_⟩⟩,
    fun i p s body hi hw => ⟨fun hb => exec_set_of_unnamed hi hw (namedItem_none hb), ?_⟩⟩
  · rw [exec_set_of_named hi hw, ownerOf_of_length hv]
  · obtain ⟨-, hown⟩ | ⟨x, y, ch, hacc', -⟩ := ownerOf_answers (s := withdrawn p s) hi hv
    · rw [exec_set_of_named hi hw, hown]
      dsimp only
      rw [applyChange_idle (by simpa using hidle)]
      exact congrArg _ (respond_withdrawn ..)
    · rw [settings_withdrawn, hacc] at hacc'; cases hacc'
  · obtain ⟨hacc', -⟩ | ⟨x', y, ch, hacc', hown, hch⟩ := ownerOf_answers (s := withdrawn p s) hi hv
    · rw [settings_withdrawn, hacc] at hacc'; cases hacc'
    · rw [settings_withdrawn, hacc] at hacc'
      cases hacc'
      obtain ⟨changed, heff, -, hchanged⟩ := hch.effect (withdrawn p s) rfl
      have hcur : s.agg.current = none := hint.1 (by rw [hidle]; decide)
      have hstore : ownerEffect i changed x (withdrawn p s) = withSettings x (withdrawn p s) := by
        refine ownerEffect_idle hsup (by simpa using hidle) (by simpa using hcur) fun hword => ?_
        rw [withdrawn_link]
        have hlimit : i = .limit → x.limits.length = 49 := by rintro rfl; cases hword
        obtain h | h | ⟨h1, h2, h3⟩ := hsync
        · rw [hchanged hlimit, settings_withdrawn, h]
          exact .inl (decide_eq_false (not_not.2 rfl))
        · exact .inr h
        · simp [isSyncWord, h1, h2, h3] at hword
      rw [exec_set_of_named hi hw, hown]
      dsimp only
      rw [applyChange_idle (by simpa using hidle)]
      dsimp only
      rw [heff, hstore, withSettings_withdrawn, respond_withdrawn, hch.clamped]
      rfl
  · rintro k v rfl hki hk
    exact exec_set_of_other hi hk hki hw

end Sys2Proof.Machine

/-! PROOF (O23). Sync words, the supply and probe entries set in IDLE: what each owner does with a change. -/

namespace Sys2Proof.Machine

open Sys2Proof

variable {p : Port} {i : Item} {s t : State} {v body : List Word} {x : Settings} {c : Bool}

/-! ### A SET made in IDLE, whatever its owner does -/

theorem exec_set_idle (hi : i ≠ .probe) (hv : v.length = valueLength i) (hw : waits p .set (word (itemCode i) :: v) s)
    (hidle : s.survey.state = .idle) (hacc : accepts i v (settingsOf s) = some (x, c)) :
    ∃ changed, exec (setCommand i p) s = .next (respond p .set (okOr c) [] (ownerEffect i changed x (withdrawn p s))) ∧
      ((i = .limit → x.limits.length = 49) → changed = decide (x ≠ settingsOf s)) := by
  obtain ⟨hacc', -⟩ | ⟨x', y, ch, hacc', hown, hch⟩ := ownerOf_answers (s := withdrawn p s) hi hv
  · rw [settings_withdrawn, hacc] at hacc'; cases hacc'
  · rw [settings_withdrawn, hacc] at hacc'
    cases hacc'
    obtain ⟨changed, heff, -, hchanged⟩ := hch.effect (withdrawn p s) rfl
    refine ⟨changed, ?_, by rwa [settings_withdrawn] at hchanged⟩
    rw [exec_set_of_named hi hw, hown]
    dsimp only
    rw [applyChange_idle (by simpa using hidle)]
    dsimp only
    rw [heff, hch.clamped]

/-! ### Sync words (R45) -/

theorem ownerEffect_sync (hi : isSyncWord i = true) (x : Settings) (s : State) :
    ownerEffect i true x s = syncChanged (withSettings x s) := by
  simp only [isSyncWord, Bool.or_eq_true, beq_iff_eq] at hi
  obtain (rfl | rfl) | rfl := hi <;> rfl

/-- An accepted sync word changes the receiver's sync words alone. -/
theorem withSettings_sync {w : Word} (hi : i = .syncA ∨ i = .syncB ∨ i = .syncF) (hacc : accepts i [w] (settingsOf s) = some (x, c)) :
    withSettings x s = s.setLink (withSettings x s).link := by
  have hx : x = { settingsOf s with syncA := x.syncA, syncB := x.syncB, syncF := x.syncF } := by
    obtain rfl | rfl | rfl := hi <;> obtain ⟨rfl, -⟩ := Prod.mk.inj (Option.some.inj (Option.ite_none_left_eq_some.1 hacc).2) <;> rfl
  rw [hx]
  simp [withSettings, settingsOf, State.setLink]

theorem syncChanged_of_confirm (h : s.link.state = .confirm) : syncChanged s = s.setLink (toHunt s.link) := by
  rw [syncChanged, h]

theorem syncChanged_of_locked (h : s.link.state = .locked) : syncChanged s = loseLock .syncChange s := by
  rw [syncChanged, h]

theorem loseLock_outside (h : ¬ isRunning s) (reason : DownReason) :
    loseLock reason s = raiseBoth .link (sendLoss (s.setLink (toHunt s.link))) := markInRunning_of_not_running (by exact h)

/-! ### Probe entries (R131) -/

theorem eight_set_get {α : Type} (f : Eight α) (i : Fin 8) (a : α) : (f.set i a).get i = a := by
  rw [eight_get_set, if_pos rfl]

theorem beq_eq_beq_iff (x a b : Bool) : ((x == a) = (x == b)) ↔ b = a := by
  cases x <;> cases a <;> cases b <;> decide

/-- An entry put on its channel: the timer after a changed polarity, and present formed again (R131, R132). -/
theorem placeEntry_eq (i : Fin 8) (e : ProbeEntry) (k : KitUnit) : placeEntry i e k = { k with
    entries := k.entries.set i e, present := k.present.set i (k.settled.get i && e.kind != ProbeKind.none)
    timers :=
      if e.activeHigh = (k.entries.get i).activeHigh then k.timers
      else k.timers.set i (if (k.sense.get i == e.activeHigh) = k.settled.get i then none else some 50) } := by
  have hbefore : comparedLevel k i = (k.sense.get i == (k.entries.get i).activeHigh) := rfl
  have hafter : comparedLevel { k with entries := k.entries.set i e } i = (k.sense.get i == e.activeHigh) := by
    show (_ == ((k.entries.set i e).get i).activeHigh) = _
    rw [eight_set_get]
  unfold placeEntry retime
  rw [hbefore, hafter]
  by_cases h : e.activeHigh = (k.entries.get i).activeHigh
  · rw [if_pos ((beq_eq_beq_iff _ _ _).2 h), if_pos h]
    show { k with entries := _, present := k.present.set i (k.settled.get i && ((k.entries.set i e).get i).kind != ProbeKind.none) } = _
    rw [eight_set_get]
  · rw [if_neg fun he => h ((beq_eq_beq_iff _ _ _).1 he), if_neg h]
    show { k with
      entries := _, timers := _, present := k.present.set i (k.settled.get i && ((k.entries.set i e).get i).kind != ProbeKind.none) } = _
    rw [eight_set_get]
    rfl

theorem sendProbeNotice_eq (n : Nat) (before after : KitUnit) (s : State) : sendProbeNotice n before after s = { s with
    flight := { s.flight with probeNotices := s.flight.probeNotices ++
      if n < 4 then [⟨n, kitDetectorChannel before n, kitDetectorChannel after n⟩] else [] } } := by
  unfold sendProbeNotice
  split
  · rfl
  · rw [List.append_nil]

/-- A mark that a hardware block makes, appended in RUNNING alone, as the APPEND command appends it. -/
theorem markInRunning_taken {m : MarkBody} (hm : hardwareBody (.mark m) = true) :
    if isRunning s then exec (.append (.mark m) false) s = .next (markInRunning m s) else markInRunning m s = s := by
  split
  · rename_i h; exact markInRunning_of_running h hm
  · rename_i h; exact markInRunning_of_not_running h

theorem hardwareBody_probe (b : Bool) (n : Nat) (k : ProbeKind) (byEntry : Bool) (m : BitVec 8) :
    hardwareBody (.mark (if b then .probeIn n k byEntry m else .probeOut n k byEntry m)) = true := by
  cases b <;> exact hardwareBody_mark trivial

/-- A change of present is announced by PROBE, and by its mark in RUNNING (R134). -/
theorem announcePresence_taken {u : State} {i : Nat} {byEntry present : Bool} {e : ProbeEntry} (he : u.kit.entries.get i = e)
    (hp : u.kit.present.get i = present) :
    let v := u.bothPorts (flagsRaised 0x40)
    let mark := if present then MarkBody.probeIn i e.kind byEntry (maskOf u.kit.present.get)
      else .probeOut i e.kind byEntry (maskOf u.kit.present.get)
    if isRunning u then exec (.append (.mark mark) false) v = .next (announcePresence i byEntry u) else announcePresence i byEntry u = v := by
  subst he hp
  exact markInRunning_taken (s := u.bothPorts (flagsRaised 0x40)) (hardwareBody_probe _ _ _ _ _)

/-- The state with an entry put on its channel and its probe notice sent (R131). -/
def entryPlaced (i : Nat) (e : ProbeEntry) (s : State) : State :=
  let old := s.kit.entries.get i
  let present := s.kit.settled.get i && e.kind != ProbeKind.none
  { s with
    kit := { s.kit with
      entries := s.kit.entries.set i e, present := s.kit.present.set i present
      timers :=
        if e.activeHigh = old.activeHigh then s.kit.timers
        else s.kit.timers.set i (if (s.kit.sense.get i == e.activeHigh) = s.kit.settled.get i then none else some 50) }
    flight := { s.flight with probeNotices := s.flight.probeNotices ++
      if i < 4 then [⟨i, detectorChannel i (s.kit.present.get i) old, detectorChannel i present e⟩] else [] } }

theorem sendProbeNotice_placeEntry (i : Fin 8) (e : ProbeEntry) (s : State) :
    sendProbeNotice i s.kit (placeEntry i e s.kit) (s.setKit (placeEntry i e s.kit)) = entryPlaced i e s := by
  rw [sendProbeNotice_eq, kitDetectorChannel, kitDetectorChannel, placeEntry_eq]
  dsimp only
  rw [eight_set_get, eight_set_get]
  rfl

theorem changeEntry_eq (i : Fin 8) (e : ProbeEntry) (s : State) : changeEntry i e s =
    if s.kit.entries.get i = e then s
    else if (s.kit.settled.get i && e.kind != ProbeKind.none) = s.kit.present.get i then entryPlaced i e s
    else announcePresence i true (entryPlaced i e s) := by
  rw [changeEntry]
  dsimp only
  rw [sendProbeNotice_placeEntry, placeEntry_eq]
  dsimp only
  rw [eight_set_get]

/-- A PROBE_SET's entry takes effect as R131 says. -/
theorem entryTaken_changeEntry (i : Fin 8) (e : ProbeEntry) (s : State) : entryTaken i e s (changeEntry i e s) := by
  rw [changeEntry_eq]
  unfold entryTaken
  dsimp only
  by_cases he : s.kit.entries.get i = e
  · rw [if_pos he, if_pos he.symm]
  · rw [if_neg he, if_neg (Ne.symm he)]
    by_cases hp : (s.kit.settled.get i && e.kind != ProbeKind.none) = s.kit.present.get i
    · rw [if_pos hp, if_pos hp]
      rfl
    · rw [if_neg hp, if_neg hp]
      exact announcePresence_taken (u := entryPlaced i e s) (eight_set_get _ _ _) (eight_set_get _ _ _)

/-! ### PROBE_SET's body (R130) -/

theorem exec_probeSet (hw : waits p .probeSet body s) : exec (.probeSet p) s = .next (match readProbeSet body with
    | none => answered p .probeSet .badRequest [] s
    | some v => applyChange p .probeSet .probe (probeChange v (withdrawn p s)) (withdrawn p s)) := by
  rw [show exec (.probeSet p) s = execProbeSet p s from rfl, execProbeSet, takeRequest_of_waits _ hw]
  cases readProbeSet body with
  | none => exact congrArg _ (respond_withdrawn ..)
  | some v => rfl

theorem readProbeSet_of_length (h4 : body.length ≠ 4) (h6 : body.length ≠ 6) : readProbeSet body = none := by
  match body, h4, h6 with
  | [], _, _ | [_], _, _ | [_, _], _, _ | [_, _, _], _, _ | [_, _, _, _, _], _, _ | _ :: _ :: _ :: _ :: _ :: _ :: _ :: _, _, _ => rfl

theorem probeKindOfCode_min (n : Nat) : probeKindOfCode (min 255 n) = probeKindOfCode n := by
  by_cases h : n ≤ 255
  · rw [Nat.min_eq_right h]
  · rw [Nat.min_eq_left (by omega)]
    match n, h with
    | n + 4, _ => rfl

/-- The check of PROBE_SET's values, by their kind and channel (R129, R130). -/
theorem checkEntry_eq (v : ProbeValues) : checkEntry v = (probeKindOfCode v.kind).bind fun kind =>
    if v.channel ≤ 7 ∧ kindAllowed v.channel kind = true then
      some (⟨kind, if kind == .voltageLead then some (max 1000 (min 32767 v.level)) else none, kind == .voltageLead && v.inDetector,
        v.activeHigh, v.calDue⟩, kind == .voltageLead && max 1000 (min 32767 v.level) != v.level)
    else none := by
  unfold checkEntry
  cases probeKindOfCode v.kind with
  | none => rfl
  | some kind =>
    dsimp only [Option.bind_some]
    refine if_congr (by rw [Nat.lt_succ_iff]) ?_ rfl
    cases kind <;> rfl

/-- The word of an entry's kind and two flags, and its parts (R210). -/
theorem entryWord_parts (m : Nat) (a b : Bool) (hm : m ≤ 255) :
    let w := word (256 * m + (if a then 1 else 0) + if b then 2 else 0)
    w.toNat / 256 = m ∧ w.getLsbD 0 = a ∧ w.getLsbD 1 = b := by
  have hw : ∀ n, n < 65536 → (word n).toNat = n := fun n hn => by rw [word, BitVec.toNat_ofNat]; omega
  have hbits : ∀ n, n < 65536 → (word n).getLsbD 0 = decide (n % 2 = 1) ∧ (word n).getLsbD 1 = decide (n / 2 % 2 = 1) := fun n hn => by
    rw [BitVec.getLsbD, BitVec.getLsbD, hw n hn, Nat.testBit_zero, Nat.testBit_succ, Nat.testBit_zero]
    exact ⟨rfl, rfl⟩
  have hlt : 256 * m + (if a then 1 else 0) + (if b then 2 else 0) < 65536 := by split <;> split <;> omega
  dsimp only
  rw [hw _ hlt, (hbits _ hlt).1, (hbits _ hlt).2]
  cases a <;> cases b <;> simp only [Bool.false_eq_true, if_true, if_false, decide_eq_true_iff, decide_eq_false_iff_not] <;> omega

/-- The six-word form of a body stands for the four-word form with its values (notes/assumptions/12). -/
theorem checkEntry_sixWords (c k d inDetector polarity due : Word) :
    checkEntry ⟨c.toNat, k.toNat, d.toNat, inDetector != 0, polarity == 0, due.toNat⟩ =
      let entry := word (256 * min 255 k.toNat + (if inDetector = 0 then 0 else 1) + if polarity = 0 then 2 else 0)
      checkEntry ⟨c.toNat, entry.toNat / 256, d.toNat, entry.getLsbD 0, entry.getLsbD 1, due.toNat⟩ := by
  have hone : (if inDetector = 0 then 0 else 1) = if (inDetector != 0) = true then 1 else 0 := by
    by_cases h : inDetector = 0 <;> simp [h]
  have htwo : (if polarity = 0 then 2 else 0) = if (polarity == 0) = true then 2 else 0 := by
    by_cases h : polarity = 0 <;> simp [h]
  obtain ⟨h1, h2, h3⟩ := entryWord_parts (min 255 k.toNat) (inDetector != 0) (polarity == 0) (Nat.min_le_left _ _)
  rw [hone, htwo]
  dsimp only
  rw [h1, h2, h3, checkEntry_eq, checkEntry_eq, probeKindOfCode_min]

/-- Two bodies whose values pass the same check are one request. -/
theorem probeChange_congr {v w : ProbeValues} (hc : v.channel = w.channel) (h : checkEntry v = checkEntry w) (s : State) :
    probeChange v s = probeChange w s := by
  rw [probeChange, probeChange, hc, h]

theorem withdrawn_of_waiting (p : Port) (r : Option Request) (s : State) :
    withdrawn p (s.modPort p fun u => { u with waiting := r }) = withdrawn p s := by cases p <;> rfl

/-- Settles O23. -/
theorem syncProbeAndSupplySetInIdle : Obligations.SyncProbeAndSupplySetInIdle := by
  refine ⟨fun i p s w x hi hw hidle hacc hne => ?_, fun p s w hw hidle hval => ?_,
    fun p s body hw h4 h6 => ?_, fun p s c k d inDetector polarity due hw => ?_, fun p s c k d due hw hidle => ⟨fun hbad => ?_, ?_⟩⟩
  · have hword : isSyncWord i = true := by obtain rfl | rfl | rfl := hi <;> rfl
    have hlen : [w].length = valueLength i := by obtain rfl | rfl | rfl := hi <;> rfl
    have hnp : i ≠ .probe := by rintro rfl; cases hword
    obtain ⟨changed, hexec, hchanged⟩ := exec_set_idle hnp hlen hw hidle hacc
    rw [hchanged (by rintro rfl; cases hword), decide_eq_true hne, ownerEffect_sync hword] at hexec
    have hout : ¬ isRunning s := fun h => by rw [isRunning, hidle] at h; cases h.1
    rw [withSettings_withdrawn, withSettings_sync hi hacc] at hexec
    refine ⟨fun hl => ?_, fun hl => ?_⟩
    · rw [hexec, syncChanged_of_confirm (by simpa [withSettings] using hl)]
      cases p <;> rfl
    · rw [hexec, syncChanged_of_locked (by simpa [withSettings] using hl), loseLock_outside (by cases p <;> exact hout)]
      cases p <;> rfl
  · have hacc : accepts .supply [w] (settingsOf s) = some ({ settingsOf s with supplyOn := w == 0 }, false) := by
      obtain rfl | rfl := hval <;> rfl
    obtain ⟨changed, hexec, -⟩ := exec_set_idle (i := .supply) nofun rfl hw hidle hacc
    refine hexec.trans ?_
    cases p <;> rfl
  · rw [exec_probeSet hw, readProbeSet_of_length h4 h6]
  · dsimp only
    rw [exec_probeSet hw, exec_probeSet (by cases p <;> rfl), withdrawn_of_waiting]
    dsimp only [readProbeSet]
    exact congrArg (fun ch => Host.Outcome.next (applyChange p .probeSet .probe ch (withdrawn p s)))
      (probeChange_congr (by rfl) (checkEntry_sixWords c k d inDetector polarity due) _)
  · rw [exec_probeSet hw]
    dsimp only [readProbeSet]
    rw [applyChange_idle (by simpa using hidle), probeChange, checkEntry_eq]
    obtain h | h | ⟨kind, h, hk⟩ := hbad
    · cases probeKindOfCode (k.toNat / 256) with
      | none => exact congrArg _ (respond_withdrawn ..)
      | some kind =>
        dsimp only [Option.bind_some]
        rw [if_neg fun hc => absurd hc.1 (Nat.not_le.2 h)]
        exact congrArg _ (respond_withdrawn ..)
    · rw [h]
      exact congrArg _ (respond_withdrawn ..)
    · rw [h]
      dsimp only [Option.bind_some]
      rw [if_neg fun hc => by rw [hk] at hc; exact absurd hc.2 Bool.false_ne_true]
      exact congrArg _ (respond_withdrawn ..)
  · intro kind hc hkind hallowed
    refine ⟨_, entryTaken_changeEntry ⟨c.toNat, by omega⟩ _ (withdrawn p s), ?_⟩
    rw [exec_probeSet hw]
    dsimp only [readProbeSet]
    rw [applyChange_idle (by simpa using hidle), probeChange, checkEntry_eq, hkind]
    dsimp only [Option.bind_some]
    rw [if_pos ⟨hc, hallowed⟩]
    exact congrArg _ (respond_eq_replied ..)

end Sys2Proof.Machine

/-! PROOF (O10, O11). Hardware appends under a plan: the records placed, the ports told, the test of the limit, and the capture's
answer; the drop of a record without room. -/

namespace Sys2Proof.Machine

open Sys2Proof

variable {s t : State} {b : Body} {test : Bool} {n k : Nat}

/-! ### Records placed under a plan (R21 to R23, R32) -/

/-- A port after an append under a plan: pushed to the new tail, warned of low space, and told of the records placed. -/
def portTold (tail : Nat) (raised : BitVec 8) (kinds : List RecordKind) (u : PortUnit) : PortUnit :=
  { flagsRaised raised (pushedPort tail u) with arrivals := u.arrivals ++ kinds }

/-- The records rs placed under the plan that reclaims the n oldest. -/
def placedJournal (rs : List Record) (n : Nat) (j : JournalUnit) : JournalUnit :=
  let gone := usedSlots (j.records.take n)
  let free := j.free + gone - usedSlots rs
  { j with
    records := j.records.drop n ++ rs
    tailSeq := j.tailSeq + n, tailSlot := (j.tailSlot + gone) % 8192
    headSeq := j.headSeq + rs.length, headSlot := (j.headSlot + usedSlots rs) % 8192
    free := free, armed := decide (1024 ≤ free) }

def placed (rs : List Record) (n : Nat) (s : State) : State :=
  let told := portTold (s.journal.tailSeq + n) (lowRaised (placedJournal rs n s.journal).free s.journal) (rs.map Record.kind)
  { s with journal := placedJournal rs n s.journal, portA := told s.portA, portB := told s.portB }

/-- A hardware record as it is stored (R18, R20). -/
def hardwareRecord (b : Body) (test : Bool) (seq : Nat) (s : State) : Record :=
  ⟨seq, test, false, hardwareOrigin b, headerMs b s, s.survey.number, b⟩

theorem makeRoom_of_planIs (h : planIs k n s) :
    makeRoom k s = some (applyPlan (s.journal.records.drop n) (s.journal.free + usedSlots (s.journal.records.take n)) s) := by
  rw [makeRoom, planHere_of_planIs h]

theorem makeRoom_of_noPlan (h : noPlan k s) (hp : s.journal.policy = .printFirst) : makeRoom k s = none := by
  rw [makeRoom, planHere_none_iff.2 h, hp]

theorem flagsRaised_none (u : PortUnit) : flagsRaised 0 u = u := flagsRaised_zero u

/-- The low-space warning, when a free slot count x stands (R32). -/
theorem checkLow_eq (s : State) : checkLow s = { s with
    journal := { s.journal with armed := decide (1024 ≤ s.journal.free) }
    portA := flagsRaised (lowRaised s.journal.free s.journal) s.portA
    portB := flagsRaised (lowRaised s.journal.free s.journal) s.portB } := by
  unfold checkLow lowRaised
  by_cases h : s.journal.free < 1024
  · have hlow : s.journal.free < Config.lowSpace := h
    cases ha : s.journal.armed
    · rw [if_pos hlow, if_neg Bool.false_ne_true, if_neg (by simp), flagsRaised_none, flagsRaised_none,
        decide_eq_false (by omega : ¬ 1024 ≤ s.journal.free), ← ha]
    · rw [if_pos hlow, if_pos rfl, if_pos ⟨h, rfl⟩, decide_eq_false (by omega)]
      rfl
  · have hlow : ¬ s.journal.free < Config.lowSpace := h
    rw [if_neg hlow, if_neg fun hc => h hc.1, flagsRaised_none, flagsRaised_none, decide_eq_true (by omega : 1024 ≤ s.journal.free)]
    rfl

theorem checkLow_placeRecord (h : n ≤ s.journal.records.length) :
    checkLow (placeRecord b test (hardwareOrigin b)
      (applyPlan (s.journal.records.drop n) (s.journal.free + usedSlots (s.journal.records.take n)) s)) =
    placed [hardwareRecord b test s.journal.headSeq s] n s := by
  rw [checkLow_eq]
  simp only [placeRecord, applyPlan, tellPorts, newRecord, State.bothPorts, State.setJournal, pushCursor_eq, List.length_drop,
    Nat.sub_sub_self h, Nat.add_sub_cancel_left, placed, placedJournal, usedSlots_cons, usedSlots_nil, Nat.add_zero,
    pushedPort_arrivals, headerMs, hardwareRecord]
  rfl

/-- The MARK LOSS of the counts as they stand (R29). -/
def lossRecord (s : State) : Record := ⟨s.journal.headSeq, false, false, .survey, s.survey.clock, s.survey.number, lossMark s.journal⟩

/-- A record placed after the MARK LOSS of the pending losses (R29). -/
def markedThenPlaced (b : Body) (test : Bool) (n : Nat) (s : State) : State :=
  let u := placed [lossRecord s, hardwareRecord b test (s.journal.headSeq + 1) s] n s
  u.setJournal (zeroLoss u.journal)

theorem checkLow_placeLoss (h : n ≤ s.journal.records.length) :
    checkLow (placeRecord b test (hardwareOrigin b) (placeLoss
      (applyPlan (s.journal.records.drop n) (s.journal.free + usedSlots (s.journal.records.take n)) s))) =
    markedThenPlaced b test n s := by
  have hone := bodySlots_lossMark
  rw [checkLow_eq]
  simp only [placeLoss, placeRecord, applyPlan, tellPorts, newRecord, State.bothPorts, State.setJournal, pushCursor_eq, List.length_drop,
    Nat.sub_sub_self h, Nat.add_sub_cancel_left, markedThenPlaced, placed, placedJournal, usedSlots_cons, usedSlots_nil, Nat.add_zero,
    pushedPort_arrivals, headerMs, hardwareRecord, lossRecord, List.append_assoc, Record.slots, hone, zeroLoss, Nat.sub_sub, Nat.add_assoc,
    Nat.mod_add_mod, Config.journalSlots]
  rfl

/-! ### One hardware record (R21, R27, R29) -/

theorem hardwareOne_placed (hl : lossPending s.journal = false) (hp : planIs (bodySlots b) n s) :
    hardwareOne b test s = (placed [hardwareRecord b test s.journal.headSeq s] n s, some s.journal.headSeq) := by
  rw [hardwareOne, hl, makeRoom_of_planIs hp]
  exact congrArg₂ Prod.mk (checkLow_placeRecord hp.1) rfl

theorem hardwareOne_marked (hl : lossPending s.journal = true) (hp : planIs (bodySlots b + 1) n s) :
    hardwareOne b test s = (markedThenPlaced b test n s, some (s.journal.headSeq + 1)) := by
  rw [hardwareOne, hl, makeRoom_of_planIs hp]
  exact congrArg₂ Prod.mk (checkLow_placeLoss hp.1) rfl

/-- Room for the record alone: the losses stay pending (R29). -/
theorem hardwareOne_unmarked (hl : lossPending s.journal = true) (hf : s.journal.policy = .printFirst)
    (hn : noPlan (bodySlots b + 1) s) (hp : planIs (bodySlots b) n s) :
    hardwareOne b test s = (placed [hardwareRecord b test s.journal.headSeq s] n s, some s.journal.headSeq) := by
  rw [hardwareOne, hl, makeRoom_of_noPlan hn hf, makeRoom_of_planIs hp]
  exact congrArg₂ Prod.mk (checkLow_placeRecord hp.1) rfl

theorem hardwareOne_dropped (hf : s.journal.policy = .printFirst) (hn : noPlan (bodySlots b) s) :
    hardwareOne b test s = (dropRecord (bodyKind b) s, none) := by
  have hmore : noPlan (bodySlots b + 1) s := Nat.lt_succ_of_lt hn
  rw [hardwareOne, makeRoom_of_noPlan hmore hf, makeRoom_of_noPlan hn hf]
  cases lossPending s.journal <;> rfl

/-! ### APPEND (R21) -/

/-- The capture after the answer to a record (R21, R104). -/
def capAnswered (b : Body) (answer : Option Nat) (c : CaptureUnit) : CaptureUnit :=
  match b with
  | .wave w =>
    if c.capturing = true ∧ c.number = w.capture then
      match answer with
      | some n => { c with firstWave := some (c.firstWave.getD n), stored := c.stored + 1 }
      | none => { c with refused := true }
    else c
  | _ => c

theorem capAnswered_other {m : Option Nat} {c : CaptureUnit}
    (h : ∀ w, b = .wave w → c.capturing = true → c.number ≠ w.capture) : capAnswered b m c = c := by
  cases b with
  | wave w => exact if_neg fun hw => h w rfl hw.1 hw.2
  | _ => rfl

theorem exec_append (hr : s.survey.state = .running) (hb : hardwareBody b = true) {u : State} {m : Option Nat}
    (h : hardwareOne b test s = (u, m)) (hc : u.cap = s.cap) :
    exec (.append b test) s = .next { limitTested u with cap := capAnswered b m s.cap } := by
  have happ : hardwareAppend b test s = (limitTested u, m) := by rw [hardwareAppend, h, checkLimit_eq]
  have hcap : (limitTested u).cap = s.cap := by
    rw [← hc, limitTested]
    split <;> rfl
  have hself : { limitTested u with cap := s.cap } = limitTested u := by rw [← hcap]
  have hcond : s.survey.state = .running ∧ hardwareBody b = true := ⟨hr, hb⟩
  show Host.Outcome.next _ = _
  rw [if_pos hcond, happ]
  cases b with
  | wave w =>
    by_cases hw : s.cap.capturing = true ∧ s.cap.number = w.capture
    · have hans : capAnswered (.wave w) m s.cap = (waveAnswered (limitTested u, m)).cap := by
        cases m <;> exact (if_pos hw).trans (by rw [waveAnswered, ← hcap])
      rw [hans]
      refine congrArg _ ((if_pos hw).trans ?_)
      cases m <;> rfl
    · have hans : capAnswered (.wave w) m s.cap = s.cap := if_neg hw
      rw [hans, hself]
      exact congrArg _ (if_neg hw)
  | _ => exact congrArg _ hself.symm

theorem exec_append_idle (h : s.survey.state ≠ .running ∨ hardwareBody b = false) : exec (.append b test) s = .next s := by
  refine congrArg _ (if_neg ?_)
  rintro ⟨h1, h2⟩
  exact h.elim (fun h => h h1) (fun h => by rw [h] at h2; cases h2)

/-- Settles O10. -/
theorem appendReclaimsThenPlaces : Obligations.AppendReclaimsThenPlaces := by
  refine ⟨fun b test s n hr hb hl hp => ?_, fun b test s h => exec_append_idle h⟩
  have hexec := exec_append hr hb (hardwareOne_placed (test := test) hl hp) rfl
  have hcap : ∀ w, b = .wave w → s.cap.capturing = true → s.cap.number = w.capture →
      capAnswered b (some s.journal.headSeq) s.cap =
        { s.cap with firstWave := some (s.cap.firstWave.getD s.journal.headSeq), stored := s.cap.stored + 1 } := by
    rintro w rfl h1 h2
    exact if_pos ⟨h1, h2⟩
  have hother := capAnswered_other (b := b) (m := some s.journal.headSeq) (c := s.cap)
  by_cases hlim : isRunning s ∧ 0xFFFFFF00 ≤ s.journal.headSeq + 1
  · rw [limitTested, if_pos (by exact hlim)] at hexec
    exact ⟨_, hexec, rfl, rfl, rfl, fun _ => ⟨rfl, rfl⟩, fun h => absurd ⟨hlim.2, hlim.1.2⟩ h, hcap, hother, rfl⟩
  · rw [limitTested, if_neg (by exact hlim)] at hexec
    exact ⟨_, hexec, rfl, rfl, rfl, fun h => absurd ⟨⟨hr, h.2⟩, h.1⟩ hlim, fun _ => ⟨rfl, rfl⟩, hcap, hother, rfl⟩

end Sys2Proof.Machine

/-! PROOF (O11). A record without room is counted as lost; the MARK LOSS of pending losses goes before the next record. -/

namespace Sys2Proof.Machine

open Sys2Proof

variable {s t : State} {b : Body} {test : Bool} {n k : Nat}

/-! ### A dropped record (R27, R28) -/

theorem limitTested_of_below (h : s.journal.headSeq < 0xFFFFFF00) : limitTested s = s := if_neg fun hc => by omega

theorem dropRecord_eq (k : RecordKind) (s : State) : dropRecord k s = { s with
    journal :=
      match k with
      | .event => { s.journal with lossEvent := min 0xFFFFFFFF (s.journal.lossEvent + 1) }
      | .wave => { s.journal with lossWave := min 0xFFFFFFFF (s.journal.lossWave + 1) }
      | .interval => { s.journal with lossInterval := min 0xFFFFFFFF (s.journal.lossInterval + 1) }
      | _ => { s.journal with lossMark := min 0xFFFFFFFF (s.journal.lossMark + 1) }
    portA := flagsRaised 0x20 s.portA, portB := flagsRaised 0x20 s.portB } := by
  cases k <;> rfl

theorem headSeq_dropRecord (k : RecordKind) (s : State) : (dropRecord k s).journal.headSeq = s.journal.headSeq := by
  cases k <;> rfl

/-- The capture is told of a refused WAVE of its own capture (R27, R104). -/
theorem capAnswered_none (b : Body) (c : CaptureUnit) : capAnswered b none c = { c with refused := c.refused ||
    (match b with | .wave w => c.capturing && c.number == w.capture | _ => false) } := by
  have hself : { c with refused := c.refused || false } = c := by rw [Bool.or_false]
  cases b with
  | wave w =>
    by_cases hw : c.capturing = true ∧ c.number = w.capture
    · have hb : (c.capturing && c.number == w.capture) = true := by rw [Bool.and_eq_true, beq_iff_eq]; exact hw
      refine (if_pos hw).trans ?_
      dsimp only
      rw [hb, Bool.or_true]
    · have hb : (c.capturing && c.number == w.capture) = false := by
        rw [Bool.eq_false_iff, ne_eq, Bool.and_eq_true, beq_iff_eq]; exact hw
      refine (if_neg hw).trans ?_
      dsimp only
      rw [hb, Bool.or_false]
  | _ => exact hself.symm

/-! ### A record after its MARK LOSS (R29) -/

theorem markedThenPlaced_eq (b : Body) (test : Bool) (n : Nat) (s : State) :
    let j := s.journal
    let gone := usedSlots (j.records.take n)
    let free := j.free + gone - (bodySlots b + 1)
    let port := portTold (j.tailSeq + n) (lowRaised free j) [.mark, bodyKind b]
    markedThenPlaced b test n s = { s with
      journal := { j with
        records := j.records.drop n ++ [lossRecord s, hardwareRecord b test (j.headSeq + 1) s]
        tailSeq := j.tailSeq + n, tailSlot := (j.tailSlot + gone) % 8192
        headSeq := j.headSeq + 2, headSlot := (j.headSlot + 1 + bodySlots b) % 8192
        free := free, armed := decide (1024 ≤ free), lossEvent := 0, lossWave := 0, lossInterval := 0, lossMark := 0 }
      portA := port s.portA, portB := port s.portB } := by
  have hslots : usedSlots [lossRecord s, hardwareRecord b test (s.journal.headSeq + 1) s] = bodySlots b + 1 := by
    rw [usedSlots_cons, usedSlots_cons, usedSlots_nil, show (lossRecord s).slots = 1 from bodySlots_lossMark _, Nat.add_zero, Nat.add_comm]
    rfl
  have hhead : s.journal.headSlot + (bodySlots b + 1) = s.journal.headSlot + 1 + bodySlots b := by omega
  simp only [markedThenPlaced, placed, placedJournal, hslots, hhead]
  rfl

/-- The losses as they stood before an append. -/
def withLosses (j : JournalUnit) (s : State) : State :=
  s.setJournal { s.journal with
    lossEvent := j.lossEvent, lossWave := j.lossWave, lossInterval := j.lossInterval, lossMark := j.lossMark }

theorem limitTested_withLosses (j : JournalUnit) (s : State) : limitTested (withLosses j s) = withLosses j (limitTested s) := by
  by_cases h : isRunning s ∧ 0xFFFFFF00 ≤ s.journal.headSeq
  · rw [limitTested, limitTested, if_pos h, if_pos (by exact h)]
    rfl
  · rw [limitTested, limitTested, if_neg h, if_neg (by exact h)]

/-- Settles O11. -/
theorem lossesAreCountedThenMarked : Obligations.LossesAreCountedThenMarked := by
  refine ⟨fun b test s hr hb hf hn hlim => ?_, fun b test s n hr hb hl hp => ?_, fun b test s n hr hb hl hf hn hp => ?_⟩
  · have hone := hardwareOne_dropped (test := test) hf hn
    rw [exec_append hr hb hone (by rw [dropRecord_eq]), limitTested_of_below (by rwa [headSeq_dropRecord]), capAnswered_none, dropRecord_eq]
      <;> rfl
  · have hexec := exec_append hr hb (hardwareOne_marked (test := test) hl hp) rfl
    rw [markedThenPlaced_eq] at hexec
    have hother := capAnswered_other (b := b) (m := some (s.journal.headSeq + 1)) (c := s.cap)
    have hcap : ∀ w, b = .wave w → s.cap.capturing = true → s.cap.number = w.capture →
        capAnswered b (some (s.journal.headSeq + 1)) s.cap =
          { s.cap with firstWave := some (s.cap.firstWave.getD (s.journal.headSeq + 1)), stored := s.cap.stored + 1 } := by
      rintro w rfl h1 h2
      exact if_pos ⟨h1, h2⟩
    by_cases hlim : isRunning s ∧ 0xFFFFFF00 ≤ s.journal.headSeq + 2
    · rw [limitTested, if_pos (by exact hlim)] at hexec
      exact ⟨_, hexec, rfl, rfl, rfl, fun _ => ⟨rfl, rfl⟩, fun h => absurd ⟨hlim.2, hlim.1.2⟩ h, hcap, hother, rfl⟩
    · rw [limitTested, if_neg (by exact hlim)] at hexec
      exact ⟨_, hexec, rfl, rfl, rfl, fun h => absurd ⟨⟨hr, h.2⟩, h.1⟩ hlim, fun _ => ⟨rfl, rfl⟩, hcap, hother, rfl⟩
  · have hone := hardwareOne_unmarked (test := test) hl hf hn hp
    have hzero := hardwareOne_placed (b := b) (test := test) (n := n) (s := s.setJournal (zeroLoss s.journal)) rfl hp
    refine ⟨_, exec_append (s := s.setJournal (zeroLoss s.journal)) hr hb hzero rfl, ?_⟩
    have hplaced : placed [hardwareRecord b test s.journal.headSeq s] n s =
        withLosses s.journal (placed [hardwareRecord b test s.journal.headSeq s] n (s.setJournal (zeroLoss s.journal))) := rfl
    rw [exec_append hr hb hone rfl, hplaced, limitTested_withLosses]
    cases b <;> rfl

end Sys2Proof.Machine

/-! PROOF (part of O12). Yields under CAPTURE_FIRST: which job yields first, what is left to yield, and that room is always made. -/

namespace Sys2Proof.Machine

open Sys2Proof

variable {s t : State} {before after : List Job} {j : Job} {n k h : Nat}

/-! ### The order of the yields (R26) -/

/-- The holds of a queue, front first, each with its job's number. -/
def holdsOf (q : List Job) : List (Nat × Nat) := q.filterMap fun j => j.hold.map fun h => (h, j.number)

/-- Pairs put one after another into a list, by hold, an earlier pair first among equals. -/
def insertAll (l acc : List (Nat × Nat)) : List (Nat × Nat) := l.foldl (fun acc x => insertByHold x.1 x.2 acc) acc

theorem yieldOrder_eq (s : State) : yieldOrder s = (insertAll (holdsOf s.comp.queue) []).map Prod.snd := rfl

theorem insertByHold_lowest {acc : List (Nat × Nat)} (hl : ∀ x ∈ acc, h < x.1) : insertByHold h n acc = (h, n) :: acc := by
  cases acc with
  | nil => rfl
  | cons x rest => exact if_pos (hl x List.mem_cons_self)

theorem insertByHold_behind {x : Nat × Nat} {acc : List (Nat × Nat)} (hl : h ≤ x.1) :
    insertByHold x.1 x.2 ((h, n) :: acc) = (h, n) :: insertByHold x.1 x.2 acc := if_neg (Nat.not_lt.2 hl)

theorem mem_insertByHold {x : Nat × Nat} {acc : List (Nat × Nat)} (hx : x ∈ insertByHold h n acc) : x = (h, n) ∨ x ∈ acc := by
  induction acc with
  | nil => exact .inl (List.mem_singleton.1 hx)
  | cons y rest ih =>
    rw [insertByHold] at hx
    split at hx
    · exact (List.mem_cons.1 hx).imp id fun hx => hx
    · obtain rfl | hx := List.mem_cons.1 hx
      · exact .inr List.mem_cons_self
      · exact (ih hx).imp_right (List.mem_cons_of_mem _)

theorem mem_insertAll {x : Nat × Nat} {l acc : List (Nat × Nat)} (hx : x ∈ insertAll l acc) : x ∈ l ∨ x ∈ acc := by
  induction l generalizing acc with
  | nil => exact .inr hx
  | cons y rest ih =>
    obtain hx | hx := ih hx
    · exact .inl (List.mem_cons_of_mem _ hx)
    · obtain rfl | hx := mem_insertByHold hx
      · exact .inl List.mem_cons_self
      · exact .inr hx

theorem insertAll_behind {l acc : List (Nat × Nat)} (hl : ∀ x ∈ l, h ≤ x.1) : insertAll l ((h, n) :: acc) = (h, n) :: insertAll l acc := by
  induction l generalizing acc with
  | nil => rfl
  | cons y rest ih =>
    show insertAll rest (insertByHold y.1 y.2 ((h, n) :: acc)) = _
    rw [insertByHold_behind (hl y List.mem_cons_self), ih fun x hx => hl x (List.mem_cons_of_mem _ hx)]
    rfl

/-- The lowest hold, the front one among equals, comes first, and the others stay in their order. -/
theorem insertAll_first {a b : List (Nat × Nat)} (ha : ∀ x ∈ a, h < x.1) (hb : ∀ x ∈ b, h ≤ x.1) :
    insertAll (a ++ (h, n) :: b) [] = (h, n) :: insertAll (a ++ b) [] := by
  have hall : ∀ x ∈ insertAll a [], h < x.1 := fun x hx => (mem_insertAll hx).elim (ha x) nofun
  unfold insertAll at hall ⊢
  rw [List.foldl_append, List.foldl_cons, insertByHold_lowest hall, List.foldl_append]
  exact insertAll_behind hb

theorem mem_holdsOf {q : List Job} {x : Nat × Nat} : x ∈ holdsOf q ↔ ∃ i ∈ q, i.hold = some x.1 ∧ i.number = x.2 := by
  simp only [holdsOf, List.mem_filterMap, Option.map_eq_some_iff]
  constructor
  · rintro ⟨i, hi, h, hh, rfl⟩; exact ⟨i, hi, hh, rfl⟩
  · rintro ⟨i, hi, hh, hn⟩; exact ⟨i, hi, x.1, hh, by rw [hn]⟩

theorem holdsOf_append (q r : List Job) : holdsOf (q ++ r) = holdsOf q ++ holdsOf r := List.filterMap_append

theorem holdsOf_cons_some (r : List Job) (hj : j.hold = some h) : holdsOf (j :: r) = (h, j.number) :: holdsOf r := by
  rw [holdsOf, List.filterMap_cons, hj]; rfl

theorem holdsOf_cons_none (r : List Job) (hj : j.hold = none) : holdsOf (j :: r) = holdsOf r := by
  rw [holdsOf, List.filterMap_cons, hj]; rfl

/-! ### The job that yields (R26, R175) -/

theorem holdsOf_yielded (hq : s.comp.queue = before ++ j :: after) : holdsOf (yielded before j after s).comp.queue = holdsOf (before ++ after) := by
  unfold yielded
  dsimp only
  by_cases hb : before = []
  · subst hb
    rw [if_neg (not_not.2 rfl)]
    split
    · rw [headLeft]
      cases after <;> rfl
    · split <;> exact holdsOf_cons_none _ rfl
  · rw [if_pos hb]
    rfl

theorem yieldOrder_yieldsFirst (hy : yieldsFirst before j after s) : yieldOrder s = j.number :: yieldOrder (yielded before j after s) := by
  obtain ⟨hq, h, hj, hbefore, hafter⟩ := hy
  have hb : ∀ x ∈ holdsOf before, h < x.1 := fun x hx => by
    obtain ⟨i, hi, hh, -⟩ := mem_holdsOf.1 hx
    exact hbefore i hi _ hh
  have ha : ∀ x ∈ holdsOf after, h ≤ x.1 := fun x hx => by
    obtain ⟨i, hi, hh, -⟩ := mem_holdsOf.1 hx
    exact hafter i hi _ hh
  rw [yieldOrder_eq, yieldOrder_eq, holdsOf_yielded hq, hq, holdsOf_append, holdsOf_cons_some _ hj, insertAll_first hb ha, holdsOf_append]
  rfl

/-- A job that holds records has no closing (R173, R175). -/
theorem closing_of_hold (hs : QueueSound s.comp) (hq : s.comp.queue = before ++ j :: after) (hj : j.hold = some h) : j.closing = .none := by
  obtain ⟨-, -, -, -, -, hhead, htail⟩ := hs
  rw [hq] at hhead htail
  cases before with
  | nil =>
    have hsound : headSound j = true := hhead
    have hboth : ¬ j.state = .queued ∧ j.closing = .none := by simpa [headSound, hj] using hsound
    exact hboth.2
  | cons i rest =>
    rw [List.cons_append, List.tail_cons, List.all_append, Bool.and_eq_true, List.all_cons, Bool.and_eq_true] at htail
    have hsound := htail.2.1
    simp only [queuedSound, Bool.and_eq_true, beq_iff_eq] at hsound
    exact hsound.1.1.1.2

/-- Numbers of jobs in the queue are their own (R157). -/
theorem number_ne_of_nodup {q : List Job} (hnodup : (q.map Job.number).Nodup) (hq : q = before ++ j :: after) :
    (∀ i ∈ before, i.number ≠ j.number) ∧ ∀ i ∈ after, i.number ≠ j.number := by
  rw [hq, List.map_append, List.map_cons, List.nodup_append] at hnodup
  obtain ⟨-, hnodup, hdisj⟩ := hnodup
  refine ⟨fun i hi => hdisj _ (List.mem_map_of_mem hi) _ List.mem_cons_self, fun i hi e => ?_⟩
  exact (List.nodup_cons.1 hnodup).1 (e ▸ List.mem_map_of_mem hi)

theorem find_number (hq : s.comp.queue = before ++ j :: after) (hb : ∀ i ∈ before, i.number ≠ j.number) :
    (s.comp.queue.find? fun i => i.number == j.number) = some j := by
  rw [hq, List.find?_append, List.find?_eq_none.2 fun i hi => by simpa using hb i hi, Option.none_or,
    List.find?_cons_of_pos (by simp)]

theorem filter_number (hq : s.comp.queue = before ++ j :: after) (hb : ∀ i ∈ before, i.number ≠ j.number)
    (ha : ∀ i ∈ after, i.number ≠ j.number) : (s.comp.queue.filter fun i => i.number != j.number) = before ++ after := by
  rw [hq, List.filter_append, List.filter_eq_self.2 fun i hi => by simpa using hb i hi, List.filter_cons_of_neg (by simp),
    List.filter_eq_self.2 fun i hi => by simpa using ha i hi]

theorem closingTodo_yield (todo : List LineSpec) : closingTodo .yield todo =
    todo.filter (fun l => match l with | .command _ => false | _ => true)
      ++ [.closingLine (ascii "REPORT CUT: JOURNAL SPACE NEEDED"), .command [0x02, 4, 0x03]] := by
  have hkept : (fun l => !isCommand l) = fun l => match l with | .command _ => false | _ => true := by
    funext l
    cases l <;> rfl
  rw [closingTodo, hkept]
  rfl

/-- The head job's yield (R174, R175). -/
theorem closeHead_yield (hq : s.comp.queue = j :: after) (hstate : j.state ≠ .queued) :
    closeHead .yield s = yielded [] j after s := by
  unfold yielded closeHead
  rw [hq]
  dsimp only
  rw [if_neg (not_not.2 rfl)]
  cases hst : j.state with
  | queued => exact absurd hst hstate
  | printing =>
    by_cases hc : s.line.state = .sending ∧ s.comp.asked = false
    · refine (if_pos hc).trans ?_
      rw [closingTodo_yield]
      simp only [reduceCtorEq, if_false, hc, and_self, if_true]
      rfl
    · refine (if_neg hc).trans ?_
      simp only [reduceCtorEq, if_false, hc, and_false]
      rfl
  | stalled => rfl
  | suspended =>
    simp only [if_true]
    refine (headLeaves_eq (j := ?head) _ (rest := after) ?front).trans ?left
    case front => rfl
    case left => rfl

theorem endPosition_yielded (hclosing : j.closing = .none) :
    endPosition j .yielded = if j.began then some j.position else none := by rw [endPosition]; exact if_pos hclosing; nofun

/-- The yield of a job as the queue takes it is the one the statements describe. -/
theorem yieldJob_eq_yielded (hs : QueueSound s.comp) (hq : s.comp.queue = before ++ j :: after) (hj : j.hold = some h) :
    yieldJob j.number s = yielded before j after s := by
  have hclosing := closing_of_hold hs hq hj
  cases before with
  | nil =>
    have hhead : headSound j = true := by
      have := hs.2.2.2.2.2.1
      rwa [hq] at this
    simp only [headSound, Bool.and_eq_true, bne_iff_ne] at hhead
    rw [yieldJob, hq]
    dsimp only [List.nil_append]
    rw [if_pos rfl, if_pos hclosing, closeHead_yield hq hhead.1]
  | cons i rest =>
    obtain ⟨hb, ha⟩ := number_ne_of_nodup hs.2.2.2.1 hq
    rw [yieldJob, hq]
    dsimp only [List.cons_append]
    rw [if_neg (hb i List.mem_cons_self), queuedLeaves, find_number hq hb, filter_number hq hb ha, yielded,
      if_pos (List.cons_ne_nil _ _)]
    dsimp only
    rw [pushEnd_eq, endEntry, endPosition_yielded hclosing]
    rfl

/-! ### Room under CAPTURE_FIRST (R22, R26) -/

theorem journal_yielded (hs : QueueSound s.comp) (hy : yieldsFirst before j after s) : (yielded before j after s).journal = s.journal := by
  obtain ⟨hq, h, hj, -⟩ := hy
  rw [← yieldJob_eq_yielded hs hq hj, journal_yieldJob]

theorem yieldUntil_of_planHere {left : List Record} {free : Nat} (hp : planHere k s = some (left, free)) (l : List Nat) :
    yieldUntil k l s = some (applyPlan left free s) := by
  cases l <;> simp only [yieldUntil, hp, Option.map_some]

/-- Room made under CAPTURE_FIRST: by the plan, or by the yields in their order. -/
theorem makeRoom_captureFirst (hc : s.journal.policy = .captureFirst) : makeRoom k s = yieldUntil k (yieldOrder s) s := by
  rw [makeRoom]
  cases hp : planHere k s with
  | some x => exact (yieldUntil_of_planHere hp _).symm
  | none => dsimp only; rw [hc]

/-- While no plan gives the slots, room is made as it would be after the first yield. -/
theorem makeRoom_yielded (hc : s.journal.policy = .captureFirst) (hs : QueueSound s.comp) (hn : noPlan k s)
    (hy : yieldsFirst before j after s) : makeRoom k s = makeRoom k (yielded before j after s) := by
  have hc' : (yielded before j after s).journal.policy = .captureFirst := by rw [journal_yielded hs hy, hc]
  have hfirst : yieldUntil k (j.number :: yieldOrder (yielded before j after s)) s =
      yieldUntil k (yieldOrder (yielded before j after s)) (yieldJob j.number s) := by
    rw [yieldUntil, planHere_none_iff.2 hn]
  obtain ⟨hq, h, hj, -⟩ := id hy
  rw [makeRoom_captureFirst hc, makeRoom_captureFirst hc', yieldOrder_yieldsFirst hy, hfirst, yieldJob_eq_yielded hs hq hj]

theorem queueSound_yielded (hs : QueueSound s.comp) (hy : yieldsFirst before j after s) : QueueSound (yielded before j after s).comp := by
  obtain ⟨hq, h, hj, -⟩ := hy
  rw [← yieldJob_eq_yielded hs hq hj]
  exact (queueMove_yieldJob j.number s).sound hs

/-- Some job yields first when any holds records. -/
theorem exists_yieldsFirst {q : List Job} (h : ∃ i ∈ q, i.hold.isSome = true) : ∃ before j after, q = before ++ j :: after ∧
    ∃ h, j.hold = some h ∧ (∀ i ∈ before, ∀ k, i.hold = some k → h < k) ∧ ∀ i ∈ after, ∀ k, i.hold = some k → h ≤ k := by
  induction q with
  | nil => obtain ⟨i, hi, -⟩ := h; cases hi
  | cons x rest ih =>
    by_cases hrest : ∃ i ∈ rest, i.hold.isSome = true
    · obtain ⟨before, j, after, rfl, h, hj, hb, ha⟩ := ih hrest
      by_cases hx : ∃ k, x.hold = some k ∧ k ≤ h
      · obtain ⟨k, hk, hle⟩ := hx
        refine ⟨[], x, before ++ j :: after, rfl, k, hk, fun i hi => absurd hi List.not_mem_nil, fun i hi m hm => ?_⟩
        rw [List.mem_append, List.mem_cons] at hi
        obtain hi | rfl | hi := hi
        · exact hle.trans (hb i hi m hm).le
        · rw [hj] at hm; cases hm; exact hle
        · exact hle.trans (ha i hi m hm)
      · refine ⟨x :: before, j, after, rfl, h, hj, fun i hi m hm => ?_, ha⟩
        obtain rfl | hi := List.mem_cons.1 hi
        · exact Nat.lt_of_not_le fun hle => hx ⟨m, hm, hle⟩
        · exact hb i hi m hm
    · obtain ⟨i, hi, hs⟩ := h
      obtain rfl | hi := List.mem_cons.1 hi
      · obtain ⟨k, hk⟩ := Option.isSome_iff_exists.1 hs
        exact ⟨[], i, rest, rfl, k, hk, fun i hi => absurd hi List.not_mem_nil, fun i' hi' m hm => absurd ⟨i', hi', by rw [hm]; rfl⟩ hrest⟩
      · exact absurd ⟨i, hi, hs⟩ hrest

theorem holdPoint_none (h : holdsOf s.comp.queue = []) : holdPoint s = none := by
  have hall : ∀ i ∈ s.comp.queue, i.hold = none := fun i hi => by
    cases hh : i.hold with
    | none => rfl
    | some x =>
      have : (x, i.number) ∈ holdsOf s.comp.queue := mem_holdsOf.2 ⟨i, hi, hh, rfl⟩
      rw [h] at this; cases this
  rw [holdPoint, List.map_congr_left hall]
  induction s.comp.queue with
  | nil => rfl
  | cons x rest ih => exact congrArg (lowerHold none) ih

/-- Without holds every record may be reclaimed, so the plan gives any slots that the store has (R22). -/
theorem not_noPlan_of_holds (hj : JournalSound s.journal) (hk : k ≤ 8192) (h : holdsOf s.comp.queue = []) : ¬ noPlan k s := by
  obtain ⟨-, -, -, hfree, -⟩ := hj
  have hall : s.journal.records.takeWhile (reclaimable none) = s.journal.records :=
    List.takeWhile_eq_self_iff.2 fun _ _ => rfl
  rw [noPlan, holdPoint_none h, hall]
  omega

/-- Room is always made under CAPTURE_FIRST (R26). -/
theorem makeRoom_captureFirst_isSome (hc : s.journal.policy = .captureFirst) (hj : JournalSound s.journal) (hs : QueueSound s.comp)
    (hk : k ≤ 8192) : (makeRoom k s).isSome = true := by
  induction hlen : (holdsOf s.comp.queue).length generalizing s with
  | zero =>
    cases hp : planHere k s with
    | some x => rw [makeRoom, hp]; rfl
    | none => exact absurd (planHere_none_iff.1 hp) (not_noPlan_of_holds hj hk (List.length_eq_zero_iff.1 hlen))
  | succ m ih =>
    cases hp : planHere k s with
    | some x => rw [makeRoom, hp]; rfl
    | none =>
      have hsome : ∃ i ∈ s.comp.queue, i.hold.isSome = true := by
        obtain ⟨x, hx⟩ := List.exists_mem_of_length_pos (by omega : 0 < (holdsOf s.comp.queue).length)
        obtain ⟨i, hi, hh, -⟩ := mem_holdsOf.1 hx
        exact ⟨i, hi, by rw [hh]; rfl⟩
      obtain ⟨before, j, after, hy⟩ : ∃ before j after, yieldsFirst before j after s := exists_yieldsFirst hsome
      rw [makeRoom_yielded hc hs (planHere_none_iff.1 hp) hy]
      have hjournal := journal_yielded hs hy
      refine ih (by rw [hjournal, hc]) (by rwa [hjournal]) (queueSound_yielded hs hy) ?_
      obtain ⟨hq, h, hhold, -⟩ := id hy
      rw [holdsOf_yielded hq, holdsOf_append, List.length_append]
      rw [hq, holdsOf_append, holdsOf_cons_some _ hhold, List.length_append, List.length_cons] at hlen
      omega

end Sys2Proof.Machine

/-! PROOF (O12). Under CAPTURE_FIRST a hardware append always succeeds, after the yields that it needs. -/

namespace Sys2Proof.Machine

open Sys2Proof

variable {s t u : State} {b : Body} {test : Bool} {before after : List Job} {j : Job} {n k : Nat}

theorem journal_limitTested (s : State) : (limitTested s).journal = s.journal := by
  rw [limitTested]
  split <;> rfl

theorem bodySlots_of_hardwareBody (hb : hardwareBody b = true) : bodySlots b ≤ 16 := by
  unfold hardwareBody at hb
  rw [Bool.and_eq_true, decide_eq_true_iff] at hb
  exact hb.2

theorem lossPending_false (j : JournalUnit) :
    lossPending j = false ↔ j.lossEvent = 0 ∧ j.lossWave = 0 ∧ j.lossInterval = 0 ∧ j.lossMark = 0 := by
  simp [lossPending, and_assoc]

/-- A record placed after room was made, behind the MARK LOSS where one is pending (R21, R29). -/
theorem hardwareOne_captureFirst (hroom : makeRoom (bodySlots b + if lossPending s.journal then 1 else 0) s = some u) :
    hardwareOne b test s = (checkLow (placeRecord b test (hardwareOrigin b) (if lossPending s.journal then placeLoss u else u)),
      some (if lossPending s.journal then placeLoss u else u).journal.headSeq) := by
  unfold hardwareOne
  dsimp only
  cases hl : lossPending s.journal with
  | true =>
    rw [hl] at hroom
    rw [show makeRoom (bodySlots b + 1) s = some u from hroom]
    rfl
  | false =>
    rw [hl] at hroom
    rw [show makeRoom (bodySlots b) s = some u from hroom]
    rfl

theorem checkLow_journal (s : State) : (checkLow s).journal = { s.journal with armed := decide (1024 ≤ s.journal.free) } := by
  rw [checkLow_eq]

/-- What the journal holds after a record is placed. -/
theorem hardwareOne_newest (hroom : makeRoom (bodySlots b + if lossPending s.journal then 1 else 0) s = some u) :
    ∃ r, (hardwareOne b test s).1.journal.records.getLast? = some r ∧ r.body = b ∧ r.test = test ∧ r.origin = hardwareOrigin b ∧
      r.seq + 1 = (hardwareOne b test s).1.journal.headSeq ∧ s.journal.headSeq ≤ r.seq ∧
      lossPending (hardwareOne b test s).1.journal = false := by
  obtain ⟨-, hhead, -, -, -, h1, h2, h3, h4⟩ := sameBeside_makeRoom hroom
  rw [hardwareOne_captureFirst hroom]
  dsimp only
  rw [checkLow_journal]
  cases hl : lossPending s.journal with
  | true =>
    refine ⟨_, List.getLast?_concat, rfl, rfl, rfl, rfl, ?_, rfl⟩
    show _ ≤ u.journal.headSeq + 1
    omega
  | false =>
    refine ⟨_, List.getLast?_concat, rfl, rfl, rfl, rfl, hhead.ge, ?_⟩
    rw [lossPending_false] at hl ⊢
    obtain ⟨l1, l2, l3, l4⟩ := hl
    exact ⟨h1.trans l1, h2.trans l2, h3.trans l3, h4.trans l4⟩

/-- What a yield leaves: everything but the queue, the line and the ports. -/
theorem sameBeside_yielded (hs : QueueSound s.comp) (hy : yieldsFirst before j after s) : sameBeside s (yielded before j after s) := by
  obtain ⟨hq, h, hj, -⟩ := hy
  rw [← yieldJob_eq_yielded hs hq hj]
  exact sameBeside_yieldJob _ _

/-- Settles O12. -/
theorem captureFirstAlwaysAppends : Obligations.CaptureFirstAlwaysAppends := by
  have room : ∀ b (s : State), hardwareBody b = true → s.journal.policy = .captureFirst → JournalSound s.journal → QueueSound s.comp →
      ∃ u, makeRoom (bodySlots b + if lossPending s.journal then 1 else 0) s = some u := fun b s hb hc hj hs => by
    have hslots := bodySlots_of_hardwareBody hb
    exact Option.isSome_iff_exists.1 (makeRoom_captureFirst_isSome hc hj hs (by split <;> omega))
  refine ⟨fun b test s hr hb hc hj hs => ?_, fun b test s before j after hr hb hc hj hs hn hy => ?_⟩
  · obtain ⟨u, hroom⟩ := room b s hb hc hj hs
    obtain ⟨r, hlast, hbody, htest, horigin, hseq, hle, hloss⟩ := hardwareOne_newest (test := test) hroom
    refine ⟨_, r, exec_append hr hb rfl (appends_hardwareOne b test s).beside.cap, ?_⟩
    have hsound := appends_journalSound (appends_hardwareOne b test s) hj
    dsimp only
    rw [journal_limitTested]
    exact ⟨hlast, hbody, htest, horigin, hseq, hle, (lossPending_false _).1 hloss, hsound.2.2.2.1⟩
  · obtain ⟨u, hroom⟩ := room b s hb hc hj hs
    have hjournal := journal_yielded hs hy
    have hsame := (sameBeside_yielded hs hy).1
    have hroom' : makeRoom (bodySlots b + if lossPending (yielded before j after s).journal then 1 else 0) (yielded before j after s) =
        some u := by
      rw [hjournal, ← makeRoom_yielded hc hs hn hy, hroom]
    have hone : hardwareOne b test (yielded before j after s) = hardwareOne b test s := by
      rw [hardwareOne_captureFirst hroom, hardwareOne_captureFirst hroom', hjournal]
    have hcap : (yielded before j after s).cap = s.cap := by rw [hsame]
    have hr' : (yielded before j after s).survey.state = .running := by rw [hsame]; exact hr
    have hkept := (appends_hardwareOne b test s).beside.cap
    rw [exec_append hr hb rfl hkept, exec_append hr' hb hone (hkept.trans hcap.symm), hcap]

end Sys2Proof.Machine

/-! PROOF (O9). The wall time follows its table, and SET_TIME appends its step and its mark as one event; with the rules for a port's
append that the other port appends use too. -/

namespace Sys2Proof.Machine

open Sys2Proof

variable {s t u : State} {p : Port} {b : Body} {body : List Word} {before after : List Job} {j : Job} {n k : Nat}

/-! ### A port's append (R20, R22, R27) -/

theorem yieldJob_congr (hc : s.comp = t.comp) (hl : s.line = t.line) (n : Nat) :
    (yieldJob n s).comp = (yieldJob n t).comp ∧ (yieldJob n s).line = (yieldJob n t).line := by
  have hqueued : (queuedLeaves n .yielded s).comp = (queuedLeaves n .yielded t).comp ∧
      (queuedLeaves n .yielded s).line = (queuedLeaves n .yielded t).line := by
    unfold queuedLeaves
    rw [hc]
    split
    · exact ⟨rfl, hl⟩
    · exact ⟨hc, hl⟩
  have hhead : (closeHead .yield s).comp = (closeHead .yield t).comp ∧ (closeHead .yield s).line = (closeHead .yield t).line := by
    unfold closeHead
    rw [hc, hl]
    split
    · exact ⟨hc, hl⟩
    · rename_i j rest hq
      cases hst : j.state with
      | stalled => exact ⟨rfl, hl⟩
      | suspended =>
        dsimp only
        refine ⟨rfl, ?_⟩
        show stopServing _ s.line = stopServing _ t.line
        rw [hl]
      | _ =>
        dsimp only
        split
        · exact ⟨rfl, hl⟩
        · exact ⟨rfl, hl⟩
  unfold yieldJob
  rw [hc]
  split
  · exact ⟨hc, hl⟩
  · split
    · split
      · exact hhead
      · exact ⟨hc, hl⟩
    · exact hqueued

theorem planHere_congr (hj : s.journal = t.journal) (hc : s.comp = t.comp) (k : Nat) : planHere k s = planHere k t := by
  rw [planHere, planHere, holdPoint, holdPoint, hj, hc]

theorem yieldUntil_isSome_congr {l : List Nat} (hj : s.journal = t.journal) (hc : s.comp = t.comp) (hl : s.line = t.line) :
    (yieldUntil k l s).isSome = (yieldUntil k l t).isSome := by
  induction l generalizing s t with
  | nil => rw [yieldUntil, yieldUntil, planHere_congr hj hc, Option.isSome_map, Option.isSome_map]
  | cons n more ih =>
    rw [yieldUntil, yieldUntil, planHere_congr hj hc]
    cases planHere k t with
    | some x => rfl
    | none =>
      obtain ⟨hc', hl'⟩ := yieldJob_congr hc hl n
      exact ih (by rw [journal_yieldJob, journal_yieldJob, hj]) hc' hl'

/-- Whether room can be made is a matter of the journal, the queue and the line alone. -/
theorem makeRoom_isSome_congr (hj : s.journal = t.journal) (hc : s.comp = t.comp) (hl : s.line = t.line) (k : Nat) :
    (makeRoom k s).isSome = (makeRoom k t).isSome := by
  rw [makeRoom, makeRoom, planHere_congr hj hc, hj]
  cases planHere k t with
  | some x => rfl
  | none =>
    cases t.journal.policy with
    | printFirst => rfl
    | captureFirst =>
      have horder : yieldOrder s = yieldOrder t := by rw [yieldOrder_eq, yieldOrder_eq, hc]
      dsimp only
      rw [horder]
      exact yieldUntil_isSome_congr hj hc hl

theorem portAppend_isSome (p : Port) (b : Body) (s : State) : (portAppend p b s).isSome = (makeRoom (bodySlots b) s).isSome :=
  Option.isSome_map

/-- A port's record as it is stored (R18, R20). -/
def portRecord (p : Port) (b : Body) (s : State) : Record :=
  ⟨s.journal.headSeq, false, false, originOf p, headerMs b s, s.survey.number, b⟩

theorem headerMs_congr (h : u.survey = s.survey) : headerMs b u = headerMs b s := by unfold headerMs; rw [h]

/-- What a port's append does, whatever it had to yield or reclaim. -/
theorem portAppend_some (h : portAppend p b s = some u) : BesideAppend s u ∧ u.survey = s.survey ∧ u.flight = s.flight ∧
    u.journal.headSeq = s.journal.headSeq + 1 ∧ ∃ m, u.journal.records = s.journal.records.drop m ++ [portRecord p b s] := by
  have hbeside := (appends_portAppend h).beside
  simp only [portAppend, Option.map_eq_some_iff] at h
  obtain ⟨v, hroom, rfl⟩ := h
  obtain ⟨hsame, hhead, -⟩ := sameBeside_makeRoom hroom
  obtain ⟨m, -, hj, -⟩ := journal_makeRoom hroom
  have hsurvey : v.survey = s.survey := by rw [hsame]
  have hflight : v.flight = s.flight := by rw [hsame]
  refine ⟨hbeside, ?_, ?_, ?_, m, ?_⟩
  · rw [checkLow_eq]; exact hsurvey
  · rw [checkLow_eq]; exact hflight
  · rw [checkLow_journal]
    exact congrArg (· + 1) hhead
  · have hrecord : newRecord b false (originOf p) v = portRecord p b s := by
      rw [newRecord, portRecord, hhead, headerMs_congr hsurvey, hsurvey]
    rw [checkLow_records, ← hrecord]
    show v.journal.records ++ _ = _
    rw [hj]
    rfl

/-- A port's append as the state it leaves: the journal, the queue, the line and the ports alone may change. -/
theorem portAppend_shape (h : portAppend p b s = some u) : ∃ (j : JournalUnit) (k : ComposerUnit) (l : LineUnit) (v w : PortUnit),
    u = { s with journal := j, comp := k, line := l, portA := v, portB := w } ∧ j.headSeq = s.journal.headSeq + 1 ∧
    (∃ m, j.records = s.journal.records.drop m ++ [portRecord p b s]) ∧ portKept s.portA v ∧ portKept s.portB w ∧
    settingsOf u = settingsOf s := by
  obtain ⟨hbeside, hsurvey, hflight, hhead, hrecords⟩ := portAppend_some h
  refine ⟨u.journal, u.comp, u.line, u.portA, u.portB, ?_, hhead, hrecords, hbeside.ports .a, hbeside.ports .b, hbeside.settings⟩
  have hblocks := hbeside.blocks
  rw [← hsurvey, ← hflight] at hblocks
  rw [← hsurvey, ← hflight]
  exact hblocks

/-- The limit test changes the stop's own figures alone. -/
theorem limitTested_shape (s : State) : ∃ x y z, limitTested s = { s with
    survey := { s.survey with stopPending := x, yetToFinish := y }, flight := { s.flight with stopNotices := z } } := by
  rw [limitTested]
  split
  · exact ⟨_, _, _, rfl⟩
  · exact ⟨s.survey.stopPending, s.survey.yetToFinish, s.flight.stopNotices, rfl⟩

/-- While no plan gives the slots of a port's record, its append goes on as after the first yield. -/
theorem portAppend_yielded (hc : s.journal.policy = .captureFirst) (hs : QueueSound s.comp) (hn : noPlan (bodySlots b) s)
    (hy : yieldsFirst before j after s) : portAppend p b s = portAppend p b (yielded before j after s) := by
  rw [portAppend, portAppend, makeRoom_yielded hc hs hn hy]

theorem planIs_congr (hj : s.journal = t.journal) (hc : s.comp = t.comp) (h : planIs k n s) : planIs k n t := by
  rwa [planIs, holdPoint, ← hj, ← hc]

/-! ### The wall time (R9) -/

theorem governing_append {ts us : List TimeStep} {e : TimeStep} {x : Nat} (he : e.effect ≤ x) (hl : ∀ y ∈ us, x < y.effect) :
    governing (ts ++ e :: us) x = some e := by
  have hnone : us.filter (fun y => decide (y.effect ≤ x)) = [] :=
    List.filter_eq_nil_iff.2 fun y hy => by simpa using hl y hy
  rw [governing, List.filter_append, List.filter_cons_of_pos (by simpa using he), hnone, List.getLast?_concat]

/-! ### SET_TIME (R10, R11) -/

/-- The old wall time that a MARK TIME_STEP carries, and the free value it may take (R11, notes/assumptions/14): a matter of the
survey's table and clock alone. -/
theorem oldWallTime_eq (s : State) : ∃ od om m,
    (∀ d ms, wallTime s.survey.steps s.survey.clock = some (d, ms) → om = ms ∧ (d ≤ 65535 → od = d)) ∧
    ∀ t : State, t.survey = s.survey → t.free = s.free → oldWallTime t = (od, om, { t with free := m }) := by
  unfold oldWallTime takeFreeDay
  cases hw : wallTime s.survey.steps s.survey.clock with
  | none =>
    refine ⟨0, 0, s.free, nofun, fun t hs hf => ?_⟩
    rw [show wallTime t.survey.steps t.survey.clock = none by rw [hs, hw], ← hf]
    rfl
  | some x =>
    obtain ⟨d, ms⟩ := x
    by_cases hbig : Config.max16 < d
    · refine ⟨(Config.freeDay s.free).toNat, ms, s.free + 1, fun d' ms' h => ?_, fun t hs hf => ?_⟩
      · cases h
        exact ⟨rfl, fun hle => absurd hbig (Nat.not_lt.2 hle)⟩
      · rw [show wallTime t.survey.steps t.survey.clock = some (d, ms) by rw [hs, hw], ← hf]
        exact if_pos hbig
    · refine ⟨d, ms, s.free, fun d' ms' h => ?_, fun t hs hf => ?_⟩
      · cases h
        exact ⟨rfl, fun _ => rfl⟩
      · rw [show wallTime t.survey.steps t.survey.clock = some (d, ms) by rw [hs, hw], ← hf]
        exact if_neg hbig

theorem exec_setTime (hw : waits p .setTime body s) : exec (.setTime p) s = .next (match readSetTime body with
    | none => answered p .setTime .badRequest [] s
    | some (date, ms) =>
      if s.survey.state = .idle then answered p .setTime .noSurvey [] s
      else if 86400000 ≤ ms then answered p .setTime .badValue [] s
      else if 0xFFFFFF00 ≤ s.journal.headSeq then answered p .setTime .wrongState [] s
      else if 16 ≤ s.survey.steps.length then answered p .setTime .tableFull [] s
      else
        match stepTime p date ms (withdrawn p s) with
        | none => answered p .setTime .journalHeld [] s
        | some u => respond p .setTime .ok [] u) := by
  have hreserve : (!belowReserve (withdrawn p s)) = true ↔ 0xFFFFFF00 ≤ s.journal.headSeq := by
    rw [Bool.not_eq_true', ← Bool.not_eq_true, belowReserve_iff, withdrawn_journal, Nat.not_lt]
  rw [show exec (.setTime p) s = execSetTime p s from rfl, execSetTime, takeRequest_of_waits _ hw]
  cases readSetTime body with
  | none => exact congrArg _ (respond_withdrawn ..)
  | some x =>
    dsimp only
    simp only [respond_withdrawn, withdrawn_survey, if_congr hreserve rfl rfl]
    rfl

theorem readSetTime_of_length (h : body.length ≠ 3) : readSetTime body = none := by
  match body, h with
  | [], _ | [_], _ | [_, _], _ | _ :: _ :: _ :: _ :: _, _ => rfl

/-- The step and its mark (R11): the append, the entry of the table, and the limit test, as one event. -/
theorem stepTime_eq (p : Port) (date ms : Nat) (s : State) : ∃ od om m,
    (∀ d x, wallTime s.survey.steps s.survey.clock = some (d, x) → om = x ∧ (d ≤ 65535 → od = d)) ∧
    ∀ t : State, t.survey = s.survey → t.free = s.free →
      stepTime p date ms t = (portAppend p (.mark (.timeStep od om date ms)) { t with free := m }).map fun u =>
        limitTested (u.setSurvey { u.survey with steps := u.survey.steps ++ [⟨u.survey.clock, date, ms⟩] }) := by
  obtain ⟨od, om, m, hspec, hold⟩ := oldWallTime_eq s
  refine ⟨od, om, m, hspec, fun t hs hf => ?_⟩
  rw [stepTime, hold t hs hf]
  simp only [checkLimit_eq]

/-- A taken SET_TIME under the checks that pass. -/
theorem setTime_appends {date h l : Word} (hw : waits p .setTime [date, h, l] s) (hidle : s.survey.state ≠ .idle)
    (hms : join32 h l ≤ 86399999) (hseq : s.journal.headSeq < 0xFFFFFF00) (hfull : s.survey.steps.length < 16) :
    exec (.setTime p) s = .next (match stepTime p date.toNat (join32 h l) (withdrawn p s) with
      | none => answered p .setTime .journalHeld [] s
      | some u => respond p .setTime .ok [] u) := by
  rw [exec_setTime hw]
  dsimp only [readSetTime]
  rw [if_neg hidle, if_neg (by omega), if_neg (by omega), if_neg (by omega)]

/-- Room at a port's own request is room at the port. -/
theorem makeRoom_withdrawn_isSome (p : Port) (m k : Nat) (s : State) :
    (makeRoom k { withdrawn p s with free := m }).isSome = (makeRoom k s).isSome :=
  makeRoom_isSome_congr (by exact withdrawn_journal p s) (by exact withdrawn_comp p s) (by exact withdrawn_line p s) k

theorem bodySlots_timeStep (od om date ms : Nat) : bodySlots (.mark (.timeStep od om date ms)) = 1 := by
  simp [bodySlots, bodyLen, markLen, slotsFor, Config.headerBytes, Config.slotBytes]

theorem stepTime_none {date ms : Nat} (h : makeRoom 1 s = none) : stepTime p date ms (withdrawn p s) = none := by
  obtain ⟨od, om, m, -, hstep⟩ := stepTime_eq p date ms (withdrawn p s)
  rw [hstep _ rfl rfl, Option.map_eq_none_iff, ← Option.isNone_iff_eq_none, ← Option.not_isSome, portAppend_isSome,
    bodySlots_timeStep, makeRoom_withdrawn_isSome, h]
  rfl

/-- A yield before a port's request is taken is one after. -/
theorem yielded_withdrawn (p : Port) (m : Nat) (before : List Job) (j : Job) (after : List Job) (s : State) :
    yielded before j after { withdrawn p s with free := m } = { withdrawn p (yielded before j after s) with free := m } := by
  unfold yielded
  dsimp only
  by_cases hb : before = []
  · rw [if_neg (not_not.2 hb), if_neg (not_not.2 hb)]
    by_cases hst : j.state = .suspended
    · rw [if_pos hst, if_pos hst]
      cases p <;> rfl
    · rw [if_neg hst, if_neg hst]
      by_cases hc : j.state = .printing ∧ s.line.state = .sending ∧ s.comp.asked = false
      · rw [if_pos hc, if_pos (by cases p <;> exact hc)]
        cases p <;> rfl
      · rw [if_neg hc, if_neg (by cases p <;> exact hc)]
        cases p <;> rfl
  · rw [if_pos hb, if_pos hb]
    cases p <;> rfl

theorem waiting_yielded (hs : QueueSound s.comp) (hy : yieldsFirst before j after s) (p : Port) :
    ((yielded before j after s).port p).waiting = (s.port p).waiting := by
  obtain ⟨hq, h, hj, -⟩ := hy
  rw [← yieldJob_eq_yielded hs hq hj, (besideAppend_yieldJob j.number s).ports p]

/-- Under CAPTURE_FIRST a request's append goes on as after the first yield, and succeeds (R26, R27). -/
theorem portAppend_withdrawn_yielded {m : Nat} (hc : s.journal.policy = .captureFirst) (hs : QueueSound s.comp) (hn : noPlan (bodySlots b) s)
    (hy : yieldsFirst before j after s) :
    portAppend p b { withdrawn p s with free := m } = portAppend p b { withdrawn p (yielded before j after s) with free := m } := by
  rw [← yielded_withdrawn]
  exact portAppend_yielded (by cases p <;> exact hc) (by cases p <;> exact hs) (by cases p <;> exact hn) (by cases p <;> exact hy)

theorem portAppend_withdrawn_some {m : Nat} (hc : s.journal.policy = .captureFirst) (hj : JournalSound s.journal) (hs : QueueSound s.comp)
    (hk : bodySlots b ≤ 8192) : ∃ u, portAppend p b { withdrawn p s with free := m } = some u := by
  rw [← Option.isSome_iff_exists, portAppend_isSome, makeRoom_withdrawn_isSome]
  exact makeRoom_captureFirst_isSome hc hj hs hk

/-- Settles O9. -/
theorem wallTimeFollowsItsTable : Obligations.WallTimeFollowsItsTable := by
  refine ⟨⟨fun before after e t he hl => ?_, fun s day ms h => ?_, fun s h => ?_⟩, fun p s body hw hb => ?_,
    fun p s date h l hw => ⟨fun hidle => ?_, fun hidle => ⟨fun hms => ?_, fun hms hseq => ?_, fun hms hseq hfull => ?_,
      fun hms hseq hfull hroom => ?_, fun hms hseq hfull hroom => ?_, fun hms hseq hfull => ?_⟩⟩⟩
  · rw [wallTime, governing_append he hl]; rfl
  · rw [surveyDay, h]; rfl
  · rw [surveyDay, h]; rfl
  · rw [exec_setTime hw, readSetTime_of_length hb]
  · rw [exec_setTime hw]
    exact congrArg _ (if_pos hidle)
  · rw [exec_setTime hw]
    exact congrArg _ ((if_neg hidle).trans (if_pos (by omega)))
  · rw [exec_setTime hw]
    exact congrArg _ ((if_neg hidle).trans ((if_neg (by omega)).trans (if_pos hseq)))
  · rw [exec_setTime hw]
    exact congrArg _ ((if_neg hidle).trans ((if_neg (by omega)).trans ((if_neg (by omega)).trans (if_pos hfull))))
  · rw [setTime_appends hw hidle hms hseq hfull, stepTime_none hroom]
  · obtain ⟨od, om, m, hspec, hstep⟩ := stepTime_eq p date.toNat (join32 h l) (withdrawn p s)
    have happ := portAppend_isSome p (.mark (.timeStep od om date.toNat (join32 h l))) { withdrawn p s with free := m }
    rw [bodySlots_timeStep, makeRoom_withdrawn_isSome, hroom] at happ
    obtain ⟨u, hu⟩ := Option.isSome_iff_exists.1 happ
    replace hstep := hstep (withdrawn p s) rfl rfl
    rw [hu, Option.map_some] at hstep
    have hexec := setTime_appends hw hidle hms hseq hfull
    rw [hstep] at hexec
    dsimp only at hexec
    have hplan : ∀ n, planIs 1 n s → u = portAppended p (.mark (.timeStep od om date.toNat (join32 h l))) n { withdrawn p s with free := m } :=
      fun n hn => by
        have := portAppend_of_planIs (p := p) (b := .mark (.timeStep od om date.toNat (join32 h l))) (n := n)
          (s := { withdrawn p s with free := m }) (by rw [bodySlots_timeStep]; exact planIs_congr (by exact (withdrawn_journal p s).symm) (by exact (withdrawn_comp p s).symm) hn) nofun
        rw [hu] at this
        exact Option.some.inj this
    obtain ⟨j, k, li, v, w, hshape, hhead, ⟨d, hrecords⟩, hv, hv', hset⟩ := portAppend_shape hu
    obtain ⟨x, y, z, hlim⟩ := limitTested_shape
      (u.setSurvey { u.survey with steps := u.survey.steps ++ [⟨u.survey.clock, date.toNat, join32 h l⟩] })
    have hfree : (respond p .setTime .ok [] (limitTested
        (u.setSurvey { u.survey with steps := u.survey.steps ++ [⟨u.survey.clock, date.toNat, join32 h l⟩] }))).free = m := by
      rw [hlim, hshape]; cases p <;> rfl
    refine ⟨_, od, om, hexec, ?_, ?_, ?_, ?_, ?_, ?_, ⟨?_, ?_⟩, ?_, fun n hn => ?_⟩
    · rw [hlim, hshape]; cases p <;> rfl
    · rwa [withdrawn_survey] at hspec
    · rw [hlim, hshape]
      refine .trans (b := j.records.getLast?) (by cases p <;> rfl) ?_
      rw [hrecords, List.getLast?_concat]
      cases p <;> rfl
    · rw [hlim, hshape]
      refine .trans (b := j.headSeq) (by cases p <;> rfl) (hhead.trans ?_)
      cases p <;> rfl
    · rw [hlim, hshape]
      cases p
      · exact (congrArg PortUnit.waiting hv).trans rfl
      · exact (congrArg PortUnit.waiting hv').trans rfl
    · cases p <;> rfl
    · rw [hlim, hshape]; cases p <;> rfl
    · rw [settings_respond, hlim]
      exact hset.trans (by cases p <;> rfl)
    · rw [hlim, hshape]; cases p <;> rfl
    · rw [hfree, respond_eq_replied, hplan n hn]
      cases p <;> rfl
  · intro before j after hc hj hs hn hy
    have hsame := (sameBeside_yielded hs hy).1
    have hsurvey : (yielded before j after s).survey = s.survey := by rw [hsame]
    have hjournal := journal_yielded hs hy
    have hw' : waits p .setTime [date, h, l] (yielded before j after s) := (waiting_yielded hs hy p).trans hw
    rw [setTime_appends hw hidle hms hseq hfull, setTime_appends hw' (by rwa [hsurvey]) hms (by rwa [hjournal]) (by rwa [hsurvey])]
    obtain ⟨od, om, m, -, hstep⟩ := stepTime_eq p date.toNat (join32 h l) (withdrawn p s)
    have hfree : (withdrawn p (yielded before j after s)).free = (withdrawn p s).free := by
      rw [withdrawn_free, withdrawn_free, hsame]
    have happ : portAppend p (.mark (.timeStep od om date.toNat (join32 h l))) { withdrawn p s with free := m } =
        portAppend p (.mark (.timeStep od om date.toNat (join32 h l))) { withdrawn p (yielded before j after s) with free := m } :=
      portAppend_withdrawn_yielded hc hs (by rw [bodySlots_timeStep]; exact hn) hy
    obtain ⟨u, hu⟩ := portAppend_withdrawn_some (p := p) (m := m) (b := .mark (.timeStep od om date.toNat (join32 h l))) hc hj hs
      (by rw [bodySlots_timeStep]; decide)
    rw [hstep _ rfl rfl, hstep _ (by rw [withdrawn_survey, withdrawn_survey, hsurvey]) hfree, ← happ, hu]
    rfl

end Sys2Proof.Machine

/-! PROOF (part of O22, O24). The record of an interval fits its slots; an interval's close is an APPEND with its figures cleared; and
the newest record outlives the next append. -/

namespace Sys2Proof.Machine

open Sys2Proof

variable {s t u : State} {b : Body} {test : Bool} {n k : Nat} {cause : CloseCause}

/-! ### The slots of an INTERVAL record (R17, R114) -/

theorem length_channelMagnitudes (a : AggregatorUnit) (c : Nat) :
    ((channelMagnitudes a c).getD []).length ≤ if a.mask.getLsbD c then a.kept else 0 := by
  unfold channelMagnitudes
  split
  · rename_i h
    rw [if_pos h.1, Option.getD_some, List.length_map, List.length_take]
    exact Nat.min_le_left _ _
  · exact Nat.zero_le _

theorem sum_if_length_filter (p : Nat → Bool) (n : Nat) (l : List Nat) :
    (l.map fun c => if p c then n else 0).sum = (l.filter p).length * n := by
  induction l with
  | nil => simp
  | cons x rest ih =>
    rw [List.map_cons, List.sum_cons, ih]
    cases h : p x
    · rw [List.filter_cons_of_neg (by simp [h]), if_neg Bool.false_ne_true, Nat.zero_add]
    · rw [List.filter_cons_of_pos h, if_pos rfl, List.length_cons, Nat.succ_mul, Nat.add_comm]

/-- At most 400 magnitudes and 32 exceedance entries make at most 16 slots (R114, R125). -/
theorem bodySlots_intervalBody (h : maskCount s.agg.mask * s.agg.kept ≤ 400) (cause : CloseCause) (k : Nat) :
    bodySlots (.interval (intervalBody cause k s)) ≤ 16 := by
  have hmag : ((intervalBody cause k s).magnitudes.toList.map fun m => (m.getD []).length).sum ≤ 400 := by
    have hlist : (intervalBody cause k s).magnitudes.toList = (List.range 8).map (channelMagnitudes s.agg) := rfl
    rw [hlist, List.map_map]
    calc ((List.range 8).map ((fun m => (m.getD []).length) ∘ channelMagnitudes s.agg)).sum
        ≤ ((List.range 8).map fun c => if s.agg.mask.getLsbD c then s.agg.kept else 0).sum :=
          List.sum_le_sum fun c _ => length_channelMagnitudes s.agg c
      _ = maskCount s.agg.mask * s.agg.kept := sum_if_length_filter _ _ _
      _ ≤ 400 := h
  have hexc : (intervalBody cause k s).exceed.length ≤ 32 := List.length_take_le _ _
  show slotsFor (56 + 2 * _ + 4 * _) ≤ 16
  unfold slotsFor Config.headerBytes Config.slotBytes
  omega

theorem hardwareBody_intervalBody (h : maskCount s.agg.mask * s.agg.kept ≤ 400) (cause : CloseCause) (k : Nat) :
    hardwareBody (.interval (intervalBody cause k s)) = true := by
  unfold hardwareBody
  rw [Bool.true_and]
  exact decide_eq_true (bodySlots_intervalBody h cause k)

/-- An interval's close in RUNNING: its record as the APPEND command takes it, and its figures cleared (R122, R128). -/
theorem intervalClosed_closeInterval (hr : s.survey.state = .running) (h : maskCount s.agg.mask * s.agg.kept ≤ 400)
    (cause : CloseCause) (k : Nat) : intervalClosed cause k s (closeInterval cause k s) := by
  have hexec : exec (.append (.interval (intervalBody cause k s)) s.agg.testSeen) (occupancyRead s) = .next (intervalAppended cause k s) :=
    congrArg _ (if_pos ⟨hr, hardwareBody_intervalBody h cause k⟩)
  exact ⟨_, hexec, rfl⟩

/-! ### The newest record (R22) -/

/-- Room is made by a plan, after the yields that it needed. -/
theorem makeRoom_plan (h : makeRoom k s = some t) : ∃ u left free, u.journal = s.journal ∧ planHere k u = some (left, free) ∧
    t = applyPlan left free u := by
  have hyield : ∀ (l : List Nat) (v : State), yieldUntil k l v = some t →
      ∃ u left free, u.journal = v.journal ∧ planHere k u = some (left, free) ∧ t = applyPlan left free u := by
    intro l
    induction l with
    | nil =>
      intro v hv
      simp only [yieldUntil, Option.map_eq_some_iff] at hv
      obtain ⟨⟨left, free⟩, hplan, rfl⟩ := hv
      exact ⟨v, left, free, rfl, hplan, rfl⟩
    | cons n more ih =>
      intro v hv
      rw [yieldUntil] at hv
      split at hv
      · rename_i left free hplan
        exact ⟨v, left, free, rfl, hplan, (Option.some.inj hv).symm⟩
      · obtain ⟨u, left, free, hj, hrest⟩ := ih _ hv
        exact ⟨u, left, free, hj.trans (journal_yieldJob n v), hrest⟩
  unfold makeRoom at h
  split at h
  · rename_i left free hplan
    exact ⟨s, left, free, rfl, hplan, (Option.some.inj h).symm⟩
  · split at h
    · exact hyield _ _ h
    · cases h

/-- Room for a few slots leaves the newest record: the others would free more than that. -/
theorem newest_makeRoom {r : Record} {rs : List Record} (hj : JournalSound s.journal) (hr : s.journal.records = rs ++ [r])
    (hk : k + r.slots ≤ 8192) (h : makeRoom k s = some t) : ∃ m, t.journal.records = rs.drop m ++ [r] := by
  obtain ⟨u, left, free, hju, hplan, rfl⟩ := makeRoom_plan h
  obtain ⟨n, hn, rfl, rfl, -, hleast, -⟩ := planReclaim_some hplan
  have hlen : n ≤ rs.length := by
    by_contra hlt
    have hused := hleast rs.length (by omega)
    rw [hju, hr, List.take_left] at hused
    have hfree := hj.2.2.2.1
    rw [hr, usedSlots_append, usedSlots_cons, usedSlots_nil] at hfree
    omega
  refine ⟨n, ?_⟩
  show u.journal.records.drop n = _
  rw [hju, hr, List.drop_append_of_le_length hlen]

theorem records_dropRecord (k : RecordKind) (s : State) : (dropRecord k s).journal.records = s.journal.records := by
  cases k <;> rfl

/-- A hardware append of few slots leaves the newest record stored. -/
theorem newest_hardwareAppend {r : Record} {rs : List Record} (hj : JournalSound s.journal) (hr : s.journal.records = rs ++ [r])
    (hk : bodySlots b + 1 + r.slots ≤ 8192) : r ∈ (hardwareAppend b test s).1.journal.records := by
  have hone : r ∈ (hardwareOne b test s).1.journal.records := by
    have mem : ∀ {k t}, k + r.slots ≤ 8192 → makeRoom k s = some t → r ∈ t.journal.records := fun hle hroom => by
      obtain ⟨m, hm⟩ := newest_makeRoom hj hr hle hroom
      rw [hm]
      exact List.mem_append_right _ List.mem_cons_self
    have alone : r ∈ (match makeRoom (bodySlots b) s with
        | some s1 => (checkLow (placeRecord b test (hardwareOrigin b) s1), some s1.journal.headSeq)
        | none => (dropRecord (bodyKind b) s, none)).1.journal.records := by
      split
      · rename_i u hroom
        rw [checkLow_records]
        exact List.mem_append_left _ (mem (by omega) hroom)
      · rw [records_dropRecord, hr]
        exact List.mem_append_right _ List.mem_cons_self
    unfold hardwareOne
    dsimp only
    split
    · split
      · rename_i u hroom
        rw [checkLow_records]
        exact List.mem_append_left _ (List.mem_append_left _ (mem (by omega) hroom))
      · exact alone
    · exact alone
  rw [hardwareAppend, checkLimit_eq, journal_limitTested]
  exact hone

end Sys2Proof.Machine

/-! PROOF (O22, refuted). A SETTING record of more slots than the store has finds no room under CAPTURE_FIRST either, and the jobs that
yielded for it stay: the statement asks the yield to change nothing in every state, and a state whose band edges are not sound has such
a record. -/

namespace Sys2Proof.Machine

open Sys2Proof

variable {s : State} {p : Port} {b : Body} {v : List Word}

/-! ### A record of more slots than the store has (R17, R22) -/

theorem makeRoom_of_large {k : Nat} (hj : JournalSound s.journal) (hk : 8192 < k) : makeRoom k s = none := by
  refine Option.eq_none_iff_forall_ne_some.mpr fun t ht => ?_
  obtain ⟨u, left, free, hju, hplan, -⟩ := makeRoom_plan ht
  obtain ⟨n, -, -, hfree, hle, -, -⟩ := planReclaim_some hplan
  obtain ⟨-, -, -, hsum, -, -⟩ := hj
  have htake : usedSlots (s.journal.records.take n) ≤ usedSlots s.journal.records := by
    rw [← List.take_append_drop n s.journal.records, usedSlots_append, List.take_append_drop]
    exact Nat.le_add_right _ _
  rw [hju] at hfree
  omega

theorem portAppend_of_large (hj : JournalSound s.journal) (hb : 8192 < bodySlots b) : portAppend p b s = none := by
  rw [portAppend, makeRoom_of_large hj hb, Option.map_none]

/-- A SETTING record of the edges that were, 262144 of them or more, takes more slots than the store has. -/
theorem bodySlots_settingBody (i : Item) (q : Nat) (y : Bool) {old : List Word} (new : List Word) (hold : 262144 ≤ old.length) :
    8192 < bodySlots (.setting ⟨i, q, y, old, new⟩) := by
  show 8192 < slotsFor (4 + 2 * (old.length + new.length))
  unfold slotsFor Config.headerBytes Config.slotBytes
  omega

theorem exec_setBandEdges_of_large (hw : waits p .set (word (itemCode .bandEdges) :: v) s) (hv : v.length = 7)
    (hvalid : edgesValid (v.map BitVec.toNat) = true) (hs : s.survey.state ≠ .idle) (hseq : s.journal.headSeq < 0xFFFFFF00)
    (hj : JournalSound s.journal) (hlarge : 262144 ≤ s.hcu.edges.length) :
    exec (setCommand .bandEdges p) s = .next (answered p .set .journalHeld [] s) := by
  rw [exec_set_of_named (i := .bandEdges) (by decide) hw]
  obtain ⟨hacc, -⟩ | ⟨x, y, ch, -, hown, hch⟩ := ownerOf_answers (i := .bandEdges) (s := withdrawn p s) (by decide) hv
  · exact absurd hacc (by simp [accepts, hvalid])
  · have hold : ch.old = s.hcu.edges.map word :=
      (Option.some.inj hch.old).symm.trans (by cases p <;> rfl)
    have hjou : (withdrawn p s).journal = s.journal := by cases p <;> rfl
    rw [hown]
    dsimp only
    rw [applyChange, if_neg (by simpa [belowReserve, hjou, Config.reserveStart] using fun _ => hseq)]
    rw [if_pos (by simp [State.inSurvey, hs]), portAppend_of_large (by rwa [hjou])
      (bodySlots_settingBody _ _ _ _ (by rwa [hold, List.length_map]))]
    exact congrArg _ (respond_withdrawn ..)

/-! ### The state -/

section Held
variable {text : List Byte} {edges : List Nat}

/-- A store that holds one record, a note. -/
def fullStore (text : List Byte) : JournalUnit :=
  { State.reset.journal with
    records := [⟨1, false, false, .portA, 0, 1, .note ⟨0, .other, 0, false, false, false, none, [], 0, 1, text⟩⟩]
    tailSeq := 1, headSeq := 2, tailSlot := 0, headSlot := 0, free := 0, policy := .captureFirst }

/-- The head job, printing, which holds the record. -/
def holdingJob : Job :=
  ⟨1, .a, 1, 1, 1, 0, ⟨true, true, true, true, true⟩, true, 1, 1, false, .printing, .header, some 1, .none, 0, 0, true, none⟩

def newEdges : List Word := [1, 2, 3, 4, 5, 6, 7]

/-- RUNNING with a full store that a job holds and a SET of BAND_EDGES waiting at port A; with another number of edges than seven, no run
reaches it (SettingsSound). -/
def heldByEdges (text : List Byte) (edges : List Nat) : State :=
  { State.reset with
    survey := { State.reset.survey with state := .running }
    journal := fullStore text
    hcu := { State.reset.hcu with edges := edges }
    comp := { State.reset.comp with queue := [holdingJob] }
    portA := { State.reset.portA with waiting := some ⟨.set, word (itemCode .bandEdges) :: newEdges⟩ } }

theorem usedSlots_fullStore (ht : text.length = 524248) : usedSlots (fullStore text).records = 8192 := by
  show slotsFor (24 + 16 * 0 + text.length) + 0 = 8192
  rw [ht]
  rfl

theorem journalSound_fullStore (ht : text.length = 524248) : JournalSound (fullStore text) := by
  refine ⟨Nat.le_refl 1, rfl, rfl, ?_, show 0 < 8192 by decide, ?_⟩
  · rw [usedSlots_fullStore ht, Nat.add_eq_right]
    rfl
  · rw [usedSlots_fullStore ht]
    show 0 = (0 + 8192) % 8192
    decide

theorem queueSound_heldByEdges : QueueSound (heldByEdges text edges).comp :=
  show QueueSound { State.reset.comp with queue := [holdingJob] } by decide

theorem noPlan_heldByEdges : noPlan 1 (heldByEdges text edges) := Nat.lt_succ_self 0

theorem exec_heldByEdges (ht : text.length = 524248) (he : 262144 ≤ edges.length) :
    exec (setCommand .bandEdges .a) (heldByEdges text edges) = .next (answered .a .set .journalHeld [] (heldByEdges text edges)) :=
  exec_setBandEdges_of_large (v := newEdges) rfl rfl (by decide) nofun (show 2 < 0xFFFFFF00 by decide) (journalSound_fullStore ht) he

theorem exec_yielded_heldByEdges (ht : text.length = 524248) (he : 262144 ≤ edges.length) :
    exec (setCommand .bandEdges .a) (yielded [] holdingJob [] (heldByEdges text edges)) =
      .next (answered .a .set .journalHeld [] (yielded [] holdingJob [] (heldByEdges text edges))) :=
  exec_setBandEdges_of_large (v := newEdges) rfl rfl (by decide) nofun (show 2 < 0xFFFFFF00 by decide) (journalSound_fullStore ht) he

/-- Without the yield that comes first, the job keeps its hold. -/
theorem not_journaled_of_large (ht : text.length = 524248) (he : 262144 ≤ edges.length) :
    ¬ Obligations.SetInASurveyIsJournaled := by
  intro h
  obtain ⟨-, haccepted⟩ :=
    (h.1 .bandEdges .a (heldByEdges text edges) newEdges (by decide) rfl nofun rfl).2 (show 2 < 0xFFFFFF00 by decide)
  obtain ⟨-, -, hyields⟩ := haccepted { settingsOf (heldByEdges text edges) with edges := [1, 2, 3, 4, 5, 6, 7] } false rfl
  have hsame := hyields [] holdingJob [] rfl (journalSound_fullStore ht) queueSound_heldByEdges noPlan_heldByEdges
    ⟨rfl, 1, rfl, fun _ hi => absurd hi List.not_mem_nil, fun _ hi => absurd hi List.not_mem_nil⟩
  rw [exec_heldByEdges ht he, exec_yielded_heldByEdges ht he] at hsame
  have hholds : [some 1] = [none] := congrArg (fun t : State => t.comp.queue.map Job.hold) (Host.Outcome.next.inj hsame)
  exact absurd hholds (by decide)

end Held

/-- Refutes O22: a SETTING record of 262144 edges finds no room, whatever yields, in a store that a job holds; so the SET is refused and
changes nothing, though the statement asks it to do as it would after the job's yield. -/
theorem not_setInASurveyIsJournaled : ¬ Obligations.SetInASurveyIsJournaled :=
  not_journaled_of_large (text := List.replicate 524248 0) (edges := List.replicate 262144 0) List.length_replicate
    (Nat.le_of_eq List.length_replicate.symm)

end Sys2Proof.Machine

/-! PROOF (O24, refuted). Room for one slot is not room for the SETTING record of a list of edges that is not sound: the SET is refused,
and the edges stay. -/

namespace Sys2Proof.Machine

open Sys2Proof

variable {edges : List Nat}

/-- RUNNING with an empty journal and a SET of BAND_EDGES waiting at port A; with another number of edges than seven, no run reaches it
(SettingsSound). -/
def emptyWithEdges (edges : List Nat) : State :=
  { State.reset with
    survey := { State.reset.survey with state := .running }
    hcu := { State.reset.hcu with edges := edges }
    portA := { State.reset.portA with waiting := some ⟨.set, word (itemCode .bandEdges) :: newEdges⟩ } }

theorem exec_emptyWithEdges (he : 262144 ≤ edges.length) :
    exec (.setBandEdges .a) (emptyWithEdges edges) = .next (answered .a .set .journalHeld [] (emptyWithEdges edges)) :=
  exec_setBandEdges_of_large (v := newEdges) rfl rfl (by decide) nofun (show 1 < 0xFFFFFF00 by decide)
    (show JournalSound State.reset.journal by decide) he

theorem not_actOnTheirOwners_of_large (he : 262144 ≤ edges.length) : ¬ Obligations.ChangedSettingsActOnTheirOwners := by
  intro h
  obtain ⟨t, hexec, -, hchanged⟩ := h.2 .a (emptyWithEdges edges) newEdges rfl rfl (by decide) nofun
    (show 1 < 0xFFFFFF00 by decide) rfl
  have hdiffer : newEdges.map BitVec.toNat ≠ edges := fun heq => absurd he (by rw [← heq]; decide)
  have hhcu := hchanged hdiffer
  rw [exec_emptyWithEdges he] at hexec
  rw [← Host.Outcome.next.inj hexec] at hhcu
  exact hdiffer (congrArg HalfCycleUnit.edges hhcu).symm

/-- Refutes O24: with 262144 edges in force a SET of seven others finds room for one slot and none for its record; it is refused. -/
theorem not_changedSettingsActOnTheirOwners : ¬ Obligations.ChangedSettingsActOnTheirOwners :=
  not_actOnTheirOwners_of_large (edges := List.replicate 262144 0) (Nat.le_of_eq List.length_replicate.symm)

end Sys2Proof.Machine

/-! PROOF (O46). Sense lines, presence and the probe supply: each command of the Kit Line Unit as the statement writes its effect. -/

namespace Sys2Proof.Machine

open Sys2Proof

variable {s : State} {p : Port} {body : List Word}

/-! ### Sense lines (R132 to R134) -/

theorem exec_senseLineChange_moved {c : Fin 8} {high : Bool} (h : s.kit.sense.get c ≠ high) :
    exec (.senseLineChange c high) s = .next { s with kit := { s.kit with
      sense := s.kit.sense.set c high
      timers := s.kit.timers.set c
        (if (high == (s.kit.entries.get c).activeHigh) = s.kit.settled.get c then none else some 50) } } := by
  have hafter : comparedLevel { s.kit with sense := s.kit.sense.set c high } c = (high == (s.kit.entries.get c).activeHigh) := by
    show ((s.kit.sense.set c high).get c == _) = _
    rw [eight_set_get]
  have hmoved : comparedLevel s.kit c ≠ (high == (s.kit.entries.get c).activeHigh) := by
    unfold comparedLevel
    revert h
    cases s.kit.sense.get c <;> cases high <;> cases (s.kit.entries.get c).activeHigh <;> decide
  show Host.Outcome.next _ = _
  rw [if_neg h, retime, hafter, if_neg hmoved]
  rfl

theorem exec_debounceExpiry_running {c : Fin 8} (h : s.kit.timers.get c ≠ some 0) : exec (.debounceExpiry c) s = .next s :=
  congrArg _ (if_neg h)

/-- The unit after the settled level of a channel has become the compared level (R132, R133). -/
def settledKit (c : Nat) (k : KitUnit) : KitUnit :=
  let fitted := k.sense.get c == (k.entries.get c).activeHigh
  { k with
    timers := k.timers.set c none, settled := k.settled.set c fitted
    present := k.present.set c (fitted && (k.entries.get c).kind != .none) }

theorem settledKit_present (c : Fin 8) (k : KitUnit) : (settledKit c k).present.get c =
    ((k.sense.get c == (k.entries.get c).activeHigh) && (k.entries.get c).kind != .none) := eight_set_get _ _ _

theorem settleLevel_eq (c : Fin 8) (k : KitUnit) : settleLevel c k = settledKit c k := by
  unfold settleLevel formPresent presentNow
  dsimp only
  rw [eight_set_get]
  rfl

/-- The state after a level has settled and its probe notice is sent (R132, R134). -/
def levelSettled (c : Nat) (s : State) : State :=
  let e := s.kit.entries.get c
  let present := (s.kit.sense.get c == e.activeHigh) && e.kind != .none
  { s with
    kit := settledKit c s.kit
    flight := { s.flight with probeNotices := s.flight.probeNotices ++
      if c < 4 then [⟨c, s.kit.present.get c && e.kind == .voltageLead && e.inDetector, present && e.kind == .voltageLead && e.inDetector⟩]
      else [] } }

theorem kitDetectorChannel_of_lt {k : KitUnit} {c : Nat} (h : c < 4) :
    kitDetectorChannel k c = (k.present.get c && (k.entries.get c).kind == .voltageLead && (k.entries.get c).inDetector) := by
  rw [kitDetectorChannel, decide_eq_true h, Bool.true_and]

theorem sendProbeNotice_settledKit (c : Fin 8) (s : State) :
    sendProbeNotice c s.kit (settledKit c s.kit) (s.setKit (settledKit c s.kit)) = levelSettled c s := by
  rw [sendProbeNotice_eq]
  unfold levelSettled
  dsimp only
  by_cases h : c.val < 4
  · rw [if_pos h, if_pos h, kitDetectorChannel_of_lt h, kitDetectorChannel_of_lt h, settledKit_present]
    rfl
  · rw [if_neg h, if_neg h]
    rfl

theorem exec_debounceExpiry_due {c : Fin 8} (h : s.kit.timers.get c = some 0) :
    exec (.debounceExpiry c) s = .next
      (if ((s.kit.sense.get c == (s.kit.entries.get c).activeHigh) && (s.kit.entries.get c).kind != .none) = s.kit.present.get c
        then s.setKit (settledKit c s.kit) else announcePresence c false (levelSettled c s)) := by
  rw [show exec (.debounceExpiry c) s = .next (if s.kit.timers.get c = some 0 then settleChannel c s else s) from rfl, if_pos h,
    settleChannel]
  rw [settleLevel_eq, settledKit_present, sendProbeNotice_settledKit]

/-- A change of present at a debounce expiry is announced (R134). -/
theorem announcePresence_levelSettled (c : Fin 8) (s : State) :
    let e := s.kit.entries.get c
    let present := (s.kit.sense.get c == e.activeHigh) && e.kind != .none
    let v := (levelSettled c s).bothPorts (flagsRaised 0x40)
    let mark := if present then MarkBody.probeIn c e.kind false (maskOf (settledKit c s.kit).present.get)
      else .probeOut c e.kind false (maskOf (settledKit c s.kit).present.get)
    if isRunning s then exec (.append (.mark mark) false) v = .next (announcePresence c false (levelSettled c s))
    else announcePresence c false (levelSettled c s) = v :=
  announcePresence_taken (u := levelSettled c s) rfl (eight_set_get _ _ _)

/-! ### The probe supply (R136 to R138) -/

/-- The state after the fault input has become active (R137). -/
def faultTaken (s : State) : State :=
  { s with
    kit := { s.kit with enable := false, faulted := true, faultActive := true }
    portA := flagsRaised 0x40 s.portA, portB := flagsRaised 0x40 s.portB }

theorem unpoweredMask_off {k : KitUnit} (h : k.enable = false) : unpoweredMask k = maskOf fun c => (k.entries.get c).kind == .flex := by
  rw [unpoweredMask]
  congr 1
  funext c
  rw [unpoweredChannel, h, Bool.not_false, Bool.and_true, needsSupply]

theorem exec_faultInputActive_moved (h : s.kit.faultActive = false) :
    exec .faultInputActive s = .next (markInRunning
      (.probeFault s.kit.supplyOn s.kit.faulted (maskOf fun c => (s.kit.entries.get c).kind == .flex)) (faultTaken s)) := by
  have hkit : activateFault s.kit = (faultTaken s).kit := by
    simp [activateFault, settleSupply, supplyShouldBeOn, faultTaken]
  have hstate : raiseBoth .probe (s.setKit (activateFault s.kit)) = faultTaken s := by rw [hkit]; rfl
  rw [show exec .faultInputActive s = execFaultInputActive s from rfl, execFaultInputActive, if_neg (by rw [h]; nofun)]
  dsimp only
  rw [hstate, unpoweredMask_off rfl]
  rfl

theorem exec_faultInputInactive_moved (h : s.kit.faultActive = true) :
    exec .faultInputInactive s = .next { s with
      kit := { s.kit with faultActive := false, enable := s.kit.supplyOn && !s.kit.faulted } } := by
  rw [show exec .faultInputInactive s = execFaultInputInactive s from rfl, execFaultInputInactive, if_pos h]
  simp [settleSupply, supplyShouldBeOn, State.setKit]

theorem exec_supplyRestore (hw : waits p .supplyRestore body s) : exec (.supplyRestore p) s = .next
    (if body ≠ [] then answered p .supplyRestore .badRequest [] s
    else if s.kit.faultActive = true then answered p .supplyRestore .supplyFault [] s
    else if (!s.kit.faulted) = true then answered p .supplyRestore .wrongState [] s
    else respond p .supplyRestore .ok [] (restoreSupply p (withdrawn p s))) := by
  have hkit : (withdrawn p s).kit = s.kit := by cases p <;> rfl
  rw [show exec (.supplyRestore p) s = execSupplyRestore p s from rfl, execSupplyRestore, takeRequest_of_waits _ hw, hkit,
    respond_withdrawn, respond_withdrawn, respond_withdrawn]

/-- The state after an accepted restore, before its mark (R138). -/
def supplyRestored (p : Port) (s : State) : State :=
  { withdrawn p s with kit := { s.kit with faulted := false, enable := s.kit.supplyOn } }

theorem restoreSupply_withdrawn (h : s.kit.faultActive = false) : restoreSupply p (withdrawn p s) =
    markInRunning (.supplyRestored p s.kit.supplyOn s.kit.supplyOn) (supplyRestored p s) := by
  have hstate : (withdrawn p s).setKit (settleSupply { (withdrawn p s).kit with faulted := false }) = supplyRestored p s := by
    have hkit : settleSupply { s.kit with faulted := false } = { s.kit with faulted := false, enable := s.kit.supplyOn } := by
      simp [settleSupply, supplyShouldBeOn, h]
    exact (congrArg (withdrawn p s).setKit (by rw [← hkit]; cases p <;> rfl)).trans rfl
  unfold restoreSupply
  dsimp only
  rw [hstate]
  rfl

/-- Settles O46. -/
theorem senseLinesAndFaults : Obligations.SenseLinesAndFaults := by
  refine ⟨fun c s => ⟨fun high h => congrArg _ (if_pos h), fun high h => exec_senseLineChange_moved h,
      fun h => exec_debounceExpiry_running h, fun h => ⟨fun hp => ?_, fun hp => ⟨fun hr => ?_, fun hr => ?_⟩⟩⟩,
    fun s => ⟨fun h => congrArg _ (if_pos h), fun h => ⟨fun hr => ?_, fun hr => ?_⟩, fun h => congrArg _ (if_neg (by rw [h]; nofun)),
      fun h => exec_faultInputInactive_moved h, fun p body hw => ⟨fun hb => ?_, fun hb ha => ?_, fun hb ha hf => ?_, fun hb ha hf => ?_⟩⟩⟩
  · rw [exec_debounceExpiry_due h, if_pos hp]
    rfl
  · have hann := announcePresence_levelSettled c s
    rw [if_neg hr] at hann
    rw [exec_debounceExpiry_due h, if_neg hp, hann]
    rfl
  · have hann := announcePresence_levelSettled c s
    rw [if_pos hr] at hann
    rw [exec_debounceExpiry_due h, if_neg hp, ← hann]
    rfl
  · rw [exec_faultInputActive_moved h, markInRunning_of_not_running (s := faultTaken s) hr]
    rfl
  · rw [exec_faultInputActive_moved h, ← markInRunning_of_running (s := faultTaken s) hr (hardwareBody_mark trivial)]
    rfl
  · rw [exec_supplyRestore hw, if_pos hb]
  · rw [exec_supplyRestore hw, if_neg (not_not.2 hb), if_pos ha]
  · rw [exec_supplyRestore hw, if_neg (not_not.2 hb), if_neg (by rw [ha]; nofun), if_pos (by rw [hf]; rfl)]
  · refine ⟨restoreSupply p (withdrawn p s), ?_, ?_⟩
    · have hsur : (supplyRestored p s).survey = s.survey := by cases p <;> rfl
      have htaken := markInRunning_taken (s := supplyRestored p s) (m := .supplyRestored p s.kit.supplyOn s.kit.supplyOn)
        (hardwareBody_mark trivial)
      rw [restoreSupply_withdrawn ha]
      by_cases hr : isRunning s
      · rw [if_pos (by rwa [isRunning, hsur])] at htaken
        exact (if_pos hr).trans htaken
      · rw [if_neg (by rwa [isRunning, hsur])] at htaken
        rw [htaken]
        exact if_neg hr
    · rw [exec_supplyRestore hw, if_neg (not_not.2 hb), if_neg (by rw [ha]; nofun), if_neg (by rw [hf]; nofun)]
      rfl

end Sys2Proof.Machine

/-! PROOF (O47). Site notes: how the bodies of NOTE_BEGIN and NOTE_PART read, and what each command answers and does to its port's context. -/

namespace Sys2Proof.Machine

open Sys2Proof

variable {s : State} {p : Port} {body : List Word}

/-! ### The body of NOTE_BEGIN (R142) -/

theorem readOptional32_some {there : Bool} {ws rest : List Word} {o : Option Nat} (h : readOptional32 there ws = some (o, rest)) :
    (if there then 2 else 0) ≤ ws.length ∧ rest = ws.drop (if there then 2 else 0) := by
  cases there
  · obtain ⟨-, rfl⟩ := Prod.mk.inj (Option.some.inj h)
    exact ⟨Nat.zero_le _, rfl⟩
  · match ws, h with
    | hi :: lo :: more, h =>
      obtain ⟨-, rfl⟩ := Prod.mk.inj (Option.some.inj h)
      exact ⟨by simp, rfl⟩

theorem readOptional32_pair (o : Option (Word × Word)) (rest : List Word) :
    readOptional32 o.isSome ((match o with | some q => [q.1, q.2] | none => []) ++ rest) =
      some (o.map fun q => join32 q.1 q.2, rest) := by
  cases o <;> rfl

theorem length_of_readCites {ws : List Word} {r : Nat × List Nat × Nat} (h : readCites ws = some r) :
    ws.length = 2 * (ws.headD 0).toNat + 2 := by
  match ws, h with
  | n :: rest, h =>
    obtain ⟨hlen, -⟩ := Option.ite_none_right_eq_some.1 h
    rw [List.length_cons, hlen, List.headD_cons]

theorem headD_drop (ws : List Word) (n : Nat) : (ws.drop n).headD 0 = ws.getD n 0 := by
  rw [List.headD_eq_head?_getD, List.head?_drop, List.getD_eq_getElem?_getD]

/-- A body that reads as NOTE_BEGIN's has the length that its presence word and its citation count give. -/
theorem length_of_readBegin {v : BeginValues} (h : readBegin body = some v) :
    let options := (if (body.headD 0).getLsbD 0 then 2 else 0) + if (body.headD 0).getLsbD 1 then 2 else 0
    body.length = 3 + options + 1 + 2 * (body.getD (3 + options) 0).toNat + 1 := by
  match body, h with
  | presence :: author :: category :: rest, h =>
    rw [readBegin] at h
    split at h
    · rename_i observed rest1 h1
      split at h
      · rename_i target rest2 h2
        obtain ⟨r, hr, -⟩ := Option.map_eq_some_iff.1 h
        obtain ⟨hle1, rfl⟩ := readOptional32_some h1
        obtain ⟨hle2, rfl⟩ := readOptional32_some h2
        have hlen := length_of_readCites hr
        rw [List.drop_drop, headD_drop, List.length_drop] at hlen
        rw [List.length_drop] at hle2
        dsimp only
        rw [List.headD_cons, Nat.add_comm 3]
        simp only [List.getD_cons_succ, List.length_cons]
        omega
      · cases h
    · cases h

theorem readAll32_pairs (cites : List (Word × Word)) :
    readAll32 (cites.flatMap fun q => [q.1, q.2]) = cites.map fun q => join32 q.1 q.2 := by
  induction cites with
  | nil => rfl
  | cons q rest ih => exact congrArg (join32 q.1 q.2 :: ·) ih

theorem length_pairs (cites : List (Word × Word)) : (cites.flatMap fun q => [q.1, q.2]).length = 2 * cites.length := by
  induction cites with
  | nil => rfl
  | cons q rest ih => simp only [List.flatMap_cons, List.length_append, ih, List.length_cons, List.length_nil]; omega

theorem readCites_pairs {cites : List (Word × Word)} (h : cites.length < 65536) (parts : Word) :
    readCites ([word cites.length] ++ (cites.flatMap fun q => [q.1, q.2]) ++ [parts]) =
      some (cites.length, cites.map fun q => join32 q.1 q.2, parts.toNat) := by
  have hn : (word cites.length).toNat = cites.length := by rw [word, BitVec.toNat_ofNat, Nat.mod_eq_of_lt h]
  rw [List.append_assoc, List.singleton_append, readCites, hn, if_pos (by rw [List.length_append, length_pairs]; rfl), ← length_pairs, List.take_left,
    List.drop_left, readAll32_pairs]
  rfl

theorem presence_bits (a b : Bool) :
    (((if a then 1 else 0) + if b then 2 else 0 : Word).getLsbD 0 = a) ∧ (((if a then 1 else 0) + if b then 2 else 0 : Word).getLsbD 1 = b) := by
  cases a <;> cases b <;> decide

/-- NOTE_BEGIN's words read as the values that they were written for. -/
theorem readBegin_words {cites : List (Word × Word)} (h : cites.length < 65536) (author category parts : Word)
    (observed target : Option (Word × Word)) :
    let opt := fun (o : Option (Word × Word)) => match o with | some q => [q.1, q.2] | none => []
    readBegin ([(if observed.isSome then 1 else 0) + if target.isSome then 2 else 0, author, category] ++ opt observed ++ opt target
        ++ [word cites.length] ++ (cites.flatMap fun q => [q.1, q.2]) ++ [parts]) =
      some ⟨author.toNat, category.toNat, observed.map fun q => join32 q.1 q.2, target.map fun q => join32 q.1 q.2, cites.length,
        cites.map fun q => join32 q.1 q.2, parts.toNat⟩ := by
  dsimp only
  simp only [List.append_assoc, List.cons_append, List.nil_append, readBegin]
  rw [(presence_bits _ _).1, (presence_bits _ _).2, readOptional32_pair]
  dsimp only
  rw [readOptional32_pair]
  dsimp only
  have hcites := readCites_pairs h parts
  rw [List.append_assoc, List.singleton_append] at hcites
  rw [hcites]
  rfl

/-! ### NOTE_BEGIN (R142, R143) -/

theorem respond_setNote (p : Port) (k : RequestKind) (code : ResultCode) (ws : List Word) (c : NoteCtx) (s : State) :
    respond p k code ws ((withdrawn p s).setNote p c) = (answered p k code ws s).setNote p c := by cases p <;> rfl

theorem exec_noteBegin (hw : waits p .noteBegin body s) : exec (.noteBegin p) s = .next (match readBegin body with
    | none => (answered p .noteBegin .badRequest [] s).setNote p .empty
    | some v =>
      if (!s.inSurvey) = true then (answered p .noteBegin .noSurvey [] s).setNote p .empty
      else match categoryOf v.category with
        | none => (answered p .noteBegin .badValue [] s).setNote p .empty
        | some category =>
          if 4 < v.citeCount then (answered p .noteBegin .badValue [] s).setNote p .empty
          else
            let d := beginNote v category s.survey.number
            (answered p .noteBegin (okOr (d.author != v.author || d.parts != v.parts)) [word d.author, word d.parts] s).setNote p
              (.assembling d)) := by
  have hsurvey : (withdrawn p s).survey = s.survey := by cases p <;> rfl
  have hin : (withdrawn p s).inSurvey = s.inSurvey := by rw [State.inSurvey, hsurvey, State.inSurvey]
  have hagain : ∀ c, ((withdrawn p s).setNote p .empty).setNote p c = (withdrawn p s).setNote p c := by cases p <;> exact fun _ => rfl
  rw [show exec (.noteBegin p) s = execNoteBegin p s from rfl, execNoteBegin, takeRequest_of_waits _ hw]
  simp only [respond_setNote, hagain, hsurvey, hin] <;> rfl

theorem exec_noteBegin_of_read {v : BeginValues} (hw : waits p .noteBegin body s) (hv : readBegin body = some v) :
    exec (.noteBegin p) s = .next (if (!s.inSurvey) = true then (answered p .noteBegin .noSurvey [] s).setNote p .empty
      else match categoryOf v.category with
        | none => (answered p .noteBegin .badValue [] s).setNote p .empty
        | some category =>
          if 4 < v.citeCount then (answered p .noteBegin .badValue [] s).setNote p .empty
          else
            let d := beginNote v category s.survey.number
            (answered p .noteBegin (okOr (d.author != v.author || d.parts != v.parts)) [word d.author, word d.parts] s).setNote p
              (.assembling d)) := by
  rw [exec_noteBegin hw, hv]

theorem okOr_ne (a b c d : Nat) : okOr (a != b || c != d) = if a = b ∧ c = d then .ok else .okClamped := by
  by_cases h1 : a = b <;> by_cases h2 : c = d <;> simp [okOr, h1, h2]

theorem categoryOf_eq (n : Nat) : categoryOf n = [Category.site, .load, .weather, .probe, .other][n]? := by
  match n with
  | 0 | 1 | 2 | 3 | 4 | _ + 5 => rfl

/-! ### NOTE_PART before a note is complete, and after (R144 to R146, R151) -/

theorem length_of_readPart {r : Nat × List Byte} (h : readPart body = some r) :
    (body.getD 1 0).toNat ≤ 64 ∧ body.length = 2 + ((body.getD 1 0).toNat + 1) / 2 := by
  match body, h with
  | index :: rest, h =>
    rw [readPart] at h
    split at h
    · rename_i text ht
      split at h
      · rename_i hle
        obtain ⟨hlen, hwords⟩ := readText_some ht
        have hcount : (index :: rest).getD 1 0 = rest.headD 0 := by cases rest <;> rfl
        rw [hcount, List.length_cons, hwords, wordsFor, List.length_nil]
        omega
      · cases h
    · cases h

theorem readPart_textWords {text : List Byte} (h : text.length ≤ 64) (index : Word) :
    readPart (index :: textWords text) = some (index.toNat, text) := by
  have hread := readText_textWords text [] (by omega)
  rw [List.append_nil] at hread
  rw [readPart, hread]
  exact if_pos h

theorem exec_notePart (hw : waits p .notePart body s) : exec (.notePart p) s = .next (match readPart body with
    | none => answered p .notePart .badRequest [] s
    | some (index, text) => match s.note p with
      | .empty => answered p .notePart .badSequence [] s
      | .assembling d => assemblePart p index text d (withdrawn p s)
      | .done d seq _ observed =>
        if index = d.parts then answered p .notePart .duplicate (doneWords seq observed d) s
        else (answered p .notePart .badSequence [] s).setNote p .empty) := by
  have hnote : (withdrawn p s).note p = s.note p := by cases p <;> rfl
  rw [show exec (.notePart p) s = execNotePart p s from rfl, execNotePart, takeRequest_of_waits _ hw]
  simp only [respond_setNote, respond_withdrawn, hnote] <;> rfl

theorem exec_notePart_of_read {index : Nat} {text : List Byte} (hw : waits p .notePart body s)
    (hr : readPart body = some (index, text)) : exec (.notePart p) s = .next (match s.note p with
      | .empty => answered p .notePart .badSequence [] s
      | .assembling d => assemblePart p index text d (withdrawn p s)
      | .done d seq _ observed =>
        if index = d.parts then answered p .notePart .duplicate (doneWords seq observed d) s
        else (answered p .notePart .badSequence [] s).setNote p .empty) := by
  rw [exec_notePart hw, hr]

/-- Settles O47. -/
theorem notesAreAssembled : Obligations.NotesAreAssembled := by
  refine ⟨⟨fun p s body hw hlen => ?_, fun p s author category parts observed target cites hc => ?_⟩,
    fun p s body hw hbad => ?_, fun p s index text ht hw => ?_⟩
  · rw [exec_noteBegin hw, Option.eq_none_iff_forall_ne_some.2 fun v hv => hlen (length_of_readBegin hv)]
  · intro opt presence hw refused
    have hexec := exec_noteBegin_of_read hw (readBegin_words hc author category parts observed target)
    dsimp only at hexec
    rw [categoryOf_eq] at hexec
    refine ⟨fun hidle => ?_, fun hs hbad => ?_, fun kind hs hkind hcites => ?_⟩
    · rw [hexec, if_pos (by simp [State.inSurvey, hidle])]
    · rw [hexec, if_neg (by simp [State.inSurvey, hs])]
      split
      · rfl
      · rename_i kind hkind
        have hlt : category.toNat < 5 := (List.getElem?_eq_some_iff.1 hkind).1
        rw [if_pos (hbad.resolve_left (by omega))]
    · rw [hexec, if_neg (by simp [State.inSurvey, hs]), hkind]
      dsimp only
      rw [if_neg (by omega), okOr_ne]
      rfl
  · rw [exec_notePart hw, (Option.eq_none_iff_forall_ne_some.2 fun v hv => ?_ : readPart body = none)]
    obtain ⟨h1, h2⟩ := length_of_readPart hv
    exact hbad.elim (fun h => absurd h1 (Nat.not_le.2 h)) (fun h => h h2)
  · have hexec := exec_notePart_of_read hw (readPart_textWords ht index)
    refine ⟨fun hn => ?_, fun d hn => ⟨fun hi hlt => ?_, fun hi h0 => ?_, fun h1 h2 => ?_⟩, fun d seq clamped observed hn =>
      ⟨fun hi => ?_, fun hi => ?_⟩⟩
    · rw [hexec, hn]
    · rw [hexec, hn]
      dsimp only
      rw [assemblePart, if_pos ⟨hi, Nat.le_of_lt hlt⟩]
      dsimp only
      rw [if_neg (Nat.ne_of_lt hlt), respond_setNote]
      rfl
    · rw [hexec, hn]
      dsimp only
      rw [assemblePart, if_neg (by omega), if_pos ⟨hi, h0⟩, respond_withdrawn, partWords, ← hi]
    · rw [hexec, hn]
      dsimp only
      rw [assemblePart, if_neg (by omega), if_neg (by omega), respond_setNote]
    · rw [hexec, hn]
      dsimp only
      rw [if_pos hi, doneWords, word_bit]
    · rw [hexec, hn]
      dsimp only
      rw [if_neg hi]

end Sys2Proof.Machine

/-! PROOF (O48, refuted). A note of more citations than the store has room for finds no room under CAPTURE_FIRST either, and the jobs
that yielded for it stay: the statement asks the yield to change nothing in every state, and a state whose note context is not sound
has such a note. -/

namespace Sys2Proof.Machine

open Sys2Proof

variable {s : State} {p : Port} {d : NoteData}

/-- The refusals before the plan leave alone a note whose citations the journal holds and that supersedes none (R147). -/
theorem noteRefusal_of_held (hs : s.survey.state ≠ .idle) (hnum : s.survey.number = d.surveyNumber)
    (hseq : s.journal.headSeq < 0xFFFFFF00) (hcites : ∀ n ∈ d.cites, inJournal s n = true) (hsup : d.supersedes = none) :
    noteRefusal d s = none := by
  have hgone : (d.cites.find? fun n => !inJournal s n) = none :=
    List.find?_eq_none.2 fun n hn => by rw [hcites n hn]; nofun
  rw [noteRefusal, if_neg (by simp [State.inSurvey, hs]), if_neg (not_not.2 hnum),
    if_neg (by rw [show belowReserve s = true from decide_eq_true hseq]; nofun), hgone, hsup]

/-- A note of 32768 citations takes more slots than the store has. -/
theorem appendNote_of_large (hj : JournalSound s.journal) (hlarge : 32768 ≤ d.cites.length) : appendNote p d s = none := by
  have hslots : 8192 < bodySlots (.note (noteBody d s)) := by
    show 8192 < slotsFor (24 + 16 * (d.cites.map (citeEntry s)).length + d.text.length)
    rw [List.length_map]
    unfold slotsFor Config.headerBytes Config.slotBytes
    omega
  rw [appendNote]
  dsimp only
  rw [portAppend_of_large hj hslots, Option.map_none]

theorem exec_notePart_of_large {index : Word} {text : List Byte} (ht : text.length ≤ 64)
    (hw : waits p .notePart (index :: textWords text) s) (hn : s.note p = .assembling d) (hi : index.toNat = d.lastPart + 1)
    (hlast : index.toNat = d.parts) (hs : s.survey.state ≠ .idle) (hnum : s.survey.number = d.surveyNumber)
    (hseq : s.journal.headSeq < 0xFFFFFF00) (hcites : ∀ n ∈ d.cites, inJournal s n = true) (hsup : d.supersedes = none)
    (hj : JournalSound s.journal) (hlarge : 32768 ≤ d.cites.length) :
    exec (.notePart p) s = .next ((answered p .notePart .journalHeld [] s).setNote p .empty) := by
  have hjournal : (withdrawn p s).journal = s.journal := by cases p <;> rfl
  have hsurvey : (withdrawn p s).survey = s.survey := by cases p <;> rfl
  have hnone : noteRefusal (addText index.toNat text d) (withdrawn p s) = none :=
    noteRefusal_of_held (by rwa [hsurvey]) (by rwa [hsurvey]) (by rwa [hjournal])
      (fun n hm => by rw [inJournal, hjournal]; exact hcites n hm) hsup
  rw [exec_notePart_of_read hw (readPart_textWords ht index), hn]
  dsimp only
  rw [assemblePart, if_pos ⟨hi, Nat.le_of_eq hlast⟩]
  dsimp only
  rw [if_pos hlast, completeNote, hnone]
  dsimp only
  rw [appendNote_of_large (d := addText index.toNat text d) (by rwa [hjournal]) hlarge]
  exact congrArg _ (respond_setNote ..)

section Held
variable {text : List Byte} {cites : List Nat}

/-- A note of one part that cites `cites`. -/
def citingNote (cites : List Nat) : NoteData := ⟨0, .other, none, none, cites, 1, 0, [], 0, false, 1⟩

/-- RUNNING with a full store that a job holds, and the last part of a note waiting at port A; with more citations than four, no run
reaches it (NotesSound). -/
def heldByNote (text : List Byte) (cites : List Nat) : State :=
  { State.reset with
    survey := { State.reset.survey with state := .running, number := 1 }
    journal := fullStore text
    noteA := .assembling (citingNote cites)
    comp := { State.reset.comp with queue := [holdingJob] }
    portA := { State.reset.portA with waiting := some ⟨.notePart, 1 :: textWords []⟩ } }

theorem queueSound_heldByNote : QueueSound (heldByNote text cites).comp := queueSound_heldByEdges (text := text) (edges := [])

theorem exec_heldByNote (ht : text.length = 524248) (hc : ∀ n ∈ cites, n = 1) (hlarge : 32768 ≤ cites.length) :
    exec (.notePart .a) (heldByNote text cites) =
      .next ((answered .a .notePart .journalHeld [] (heldByNote text cites)).setNote .a .empty) :=
  exec_notePart_of_large (d := citingNote cites) (text := []) (Nat.zero_le _) rfl rfl rfl rfl nofun rfl (show 2 < 0xFFFFFF00 by decide)
    (fun n hn => by rw [hc n hn]; rfl) rfl (journalSound_fullStore ht) hlarge

theorem exec_yielded_heldByNote (ht : text.length = 524248) (hc : ∀ n ∈ cites, n = 1) (hlarge : 32768 ≤ cites.length) :
    exec (.notePart .a) (yielded [] holdingJob [] (heldByNote text cites)) =
      .next ((answered .a .notePart .journalHeld [] (yielded [] holdingJob [] (heldByNote text cites))).setNote .a .empty) :=
  exec_notePart_of_large (d := citingNote cites) (text := []) (Nat.zero_le _) rfl rfl rfl rfl nofun rfl (show 2 < 0xFFFFFF00 by decide)
    (fun n hn => by rw [hc n hn]; rfl) rfl (journalSound_fullStore ht) hlarge

/-- Without the yield that comes first, the job keeps its hold. -/
theorem not_appendsTheNote_of_large (ht : text.length = 524248) (hc : ∀ n ∈ cites, n = 1) (hlarge : 32768 ≤ cites.length) :
    ¬ Obligations.LastPartAppendsTheNote := by
  intro h
  obtain ⟨-, -, -, -, haccepted⟩ := h .a (heldByNote text cites) 1 [] (citingNote cites) (Nat.zero_le _) rfl rfl rfl rfl
  obtain ⟨-, -, hyields⟩ := haccepted ⟨nofun, rfl, show 2 < 0xFFFFFF00 by decide⟩
    (fun n hn => by rw [hc n hn]; exact ⟨Nat.le_refl 1, Nat.lt_succ_self 1⟩) nofun
  have hplan : noPlan (slotsFor (24 + 16 * cites.length + 0)) (heldByNote text cites) := by
    show 0 + usedSlots [] < _
    unfold slotsFor Config.headerBytes Config.slotBytes
    rw [usedSlots_nil]
    omega
  have hsame := hyields [] holdingJob [] rfl (journalSound_fullStore ht) queueSound_heldByNote hplan
    ⟨rfl, 1, rfl, fun _ hi => absurd hi List.not_mem_nil, fun _ hi => absurd hi List.not_mem_nil⟩
  rw [exec_heldByNote ht hc hlarge, exec_yielded_heldByNote ht hc hlarge] at hsame
  have hholds : [some 1] = [none] := congrArg (fun t : State => t.comp.queue.map Job.hold) (Host.Outcome.next.inj hsame)
  exact absurd hholds (by decide)

end Held

/-- Refutes O48: a note of 32768 citations finds no room, whatever yields, in a store that a job holds; so its last part is refused and
leaves the queue alone, though the statement asks it to do as it would after the job's yield. -/
theorem not_lastPartAppendsTheNote : ¬ Obligations.LastPartAppendsTheNote :=
  not_appendsTheNote_of_large (text := List.replicate 524248 0) (cites := List.replicate 32768 1) List.length_replicate
    (fun _ hn => List.eq_of_mem_replicate hn) (Nat.le_of_eq List.length_replicate.symm)

end Sys2Proof.Machine

/-! PROOF (O49). PRINT_SUBMIT: how its body reads, the order of its checks, and the job that joins the queue. -/

namespace Sys2Proof.Machine

open Sys2Proof

variable {s : State} {p : Port} {body : List Word}

/-! ### The body of PRINT_SUBMIT (R155) -/

theorem readSubmit_of_length (h : body.length ≠ if body.headD 0 = 0 then 9 else 5) : readSubmit body = none := by
  match body, h with
  | [], _ | [_], _ | [_, _], _ | [_, _, _], _ | [_, _, _, _], _ | [_, _, _, _, _, _], _ | [_, _, _, _, _, _, _], _
  | [_, _, _, _, _, _, _, _], _ | _ :: _ :: _ :: _ :: _ :: _ :: _ :: _ :: _ :: _ :: _, _ => rfl
  | [form, _, _, _, _], h => exact if_pos (by by_contra hf; exact h (if_neg hf).symm)
  | [form, _, _, _, _, _, _, _, _], h => exact if_neg (fun hf => h (if_pos hf).symm)

theorem sectionsOf_mod (n : Nat) : sectionsOf (n % 32) = sectionsOf n := by
  have hbit : ∀ i, i < 5 → (n % 32).testBit i = n.testBit i := fun i hi => by
    rw [show (32 : Nat) = 2 ^ 5 from rfl, Nat.testBit_mod_two_pow, decide_eq_true hi, Bool.true_and]
  rw [sectionsOf, sectionsOf, hbit 0 (by decide), hbit 1 (by decide), hbit 2 (by decide), hbit 3 (by decide), hbit 4 (by decide)]

theorem noSections_sectionsOf (n : Nat) : noSections (sectionsOf n) = decide (n % 32 = 0) := by
  have hsmall : ∀ m < 32, noSections (sectionsOf m) = decide (m = 0) := by decide
  rw [← sectionsOf_mod, hsmall _ (Nat.mod_lt _ (by decide))]

theorem submitValid_iff (v : SubmitValues) :
    submitValid v = true ↔ v.form ≠ .unknown ∧ v.format ≤ 1 ∧ v.latestOnly ≤ 1 ∧ v.sections % 32 ≠ 0 := by
  rw [submitValid, noSections_sectionsOf]
  simp only [Bool.and_eq_true, bne_iff_ne, decide_eq_true_iff, Bool.not_eq_true', decide_eq_false_iff_not, Nat.lt_succ_iff, and_assoc]

/-! ### The command (R155 to R158) -/

theorem exec_printSubmit (hw : waits p .printSubmit body s) : exec (.printSubmit p) s = .next (match readSubmit body with
    | none => answered p .printSubmit .badRequest [] s
    | some v =>
      if (!s.inSurvey) = true then answered p .printSubmit .noSurvey [] s
      else if (!submitValid v) = true then answered p .printSubmit .badValue [] s
      else match resolveSpan v.form s with
        | none => answered p .printSubmit .emptySpan [] s
        | some span =>
          if 8 ≤ s.comp.queue.length then answered p .printSubmit .queueFull [] s
          else
            let j := newJob p v (nextNumber 9 s.comp.lastJob s.comp.queue) span s
            answered p .printSubmit (okOr (j.copies != v.copies))
              (word j.number :: words32 j.first ++ words32 j.last ++ words32 j.missing ++ [word j.copies]) (acceptJob j s)) := by
  have hin : (withdrawn p s).inSurvey = s.inSurvey := by cases p <;> rfl
  have hcomp : (withdrawn p s).comp = s.comp := by cases p <;> rfl
  have hspan : ∀ f, resolveSpan f (withdrawn p s) = resolveSpan f s := by cases p <;> exact fun _ => rfl
  have hjob : ∀ v n span, newJob p v n span (withdrawn p s) = newJob p v n span s := by cases p <;> exact fun _ _ _ => rfl
  have haccept : ∀ j code ws, respond p .printSubmit code ws (acceptJob j (withdrawn p s)) =
      answered p .printSubmit code ws (acceptJob j s) := by cases p <;> exact fun _ _ _ => rfl
  rw [show exec (.printSubmit p) s = execPrintSubmit p s from rfl, execPrintSubmit, takeRequest_of_waits _ hw]
  simp only [respond_withdrawn, hin, hcomp, hspan, hjob, haccept, Config.queueSize] <;> rfl

theorem exec_printSubmit_of_read {v : SubmitValues} (hw : waits p .printSubmit body s) (hv : readSubmit body = some v) :
    exec (.printSubmit p) s = .next (
      if (!s.inSurvey) = true then answered p .printSubmit .noSurvey [] s
      else if (!submitValid v) = true then answered p .printSubmit .badValue [] s
      else match resolveSpan v.form s with
        | none => answered p .printSubmit .emptySpan [] s
        | some span =>
          if 8 ≤ s.comp.queue.length then answered p .printSubmit .queueFull [] s
          else
            let j := newJob p v (nextNumber 9 s.comp.lastJob s.comp.queue) span s
            answered p .printSubmit (okOr (j.copies != v.copies))
              (word j.number :: words32 j.first ++ words32 j.last ++ words32 j.missing ++ [word j.copies]) (acceptJob j s)) := by
  rw [exec_printSubmit hw, hv]

theorem acceptJob_eq (j : Job) (s : State) : acceptJob j s = { s with comp := { s.comp with
    lastJob := j.number
    queue := if s.comp.queue = [] then [{ j with state := .printing }] else s.comp.queue ++ [j]
    asked := s.comp.asked || s.comp.queue.isEmpty } }.bothPorts (flagsRaised 0x08) := by
  unfold acceptJob becomeHead
  dsimp only
  by_cases h : s.comp.queue = []
  · rw [if_pos h, if_pos h, h, List.isEmpty_nil, Bool.or_true]
    rfl
  · rw [if_neg h, if_neg h, List.isEmpty_eq_false_iff.2 h, Bool.or_false]
    rfl

theorem answered_bothPorts (p : Port) (k : RequestKind) (code : ResultCode) (ws : List Word) (m : BitVec 8) (s : State) :
    answered p k code ws (s.bothPorts (flagsRaised m)) = (answered p k code ws s).bothPorts (flagsRaised m) := by cases p <;> rfl

/-- Settles O49. -/
theorem submitResolvesAndQueuesAJob : Obligations.SubmitResolvesAndQueuesAJob := by
  refine ⟨fun p s body hw hlen => ?_, fun a b c d sec fmt copies latest => ⟨rfl, rfl, rfl, fun ha => ?_⟩,
    fun p s body span sec fmt copies latest hw hread => ?_⟩
  · rw [exec_printSubmit hw, readSubmit_of_length hlen]
  · have hne : ∀ k : Word, k.toNat ≤ 2 → a ≠ k := fun k hk h => by rw [h] at ha; omega
    exact (if_neg (hne 0 (by decide))).trans (by rw [if_neg (hne 1 (by decide)), if_neg (hne 2 (by decide))])
  · have hexec := exec_printSubmit_of_read hw hread
    intro refused tail newest asked first last valid
    have hasked : asked = spanAsked span s := by cases span <;> rfl
    have hspan : resolveSpan span s = if last < first then none else some (first, last, tail - asked.1) := by
      rw [resolveSpan_eq, ← hasked]
    have hsurvey : s.survey.state ≠ .idle → ¬ (!s.inSurvey) = true := fun h => by simp [State.inSurvey, h]
    have hvalid : submitValid ⟨span, sec, fmt, copies, latest⟩ = true ↔ valid := submitValid_iff _
    have hok : valid → ¬ (!submitValid ⟨span, sec, fmt, copies, latest⟩) = true := fun h => by rw [hvalid.2 h]; nofun
    dsimp only at hexec
    rw [hspan] at hexec
    refine ⟨fun hs => ?_, fun hs hv => ?_, fun hs hv hlt => ?_, fun hs hv hle hq => ?_, fun hs hv hle hsound hq => ?_⟩
    · rw [hexec, if_pos (by simp [State.inSurvey, hs])]
    · rw [hexec, if_neg (hsurvey hs), if_pos (by rw [Bool.not_eq_true', ← Bool.not_eq_true, hvalid]; exact hv)]
    · rw [hexec, if_neg (hsurvey hs), if_neg (hok hv), if_pos hlt]
    · rw [hexec, if_neg (hsurvey hs), if_neg (hok hv), if_neg (by omega)]
      exact congrArg _ (if_pos hq)
    · rw [if_neg (hsurvey hs), if_neg (hok hv), if_neg (by omega)] at hexec
      dsimp only at hexec
      rw [if_neg (by omega)] at hexec
      obtain ⟨i, hfree, hheld, hnumber⟩ := nextNumber_free (n := s.comp.lastJob) (q := s.comp.queue) hsound.2.2.1 hsound.1
      rw [hnumber] at hexec
      refine ⟨i, hfree, hheld, hexec.trans (congrArg _ ?_)⟩
      rw [acceptJob_eq, answered_bothPorts, okOr_bne, if_congr eq_comm rfl rfl]
      rfl

end Sys2Proof.Machine

/-! PROOF (O50). PRINT_CANCEL: the job of a number, and how its closing is set by where it stands. -/

namespace Sys2Proof.Machine

open Sys2Proof

variable {s : State} {p : Port} {body : List Word} {n : Word} {j : Job} {before after : List Job}

/-! ### The head job's closing under CANCEL (R173, R174) -/

theorem closeHead_suspended (hq : s.comp.queue = j :: after) (hstate : j.state = .suspended) :
    let where_ := if j.began then some j.position else none
    closeHead .cancel s = headLeft (entryOf j .cancelled where_)
      { s with comp := { s.comp with queue := { j with hold := none, closing := .cancel, decided := where_ } :: after } } := by
  rw [closeHead, hq]
  dsimp only
  rw [hstate]
  refine (headLeaves_eq (j := ?head) _ (rest := after) ?front).trans ?left
  case front => rfl
  case left => rfl

theorem closeHead_stalled (hq : s.comp.queue = j :: after) (hstate : j.state = .stalled) :
    closeHead .cancel s = { s with comp := { s.comp with
      queue := { j with hold := none, closing := .cancel, decided := if j.began then some j.position else none } :: after } }.bothPorts
        (flagsRaised 0x08) := by
  rw [closeHead, hq]
  dsimp only
  rw [hstate]
  rfl

theorem closeHead_printing (hq : s.comp.queue = j :: after) (hstate : j.state = .printing) :
    let where_ := if j.began then some j.position else none
    let s1 := { s with comp := { s.comp with queue := { j with hold := none, closing := .cancel, decided := where_ } :: after } }
    closeHead .cancel s = if s.line.state = .sending ∧ s.comp.asked = false then
        { s1 with comp := { s1.comp with
          todo := [.closingLine (ascii "REPORT CANCELLED"), .command [0x02, 4, 0x03]] } }.bothPorts (flagsRaised 0x08)
      else s1.bothPorts (flagsRaised 0x08) := by
  rw [closeHead, hq]
  dsimp only
  rw [hstate]
  rfl

/-! ### A job behind the head (R159, R173) -/

theorem queuedLeaves_cancelled (hnodup : (s.comp.queue.map Job.number).Nodup) (hq : s.comp.queue = before ++ j :: after)
    (hclosing : j.closing = .none) : queuedLeaves j.number .cancelled s = { s with comp := { s.comp with
      queue := before ++ after
      endList := endListed (entryOf j .cancelled (if j.began then some j.position else none)) s.comp.endList } }.bothPorts
        (flagsRaised 0x08) := by
  obtain ⟨hb, ha⟩ := number_ne_of_nodup hnodup hq
  have hposition : endPosition j .cancelled = if j.began then some j.position else none := if_pos hclosing
  rw [queuedLeaves, find_number hq hb, filter_number hq hb ha]
  dsimp only
  rw [pushEnd_eq, endEntry, hposition]
  rfl

/-! ### The command (R173) -/

theorem exec_printCancel (hw : waits p .printCancel body s) : exec (.printCancel p) s = .next (match (generalizing := false) body with
    | [n] => match findJob n.toNat s with
      | none => answered p .printCancel .noSuchJob [] s
      | some (j, isHead) =>
        if j.closing ≠ .none then answered p .printCancel .wrongState [word (closingCode j.closing)] s
        else if isHead = true then replied p .printCancel .ok [] (closeHead .cancel (withdrawn p s))
        else replied p .printCancel .ok [] (queuedLeaves j.number .cancelled (withdrawn p s))
    | _ => answered p .printCancel .badRequest [] s) := by
  have hfind : ∀ n, findJob n (withdrawn p s) = findJob n s := by cases p <;> exact fun _ => rfl
  rw [show exec (.printCancel p) s = execPrintCancel p s from rfl, execPrintCancel, takeRequest_of_waits _ hw]
  simp only [respond_withdrawn, hfind] <;> rfl

theorem findJob_none (h : ∀ j ∈ s.comp.queue, j.number ≠ n.toNat) : findJob n.toNat s = none := by
  rw [findJob, List.find?_eq_none.2 fun j hj => by simpa using h j hj, Option.map_none]

theorem findJob_some (hb : ∀ i ∈ before, i.number ≠ j.number) (hq : s.comp.queue = before ++ j :: after) (hn : j.number = n.toNat) :
    findJob n.toNat s = some (j, before.isEmpty) := by
  rw [findJob, ← hn, find_number hq hb, headJob, hq]
  cases before with
  | nil => simp
  | cons i rest => simpa using hb i List.mem_cons_self

/-- Settles O50. -/
theorem cancelClosesAJob : Obligations.CancelClosesAJob := by
  refine ⟨fun p s body hw hlen => ?_, fun p s n hw hnodup => ⟨fun hnone => ?_, fun before after j hq hn => ?_⟩⟩
  · rw [exec_printCancel hw]
    split
    · exact absurd rfl hlen
    · rfl
  · rw [exec_printCancel hw]
    dsimp only
    rw [findJob_none hnone]
  · obtain ⟨hb, -⟩ := number_ne_of_nodup hnodup hq
    have hexec := exec_printCancel hw
    dsimp only at hexec
    rw [findJob_some hb hq hn] at hexec
    dsimp only at hexec
    have hcomp : (withdrawn p s).comp = s.comp := by cases p <;> rfl
    have hline : (withdrawn p s).line = s.line := by cases p <;> rfl
    intro ok s0
    refine ⟨fun hc => ?_, fun hc hne => ?_, fun hc hnil => ?_⟩
    · rw [hexec, if_pos hc]
      cases hcl : j.closing with
      | none => exact absurd hcl hc
      | cancel | yield => rfl
    · rw [hexec, if_neg (not_not.2 hc), if_neg (by simpa using hne), queuedLeaves_cancelled (by rwa [hcomp]) (by rwa [hcomp]) hc, hcomp]
    · subst hnil
      rw [if_neg (not_not.2 hc), if_pos List.isEmpty_nil] at hexec
      have hfront : (withdrawn p s).comp.queue = j :: after := by rw [hcomp]; exact hq
      refine ⟨fun hst => ?_, fun hst => ?_, fun hst => ?_⟩
      · rw [hexec, closeHead_suspended hfront hst, hcomp]
      · rw [hexec, closeHead_stalled hfront hst, hcomp]
      · rw [closeHead_printing hfront hst, hcomp] at hexec
        exact ⟨fun hl => hexec.trans (congrArg ok (if_pos (by rwa [hline]))),
          fun hl => hexec.trans (congrArg ok (if_neg (by rwa [hline])))⟩

end Sys2Proof.Machine

/-! PROOF (O51). PRINT_RESUME begins with a break; PRINT_LIST's words, job by job and entry by entry. -/

namespace Sys2Proof.Machine

open Sys2Proof

variable {s : State} {p : Port} {body : List Word} {n : Word} {j : Job}

/-! ### PRINT_RESUME (R191, R192) -/

theorem exec_printResume (hw : waits p .printResume body s) : exec (.printResume p) s = .next (match (generalizing := false) body with
    | [n] => match findJob n.toNat s with
      | none => answered p .printResume .noSuchJob [] s
      | some (j, isHead) =>
        if (isHead && j.state == .suspended && s.line.state == .suspended) = true then
          answered p .printResume .ok [] (modLine beginBreak s)
        else answered p .printResume .wrongState [] s
    | _ => answered p .printResume .badRequest [] s) := by
  have hfind : ∀ n, findJob n (withdrawn p s) = findJob n s := by cases p <;> exact fun _ => rfl
  have hline : (withdrawn p s).line = s.line := by cases p <;> rfl
  have hbreak : ∀ ws, respond p .printResume .ok ws (modLine beginBreak (withdrawn p s)) =
      answered p .printResume .ok ws (modLine beginBreak s) := by cases p <;> exact fun _ => rfl
  rw [show exec (.printResume p) s = execPrintResume p s from rfl, execPrintResume, takeRequest_of_waits _ hw]
  simp only [respond_withdrawn, hfind, hline, hbreak] <;> rfl

/-- The job of a number, and whether it stands at the head. -/
theorem findJob_of_mem (hnodup : (s.comp.queue.map Job.number).Nodup) (hj : j ∈ s.comp.queue) (hn : j.number = n.toNat) :
    ∃ isHead, findJob n.toNat s = some (j, isHead) ∧ (isHead = true ↔ s.comp.queue.head? = some j) := by
  obtain ⟨before, after, hq⟩ := List.append_of_mem hj
  obtain ⟨hb, -⟩ := number_ne_of_nodup hnodup hq
  refine ⟨before.isEmpty, findJob_some hb hq hn, ?_⟩
  rw [hq]
  cases before with
  | nil => simp
  | cons i rest =>
    have hne : i ≠ j := fun h => hb i List.mem_cons_self (by rw [h])
    simpa using hne

theorem modLine_beginBreak (s : State) : modLine beginBreak s = { s with
    line := { s.line with state := .brk, brk := if s.line.shift = none then some 250 else none } } := by
  have hbreak : (if s.line.shift.isSome then none else some Config.breakMs) = if s.line.shift = none then some 250 else none := by
    cases s.line.shift <;> rfl
  rw [modLine, beginBreak, hbreak]
  rfl

/-! ### PRINT_LIST (R177) -/

theorem exec_printList (hw : waits p .printList body s) : exec (.printList p) s = .next
    (if body ≠ [] then answered p .printList .badRequest [] s else answered p .printList .ok (listBody s) s) := by
  have hbody : listBody (withdrawn p s) = listBody s := by cases p <;> rfl
  rw [show exec (.printList p) s = execPrintList p s from rfl, execPrintList, takeRequest_of_waits _ hw, hbody, respond_withdrawn,
    respond_withdrawn]

theorem word_two_bits (a b : Bool) : word (bit a + 2 * bit b) = word ((if a then 1 else 0) + if b then 2 else 0) := by
  cases a <;> cases b <;> rfl

theorem positionWords_eq (q : Position) : positionWords q =
    match q with | .header => [(0 : Word)] | .record m => 1 :: words32 m | .footer => [2] | .closing => [3] := by
  cases q <;> rfl

/-- The words of a stall reason that a listing shows. -/
theorem reasonWords_eq (r : Option StallReason) : (r.map fun r => [word (stallCode r)]).getD [] =
    match r with | none => [] | some .noPrinter => [0] | some .paperOut => [1] | some .coverOpen => [2] := by
  match r with
  | none | some .noPrinter | some .paperOut | some .coverOpen => rfl

theorem portWord (p : Port) : word (portNumber p) = match p with | .a => 0 | .b => 1 := by cases p <;> rfl

theorem stateWord (x : JobState) :
    word (jobStateCode x) = match x with | .queued => 0 | .printing => 1 | .stalled => 2 | .suspended => 3 := by cases x <;> rfl

theorem closingWord (x : Closing) : word (closingCode x) = match x with | .none => 0 | .cancel => 1 | .yield => 2 := by cases x <;> rfl

theorem endWord (x : JobEnd) : word (endCode x) = match x with | .done => 0 | .cancelled => 1 | .yielded => 2 := by cases x <;> rfl

/-- Settles O51. -/
theorem resumeBreaksAndListReports : Obligations.ResumeBreaksAndListReports := by
  refine ⟨fun p s body hw => ⟨fun hlen => ?_, fun n hn => ⟨fun hnone => ?_, fun hnodup j hj hnum => ?_⟩⟩,
    fun p s body hw => ⟨fun hne => ?_, fun hnil => ?_⟩⟩
  · rw [exec_printResume hw]
    split
    · exact absurd rfl hlen
    · rfl
  · subst hn
    rw [exec_printResume hw]
    dsimp only
    rw [findJob_none hnone]
  · subst hn
    obtain ⟨isHead, hfind, hhead⟩ := findJob_of_mem hnodup hj hnum
    have hexec := exec_printResume hw
    dsimp only at hexec
    rw [hfind] at hexec
    dsimp only at hexec
    have hiff : (isHead && j.state == .suspended && s.line.state == .suspended) = true ↔
        s.comp.queue.head? = some j ∧ j.state = .suspended ∧ s.line.state = .suspended := by
      rw [Bool.and_eq_true, Bool.and_eq_true, hhead, beq_iff_eq, beq_iff_eq, and_assoc]
    intro resumes
    refine ⟨fun hr => ?_, fun hr => ?_⟩
    · rw [hexec, if_neg (by rwa [hiff])]
    · rw [hexec, if_pos (hiff.2 hr), modLine_beginBreak]
  · rw [exec_printList hw, if_pos hne]
  · intro flag place job entry
    have hjob : jobWords s = job := by
      funext j
      simp only [jobWords, word_two_bits, positionWords_eq, reasonWords_eq, portWord, stateWord, closingWord, word_bit, optional32]
      rfl
    have hentry : endWords = entry := by
      funext e
      have hplace : positionWords = place := funext positionWords_eq
      simp only [endWords, hplace, portWord, endWord, word_bit]
      rfl
    rw [exec_printList hw, if_neg (not_not.2 hnil), listBody, hjob, hentry]

end Sys2Proof.Machine

/-! PROOF (O54). The printer line's inputs and its timers, each by the line's state. -/

namespace Sys2Proof.Machine

open Sys2Proof

variable {s : State} {j : Job} {rest : List Job}

/-! ### Inputs (R181, R184, R186, R188) -/

theorem exec_startRequest (s : State) : exec .startRequest s = .next
    (if s.comp.asked = true ∧ s.line.leaving = false ∧ (s.line.state = .idle ∨ s.line.state = .sending) then
      startBegun { s with comp := { s.comp with asked := false } }
    else s) := by
  rw [← beginStart_eq]
  refine congrArg _ (if_congr ?_ rfl rfl)
  simp only [Bool.and_eq_true, Bool.or_eq_true, Bool.not_eq_true', beq_iff_eq, and_assoc]

theorem exec_clearToSendChange (asserted : Bool) (s : State) : exec (.clearToSendChange asserted) s =
    .next (if s.line.cts = asserted then s else { s with line := byteMoved { s.line with cts := asserted } }) := by
  rw [← pump_eq]
  rfl

theorem readyLost_eq (s : State) : readyLost s = if s.line.leaving then s else match s.line.state with
    | .stalled => { s with line := { s.line with poll := none } }
    | .sending | .inquiring => stalled .noPrinter s
    | _ => s := by
  rw [readyLost, enterStalled_eq]
  refine if_congr Iff.rfl rfl ?_
  cases s.line.state <;> rfl

theorem exec_printerReadyChange_moved {active : Bool} (h : s.line.ready ≠ active) :
    let s1 := { s with line := { s.line with ready := active } }.bothPorts (flagsRaised 0x10)
    exec (.printerReadyChange active) s = .next (
      if s.line.leaving then s1
      else match s.line.state with
        | .stalled => { s1 with line := if active then polled s1.line else { s1.line with poll := none } }
        | .sending => if active then s1 else stalled .noPrinter s1
        | .inquiring => if active then s1 else stalled .noPrinter s1
        | _ => s1) := by
  intro s1
  have hexec : exec (.printerReadyChange active) s = .next (if active then
      (if s1.line.state = .stalled ∧ s1.line.leaving = false then modLine poll s1 else s1) else readyLost s1) :=
    congrArg _ (if_neg h)
  have hstate : s1.line.state = s.line.state := rfl
  have hleaving : s1.line.leaving = s.line.leaving := rfl
  rw [hexec, readyLost_eq, hstate, hleaving]
  cases hl : s.line.leaving with
  | true =>
    simp only [Bool.true_eq_false, and_false, if_false, if_true, ite_self]
  | false =>
    simp only [and_true, Bool.false_eq_true, if_false]
    cases hs : s.line.state with
    | stalled => cases active <;> simp [modLine, poll_eq, State.setLine]
    | sending | inquiring | idle | suspended | brk => cases active <;> rfl

/-! ### Received bytes (R179, R184) -/

theorem exec_byteReceived (data : Byte) (parityBit stopBit begunBefore : Bool) (s : State) :
    let odd := (((List.range 8).filter fun i => data.getLsbD i).length + if parityBit then 1 else 0) % 2 = 1
    let even := if begunBefore = true ∧ s.line.parityChanged = true then !s.line.evenParity else s.line.evenParity
    let s1 := { s with line := { s.line with parityChanged := false } }
    exec (.byteReceived data parityBit ⟨stopBit, begunBefore⟩) s = .next (
      if stopBit = false then s1.bothPorts fun u => { u with framing := min 65535 (u.framing + 1) }
      else if even = true ∧ odd then s1.bothPorts fun u => { u with parity := min 65535 (u.parity + 1) }
      else if s.line.holding ≠ none then s1.bothPorts fun u => { u with overrun := min 65535 (u.overrun + 1) }
      else { s1 with line := { s1.line with holding := some data } }) := by
  intro odd even s1
  have hodd : parityWrong data parityBit = decide odd := by
    rw [parityWrong, ones, bit, beq_eq_decide]
  have heven : receptionParity begunBefore s.line = even := by
    rw [receptionParity]
    exact if_congr (by rw [Bool.and_eq_true]) rfl rfl
  show Host.Outcome.next (judgeByte (receptionParity begunBefore s.line) data parityBit stopBit s1) = _
  rw [heven, judgeByte, hodd]
  refine congrArg _ (if_congr (by rw [Bool.not_eq_true']) rfl (if_congr (by rw [Bool.and_eq_true, decide_eq_true_iff]) rfl (if_congr ?_ rfl rfl)))
  rw [Option.isSome_iff_ne_none]

/-! ### Timers (R176, R189 to R191, R193) -/

theorem exec_inquiryTimerExpiry (s : State) : exec .inquiryTimerExpiry s =
    .next (if s.line.inquiry = some 0 ∧ s.line.state = .inquiring then stalled .noPrinter s else s) := by
  rw [← enterStalled_eq]
  rfl

theorem exec_pollTimerExpiry (s : State) : exec .pollTimerExpiry s =
    .next (if s.line.poll = some 0 ∧ s.line.state = .stalled then { s with line := polled { s.line with poll := none } } else s) := by
  rw [← poll_eq]
  rfl

theorem exec_breakTimerExpiry (s : State) : exec .breakTimerExpiry s = .next (if s.line.brk = some 0 ∧ s.line.state = .brk then
      if s.line.leaving then { s with line := { s.line with brk := none, state := .idle, leaving := false } }
      else startBegun { s with line := { s.line with brk := none } }
    else s) := by
  rw [← beginStart_eq]
  rfl

theorem exec_stallTimerExpiry (s : State) : exec .stallTimerExpiry s =
    .next (if s.line.stall = some 0 ∧ s.line.state = .stalled then suspend s else s) := rfl

theorem closingEnd_eq {c : Closing} (h : c ≠ .none) : closingEnd c = if c = .yield then .yielded else .cancelled := by
  cases c with
  | none => exact absurd rfl h
  | cancel | yield => rfl

theorem endPosition_closing (hj : j.closing ≠ .none) : endPosition j (closingEnd j.closing) = j.decided := by
  unfold endPosition closingEnd
  cases hc : j.closing with
  | none => exact absurd hc hj
  | cancel | yield => rfl

/-- The head job leaves by its closing (R174, R176). -/
theorem headLeaves_closing (hq : s.comp.queue = j :: rest) (hj : j.closing ≠ .none) : headLeaves (closingEnd j.closing) s =
    headLeft (entryOf j (if j.closing = .yield then .yielded else .cancelled) j.decided) s := by
  rw [headLeaves_eq _ hq, endPosition_closing hj, closingEnd_eq hj]

/-- Settles O54. -/
theorem lineInputsAndTimers : Obligations.LineInputsAndTimers := by
  refine ⟨fun s => ⟨⟨fun hd => ?_, fun hd => ?_⟩, fun asserted => exec_clearToSendChange asserted s,
      fun active => ⟨fun h => congrArg _ (if_pos h), fun h => exec_printerReadyChange_moved h⟩,
      fun data parityBit stopBit begunBefore => exec_byteReceived data parityBit stopBit begunBefore s⟩,
    fun s => ⟨exec_inquiryTimerExpiry s, exec_pollTimerExpiry s, exec_breakTimerExpiry s, fun h => ?_,
      fun h1 h2 j rest hq => ⟨fun hc => ?_, fun hc => ?_⟩⟩⟩
  · rw [exec_startRequest, if_pos hd]
  · rw [exec_startRequest, if_neg hd]
  · rw [exec_stallTimerExpiry, if_neg h]
  · rw [exec_stallTimerExpiry, if_pos ⟨h1, h2⟩, suspend, headJob, hq, ← setHeadState_eq]
    exact congrArg _ (if_neg (not_not.2 hc))
  · rw [exec_stallTimerExpiry, if_pos ⟨h1, h2⟩, suspend, headJob, hq, ← headLeaves_closing hq hc]
    exact congrArg _ (if_pos hc)

end Sys2Proof.Machine

/-! PROOF (O53). The end of a byte: what moves next, and how a composer with nothing left in hand passes on to the next record that
prints, to the footer, to the next copy, or out of the queue. -/

namespace Sys2Proof.Machine

open Sys2Proof

variable {s : State} {j : Job} {rest : List Job} {n : Nat}

/-! ### Records by their number (R19) -/

theorem pairwise_seq (hj : JournalSound s.journal) : s.journal.records.Pairwise fun a b => a.seq < b.seq := by
  have h : (s.journal.records.map Record.seq).Pairwise (· < ·) := by
    rw [hj.2.2.1]
    exact List.pairwise_lt_range'
  exact List.pairwise_map.1 h

/-- A number from the tail up to the head is that of one record, which divides the journal. -/
theorem exists_record (hj : JournalSound s.journal) (htail : s.journal.tailSeq ≤ n) (hhead : n < s.journal.headSeq) :
    ∃ before r after, s.journal.records = before ++ r :: after ∧ r.seq = n ∧ (∀ x ∈ before, x.seq < n) ∧ ∀ x ∈ after, n < x.seq := by
  have hmem : n ∈ s.journal.records.map Record.seq := by
    rw [hj.2.2.1, List.mem_range'_1]
    obtain ⟨-, hlen, -⟩ := hj
    omega
  obtain ⟨r, hr, rfl⟩ := List.mem_map.1 hmem
  obtain ⟨before, after, he⟩ := List.append_of_mem hr
  have hpair := pairwise_seq hj
  rw [he, List.pairwise_append, List.pairwise_cons] at hpair
  obtain ⟨-, ⟨hafter, -⟩, hbefore⟩ := hpair
  exact ⟨before, r, after, he, rfl, fun x hx => hbefore x hx r List.mem_cons_self, hafter⟩

/-- The records of a span that the composer has yet to read. -/
def spanFrom (n last : Nat) (rs : List Record) : List Record := rs.filter fun r => decide (n ≤ r.seq) && decide (r.seq ≤ last)

theorem spanFrom_above {last : Nat} (rs : List Record) (h : last < n) : spanFrom n last rs = [] :=
  List.filter_eq_nil_iff.2 fun r _ hr => by
    rw [Bool.and_eq_true, decide_eq_true_iff, decide_eq_true_iff] at hr
    omega

/-- The next record of a span, and what is left of it. -/
theorem spanFrom_next {last : Nat} (hj : JournalSound s.journal) (htail : s.journal.tailSeq ≤ n) (hlast : n ≤ last)
    (hhead : last < s.journal.headSeq) : ∃ r, r.seq = n ∧ findRecord n s = some r ∧
      spanFrom n last s.journal.records = r :: spanFrom (n + 1) last s.journal.records := by
  obtain ⟨before, r, after, he, rfl, hbefore, hafter⟩ := exists_record hj htail (Nat.lt_of_le_of_lt hlast hhead)
  refine ⟨r, rfl, ?_, ?_⟩
  · rw [findRecord, he, List.find?_append,
      List.find?_eq_none.2 fun x hx => by simpa using Nat.ne_of_lt (hbefore x hx), Option.none_or, List.find?_cons_of_pos (by simp)]
  · have hnone : ∀ m, r.seq ≤ m → spanFrom m last before = [] := fun m hm =>
      List.filter_eq_nil_iff.2 fun x hx h => by
        rw [Bool.and_eq_true, decide_eq_true_iff, decide_eq_true_iff] at h
        have := hbefore x hx
        omega
    have hsame : spanFrom r.seq last after = spanFrom (r.seq + 1) last after :=
      List.filter_congr fun x hx => by rw [decide_eq_true (Nat.succ_le_of_lt (hafter x hx)), decide_eq_true (Nat.le_of_lt (hafter x hx))]
    have happ : ∀ m, spanFrom m last (before ++ r :: after) = spanFrom m last before ++ spanFrom m last (r :: after) := fun m =>
      List.filter_append ..
    have hcons : spanFrom r.seq last (r :: after) = r :: spanFrom r.seq last after :=
      List.filter_cons_of_pos (by rw [decide_eq_true (Nat.le_refl _), decide_eq_true hlast]; rfl)
    have hskip : spanFrom (r.seq + 1) last (r :: after) = spanFrom (r.seq + 1) last after :=
      List.filter_cons_of_neg (by simp)
    rw [he, happ, happ, hnone _ (Nat.le_refl _), hnone _ (Nat.le_succ _), List.nil_append, List.nil_append, hcons, hskip, hsame]

/-! ### Passing on (R160, R171) -/

theorem wanted_eq (j : Job) (r : Record) : wanted j r = prints j r := by
  unfold wanted prints
  cases r.kind <;> simp [sectionWanted]

/-- The job as it stands at record n: its position, and in the last copy its hold. -/
def jobAt (n : Nat) (j : Job) : Job :=
  { j with position := .record n, hold := if j.current = j.copies then j.hold.map fun _ => n else j.hold }

theorem readRecord_eq (hq : s.comp.queue = j :: rest) : readRecord n s = { s with comp := { s.comp with
    queue := jobAt n j :: rest, working := findRecord n s } } := by
  unfold readRecord modHead jobAt
  rw [show (s.setComp { s.comp with working := findRecord n s }).comp.queue = j :: rest from hq]
  rfl

theorem beginFooter_eq (hq : s.comp.queue = j :: rest) : beginFooter s = { s with comp := { s.comp with
    queue := { j with position := .footer } :: rest, buffer := [], todo := footerLines s.hcu j.printed } } := by
  unfold beginFooter headJob modHead
  rw [hq]
  dsimp only [List.head?_cons]
  rw [show (setTodo (footerLines s.hcu j.printed) s).comp.queue = j :: rest from hq]
  rfl

theorem wantedRecord_eq {r : Record} (hq : s.comp.queue = j :: rest) (hw : s.comp.working = some r) :
    wantedRecord s = if prints j r then some r else none := by
  unfold wantedRecord headJob
  rw [hq, hw]
  dsimp only [List.head?_cons]
  rw [wanted_eq]

theorem beginRecord_countPrinted {r : Record} (hq : s.comp.queue = j :: rest) : beginRecord r (countPrinted s) = { s with
    comp := { s.comp with
      queue := { j with printed := j.printed + 1 } :: rest
      buffer := [], todo := recordLines r j.full s.survey.freq s.journal.tailSeq } } := by
  have hcount : countPrinted s = s.setComp { s.comp with queue := { j with printed := j.printed + 1 } :: rest } := by
    rw [countPrinted, modHead, hq]
  rw [hcount]
  rfl

/-- The hold of a job that stands at record n: in the last copy it follows (R171). -/
def holdAtRecord (j : Job) (n : Nat) : Option Nat := if j.current = j.copies then j.hold.map fun _ => n else j.hold

theorem holdAtRecord_jobAt (j : Job) (m n : Nat) : holdAtRecord (jobAt m j) n = holdAtRecord j n := by
  unfold holdAtRecord jobAt
  by_cases h : j.current = j.copies
  · simp only [h, if_true, Option.map_map]
    rfl
  · simp only [h, if_false]

/-- The state in which a composer that has these records of its span left passes on (R160, R171). -/
def passedTo (span : List Record) (j : Job) (rest : List Job) (s : State) : State :=
  match span.find? (prints j) with
  | some r => { s with comp := { s.comp with
      queue := { j with position := .record r.seq, hold := holdAtRecord j r.seq, printed := j.printed + 1 } :: rest
      working := some r, buffer := [], todo := recordLines r j.full s.survey.freq s.journal.tailSeq } }
  | none => { s with comp := { s.comp with
      queue := { j with position := .footer, hold := (span.getLast?.map fun r => holdAtRecord j r.seq).getD j.hold } :: rest
      working := if span = [] then s.comp.working else span.getLast?
      buffer := [], todo := footerLines s.hcu j.printed } }

theorem passesOn_iff {t : State} : passesOn n j rest s t ↔ t = passedTo (spanFrom n j.last s.journal.records) j rest s := by
  unfold passesOn passedTo
  dsimp only
  change (match (spanFrom n j.last s.journal.records).find? (prints j) with | some r => _ | none => _) ↔ _
  cases (spanFrom n j.last s.journal.records).find? (prints j) <;> exact Iff.rfl

/-- A record that does not print is passed over. -/
theorem passedTo_skip {r : Record} {span : List Record} (hskip : prints j r = false) :
    passedTo span (jobAt r.seq j) rest { s with comp := { s.comp with queue := jobAt r.seq j :: rest, working := some r } } =
      passedTo (r :: span) j rest s := by
  unfold passedTo
  rw [List.find?_cons_of_neg (by rw [hskip]; nofun), show prints (jobAt r.seq j) = prints j from rfl]
  simp only [holdAtRecord_jobAt]
  cases span.find? (prints j) with
  | some r' => rfl
  | none =>
    cases span with
    | nil => rfl
    | cons r' more => rfl

theorem advance_eq {fuel : Nat} (hf : fuel = j.last + 1 - n) (hq : s.comp.queue = j :: rest) (hj : JournalSound s.journal)
    (htail : s.journal.tailSeq ≤ n) (hhead : j.last < s.journal.headSeq) :
    advance fuel n s = passedTo (spanFrom n j.last s.journal.records) j rest s := by
  induction fuel generalizing s j n with
  | zero =>
    rw [advance, beginFooter_eq hq, spanFrom_above _ (by omega)]
    rfl
  | succ fuel ih =>
    obtain ⟨r, rfl, hfind, hspan⟩ := spanFrom_next hj htail (by omega : n ≤ j.last) hhead
    rw [advance, readRecord_eq hq, hfind]
    dsimp only
    rw [wantedRecord_eq (j := jobAt r.seq j) (rest := rest) (r := r) rfl rfl, show prints (jobAt r.seq j) = prints j from rfl, hspan]
    cases hp : prints j r with
    | true =>
      rw [if_pos rfl, passedTo, List.find?_cons_of_pos hp]
      exact beginRecord_countPrinted (j := jobAt r.seq j) (rest := rest) rfl
    | false =>
      rw [if_neg Bool.false_ne_true, ← passedTo_skip hp]
      exact ih (j := jobAt r.seq j) (by show fuel = j.last + 1 - (r.seq + 1); omega) rfl hj (Nat.le_succ_of_le htail) hhead

theorem passesOn_goTo (hq : s.comp.queue = j :: rest) (hj : JournalSound s.journal) (htail : s.journal.tailSeq ≤ n)
    (hhead : j.last < s.journal.headSeq) : passesOn n j rest s (goTo n s) := by
  rw [passesOn_iff, goTo, headJob, hq]
  exact advance_eq rfl hq hj htail hhead

/-! ### The end of a byte (R181, R182, R191, R193) -/

theorem afterByte_eq (l : LineUnit) : afterByte l =
    if l.state = .brk then { l with shift := none, brk := some (l.brk.getD 250) }
    else if l.leaving then { l with shift := none, state := .idle, leaving := false }
    else byteMoved { l with shift := none } := by
  rw [← pump_eq]
  rfl

theorem exec_shiftRegisterByteEnd (h : s.line.shift ≠ none) :
    exec .shiftRegisterByteEnd s = .next (reportComplete { s with line := afterByte s.line }) :=
  congrArg _ (if_pos (Option.isSome_iff_ne_none.2 h))

/-- With a byte waiting, one under way, nothing outstanding, or outside SENDING, nothing is complete (R182). -/
theorem reportComplete_of_not (h : ¬ (s.line.fifo = [] ∧ s.line.shift = none ∧ s.line.outstanding = true ∧ s.line.state = .sending)) :
    reportComplete s = s := by
  refine if_neg fun hc => h ?_
  simpa [allSent, and_assoc] using hc

theorem reportComplete_of (h1 : s.line.fifo = []) (h2 : s.line.shift = none) (h3 : s.line.outstanding = true)
    (h4 : s.line.state = .sending) : reportComplete s = composerComplete { s with line := { s.line with outstanding := false } } :=
  if_pos (by simp [allSent, h1, h2, h3, h4])

theorem byteMoved_of_empty {l : LineUnit} (h : l.fifo = []) : byteMoved l = l := by rw [byteMoved, h]

/-- A byte that waits stays in the FIFO or goes into the shift register. -/
theorem not_allSent_byteMoved {l : LineUnit} (h : l.fifo ≠ []) : ¬ ((byteMoved l).fifo = [] ∧ (byteMoved l).shift = none) := by
  rintro ⟨hfifo, hshift⟩
  unfold byteMoved at hfifo hshift
  cases hf : l.fifo with
  | nil => exact h hf
  | cons b more =>
    rw [hf] at hfifo hshift
    dsimp only at hfifo hshift
    split at hshift
    · cases hshift
    · rename_i hmove
      rw [if_neg hmove] at hfifo
      exact h hfifo

theorem byteMoved_outstanding (l : LineUnit) : (byteMoved l).outstanding = l.outstanding := by
  unfold byteMoved
  split
  · rfl
  · split <;> rfl

theorem byteMoved_state (l : LineUnit) : (byteMoved l).state = l.state := by
  unfold byteMoved
  split
  · rfl
  · split <;> rfl

theorem composerComplete_of_todo (h : s.comp.buffer ≠ [] ∨ s.comp.todo ≠ []) : composerComplete s = s := if_pos h

theorem composerComplete_of_none (h : s.comp.queue = []) : composerComplete s = s := by
  unfold composerComplete headJob
  rw [h]
  exact ite_self _

theorem composerComplete_eq (hb : s.comp.buffer = []) (ht : s.comp.todo = []) (hq : s.comp.queue = j :: rest) :
    composerComplete s = match j.position with
      | .header => goTo j.first s
      | .record n => goTo (n + 1) s
      | .footer => endCopy j s
      | .closing => headLeaves (closingEnd j.closing) s := by
  unfold composerComplete headJob
  rw [if_neg (by simp [hb, ht]), hq] <;> rfl

theorem endCopy_next (hq : s.comp.queue = j :: rest) (h : j.current < j.copies) : endCopy j s = { s with comp := { s.comp with
    queue := { j with current := j.current + 1, printed := 0, position := .header } :: rest, lastDate := none, asked := true } } := by
  unfold endCopy modHead
  rw [if_pos h, hq]
  rfl

theorem endCopy_last (hq : s.comp.queue = j :: rest) (h : j.copies ≤ j.current) : endCopy j s =
    headLeft (entryOf j .done (some .footer)) { s with comp := { s.comp with lastPrinted := j.last } } :=
  (if_neg (Nat.not_lt.2 h)).trans (headLeaves_eq (rest := rest) .done hq)

/-- Settles O53. -/
theorem byteEndsPassTheReportOn : Obligations.ByteEndsPassTheReportOn := by
  intro s
  refine ⟨fun h => congrArg _ (if_neg (by rw [h]; nofun)), fun h => ?_⟩
  have hexec := exec_shiftRegisterByteEnd h
  rw [afterByte_eq] at hexec
  intro empty complete
  refine ⟨fun hbrk => ?_, fun hbrk hl => ?_, fun hbrk hl hnot => ?_, fun hcomplete => ?_⟩
  · rw [hexec, if_pos hbrk, reportComplete_of_not]
    rintro ⟨-, -, -, hs⟩
    exact absurd (hbrk.symm.trans hs) nofun
  · rw [hexec, if_neg hbrk, if_pos hl, reportComplete_of_not]
    rintro ⟨-, -, -, hs⟩
    cases hs
  · rw [hexec, if_neg hbrk, if_neg (by rw [hl]; nofun), reportComplete_of_not]
    rintro ⟨hfifo, hshift, hout, hs⟩
    have hempty : s.line.fifo = [] := by
      by_contra hne
      exact not_allSent_byteMoved (l := empty) hne ⟨hfifo, hshift⟩
    exact hnot ⟨hempty, (byteMoved_outstanding empty).symm.trans hout, (byteMoved_state empty).symm.trans hs, hl⟩
  · obtain ⟨hfifo, hout, hs, hl⟩ := hcomplete
    intro s1
    have hdone : exec .shiftRegisterByteEnd s = .next (composerComplete s1) := by
      rw [hexec, if_neg (by rw [hs]; nofun), if_neg (by rw [hl]; nofun), byteMoved_of_empty (l := empty) hfifo,
        reportComplete_of (s := { s with line := empty }) hfifo rfl hout hs]
    refine ⟨fun hmore => ?_, fun j rest hq hb ht => ?_⟩
    · rw [hdone]
      obtain hmore | hmore | hmore := hmore
      · rw [composerComplete_of_todo (s := s1) (.inl hmore)]
      · rw [composerComplete_of_todo (s := s1) (.inr hmore)]
      · rw [composerComplete_of_none (s := s1) hmore]
    · rw [composerComplete_eq (s := s1) hb ht hq] at hdone
      refine ⟨fun n hn hj htail hhead => ⟨goTo n s1, passesOn_goTo (s := s1) hq hj htail hhead, ?_⟩,
        fun hp => ⟨fun hc => ?_, fun hc => ?_⟩, fun hp hc => ?_⟩
      · obtain ⟨hp, rfl⟩ | ⟨hp, hn⟩ := hn
        · rw [hdone, hp]
        · rw [hdone, hp]
          dsimp only
          rw [Nat.sub_add_cancel hn]
      · rw [hdone, hp]
        exact congrArg _ (endCopy_next (s := s1) hq hc)
      · rw [hdone, hp]
        exact congrArg _ (endCopy_last (s := s1) hq hc)
      · rw [hdone, hp]
        exact congrArg _ (headLeaves_closing (s := s1) hq hc)

end Sys2Proof.Machine

/-! PROOF (O55). A status byte by the line's state, and what a composer composes when printing begins, again or for the first time. -/

namespace Sys2Proof.Machine

open Sys2Proof

variable {s : State} {j : Job} {rest : List Job} {n : Nat}

/-! ### What printing begins with (R160, R174, R176) -/

/-- The composer's unit with these lines of the head job to compose, and this record in its working copy. -/
def composing (j : Job) (rest : List Job) (working : Option Record) (lines : List LineSpec) (s : State) : State :=
  { s with comp := { s.comp with queue := j :: rest, working := working, buffer := [], todo := lines } }

theorem composing_self (lines : List LineSpec) (hq : s.comp.queue = j :: rest) :
    setTodo lines s = composing j rest s.comp.working lines s := by
  unfold composing
  rw [← hq]
  rfl

theorem beginHeader_eq (hq : s.comp.queue = j :: rest) : beginHeader s = composing { j with began := true } rest s.comp.working
    (headerLines s j (((s.journal.records.find? fun r => r.seq == j.first).map Record.surveyMs).getD 0)) s := by
  unfold beginHeader headJob modHead
  rw [hq]
  dsimp only [List.head?_cons]
  rw [show ∀ lines, (setTodo lines s).comp.queue = j :: rest from fun _ => hq]
  rfl

theorem beginFooter_again (hq : s.comp.queue = j :: rest) (hp : j.position = .footer) :
    beginFooter s = composing j rest s.comp.working (footerLines s.hcu j.printed) s := by
  have hself : { j with position := .footer } = j := by rw [← hp]
  rw [beginFooter_eq hq, hself]
  rfl

theorem beginRecord_eq {r : Record} (hq : s.comp.queue = j :: rest) : beginRecord r s =
    composing j rest s.comp.working (recordLines r j.full s.survey.freq s.journal.tailSeq) s := by
  unfold beginRecord headJob
  rw [hq]
  exact composing_self _ hq

/-- The state with record n read again into the working copy. -/
def rereading (n : Nat) (s : State) : State := s.setComp { s.comp with working := findRecord n s }

theorem tailSeq_le_of_findRecord {r : Record} (hj : JournalSound s.journal) (h : findRecord n s = some r) : s.journal.tailSeq ≤ n := by
  have hseq : r.seq = n := by simpa using List.find?_some h
  have hmem : r.seq ∈ s.journal.records.map Record.seq := List.mem_map_of_mem (List.mem_of_find?_eq_some h)
  rw [hj.2.2.1, List.mem_range'_1] at hmem
  omega

/-- The current position again, by what it is (R160). -/
theorem restartPart_eq (hq : s.comp.queue = j :: rest) : restartPart s = match j.position with
    | .record n => match findRecord n s with
      | some r => if prints j r then beginRecord r (rereading n s) else goTo (n + 1) (rereading n s)
      | none => setTodo [] (rereading n s)
    | .footer => beginFooter s
    | _ => beginHeader s := by
  unfold restartPart headJob rereading
  rw [hq]
  dsimp only [List.head?_cons]
  cases j.position with
  | record n =>
    dsimp only
    rw [show (s.setComp { s.comp with working := findRecord n s }).comp.working = findRecord n s from rfl]
    cases findRecord n s with
    | none => rfl
    | some r =>
      dsimp only
      rw [wanted_eq]
  | header | footer | closing => rfl

theorem printingBegins_beginPrinting (fresh : Bool) (s : State) : printingBegins fresh s (beginPrinting fresh s) := by
  unfold printingBegins beginPrinting headJob
  cases hq : s.comp.queue with
  | nil => rfl
  | cons j rest =>
    dsimp only [List.head?_cons]
    by_cases hc : j.closing = .none
    · rw [if_neg (not_not.2 hc), if_neg (not_not.2 hc)]
      cases fresh with
      | true =>
        rw [if_pos (.inl rfl), if_pos rfl, beginHeader_eq hq]
        rfl
      | false =>
        rw [restartPart_eq hq]
        cases hp : j.position with
        | header | closing =>
          dsimp only
          rw [beginHeader_eq hq]
          simp only [reduceCtorEq, or_true, true_or, if_true, Bool.false_eq_true, if_false, hp]
          rfl
        | footer =>
          dsimp only
          rw [beginFooter_again hq hp]
          simp only [reduceCtorEq, or_self, Bool.false_eq_true, if_false]
          rfl
        | record n =>
          dsimp only
          have hfind : (s.journal.records.find? fun r => r.seq == n) = findRecord n s := rfl
          rw [hfind]
          have hqr : (rereading n s).comp.queue = j :: rest := hq
          simp only [reduceCtorEq, or_self, Bool.false_eq_true, if_false]
          cases hr : findRecord n s with
          | none =>
            dsimp only
            rw [composing_self _ hqr, show (rereading n s).comp.working = none from hr]
            rfl
          | some r =>
            dsimp only
            cases hpr : prints j r with
            | true =>
              simp only [if_true]
              rw [beginRecord_eq hqr, show (rereading n s).comp.working = some r from hr]
              rfl
            | false =>
              simp only [Bool.false_eq_true, if_false]
              intro hj hhead
              have hstate : rereading n s = { s with comp := { s.comp with working := some r } } := by rw [rereading, hr]; rfl
              refine ⟨goTo (n + 1) (rereading n s), ?_, rfl⟩
              rw [← hstate]
              exact passesOn_goTo hqr hj (Nat.le_succ_of_le (tailSeq_le_of_findRecord hj hr)) hhead
    · rw [if_pos hc, if_pos hc, composing_self _ hq]
      cases hcl : j.closing with
      | none => exact absurd hcl hc
      | cancel | yield => rfl

/-! ### A status byte (R185, R187, R189, R190) -/

theorem statusDiffers_eq (a h : HeldStatus) : statusDiffers a h = !decide ({ h with bufferFull := a.bufferFull } = a) := by
  obtain ⟨a1, a2, a3, a4, a5⟩ := a
  obtain ⟨h1, h2, h3, h4, h5⟩ := h
  rw [Bool.eq_iff_iff]
  simp only [statusDiffers, Bool.or_eq_true, bne_iff_ne, Bool.not_eq_true', decide_eq_false_iff_not, HeldStatus.mk.injEq, and_true]
  rw [← not_and_or, ← not_and_or, ← not_and_or, not_iff_not]
  simp only [eq_comm, and_assoc]

/-- The state after a status byte is taken: its flags held, and PRINTER raised by a change of another flag than BUFFER_FULL (R185). -/
def statusTaken (b : Byte) (s : State) : State :=
  let s0 := { s with line := { s.line with holding := none, held := statusOf b } }
  if ({ statusOf b with bufferFull := s.line.held.bufferFull } : HeldStatus) = s.line.held then s0 else s0.bothPorts (flagsRaised 0x10)

theorem exec_statusByte {b : Byte} (h : s.line.holding = some b) : exec .statusByte s = .next (answerStatus (statusTaken b s)) := by
  rw [show exec .statusByte s = execStatusByte s from rfl, execStatusByte, h]
  dsimp only
  rw [statusDiffers_eq, statusTaken]
  by_cases hd : ({ statusOf b with bufferFull := s.line.held.bufferFull } : HeldStatus) = s.line.held
  · rw [if_pos hd, if_neg (by rw [decide_eq_true hd]; nofun)]
    rfl
  · rw [if_neg hd, if_pos (by rw [decide_eq_false hd]; rfl)]
    rfl

theorem line_statusTaken (b : Byte) (s : State) : (statusTaken b s).line = { s.line with holding := none, held := statusOf b } := by
  unfold statusTaken
  dsimp only
  split <;> rfl

theorem comp_statusTaken (b : Byte) (s : State) : (statusTaken b s).comp = s.comp := by
  unfold statusTaken
  dsimp only
  split <;> rfl

theorem outOfService_iff (h : HeldStatus) : outOfService h = true ↔ h.paperOut = true ∨ h.coverOpen = true := by
  rw [outOfService, Bool.or_eq_true]

/-- A line whose job has left, and one that serves none, only note it (R193). -/
theorem answerStatus_noted (h : s.line.leaving = true ∨ s.line.state = .idle ∨ s.line.state = .suspended ∨ s.line.state = .brk) :
    answerStatus s = s := by
  unfold answerStatus
  obtain h | h | h | h := h
  · exact if_pos h
  all_goals rw [h]; exact ite_self _

theorem answerStatus_stalled (hs : s.line.state = .stalled) (h : outOfService s.line.held = true ∨ s.line.ready = false) :
    answerStatus s = s := by
  unfold answerStatus
  rw [hs]
  dsimp only
  rw [if_neg (c := (s.line.ready && !outOfService s.line.held) = true) (by obtain h | h := h <;> simp [h])]
  exact ite_self _

/-- The printer cannot print: the job stalls (R185, R189). -/
theorem answerStatus_bad (hl : s.line.leaving = false) (hs : s.line.state = .sending ∨ s.line.state = .inquiring)
    (hbad : outOfService s.line.held = true) : answerStatus s = stalled (stallReasonOf s.line.held) s := by
  unfold answerStatus
  rw [if_neg (by rw [hl]; nofun), ← enterStalled_eq]
  obtain hs | hs := hs <;> rw [hs] <;> exact if_pos hbad

theorem answerStatus_good (hl : s.line.leaving = false) (hgood : outOfService s.line.held = false) :
    answerStatus s = match s.line.state with
      | .inquiring => startSucceeds s
      | .sending => { s with line := byteMoved s.line }
      | .stalled => if s.line.ready then clearStall s else s
      | _ => s := by
  unfold answerStatus
  rw [if_neg (by rw [hl]; nofun), hgood]
  cases s.line.state with
  | sending => simp only [Bool.false_eq_true, if_false, modLine, pump_eq, State.setLine]
  | inquiring | stalled => simp
  | idle | suspended | brk => rfl

/-- The start succeeds (R158, R189). -/
theorem startSucceeds_begins (s : State) :
    let s2 := { s with line := { s.line with state := .sending, reason := none, inquiry := none } }
    if s.comp.queue.head?.map Job.state = some .printing then printingBegins true s2 (startSucceeds s)
    else if s.comp.queue = [] then startSucceeds s = s2 else printingBegins false (headIn .printing s2) (startSucceeds s) := by
  intro s2
  unfold startSucceeds headJob
  cases hq : s.comp.queue with
  | nil =>
    rfl
  | cons j rest =>
    by_cases hp : j.state = .printing
    · rw [if_pos (by rw [List.head?_cons, Option.map_some, hp])]
      dsimp only [List.head?_cons]
      rw [if_pos hp]
      exact printingBegins_beginPrinting true s2
    · rw [if_neg (by simpa using hp), if_neg (List.cons_ne_nil _ _)]
      dsimp only [List.head?_cons]
      rw [if_neg hp, setHeadState_eq]
      exact printingBegins_beginPrinting false (headIn .printing s2)

theorem clearStall_begins (s : State) : printingBegins false
    (headIn .printing { s with line := { s.line with state := .sending, reason := none, fifo := [], stall := none, poll := none } })
    (clearStall s) := by
  unfold clearStall
  rw [setHeadState_eq]
  exact printingBegins_beginPrinting false _

/-- Settles O55. -/
theorem statusBytesActByState : Obligations.StatusBytesActByState := by
  refine fun s => ⟨fun h => ?_, fun b hb => ?_⟩
  · rw [show exec .statusByte s = execStatusByte s from rfl, execStatusByte, h]
  · have hexec := exec_statusByte hb
    have hline := line_statusTaken b s
    have hcomp := comp_statusTaken b s
    intro h l s0 s1 bad reason sending
    have hbad : bad ↔ outOfService (statusTaken b s).line.held = true := by rw [hline, outOfService_iff]; exact Iff.rfl
    have hgood : ¬ bad → outOfService (statusTaken b s).line.held = false := fun hn => by
      rw [hbad, Bool.not_eq_true] at hn
      exact hn
    have hleaving : (statusTaken b s).line.leaving = s.line.leaving := by rw [hline]
    have hstate : (statusTaken b s).line.state = s.line.state := by rw [hline]
    refine ⟨fun hs => ?_, fun hl hs hb => ?_, fun hl hs hb => ?_, fun hl hs hb => ?_, fun hl hs hb => ?_, fun hl hs hb hr => ?_⟩
    · rw [hexec, answerStatus_noted (by rwa [hleaving, hstate])]
      rfl
    · rw [hexec, answerStatus_bad (by rwa [hleaving]) (by rwa [hstate]) (hbad.1 hb), hline]
      rfl
    · rw [hexec, answerStatus_good (by rwa [hleaving]) (hgood hb), hstate, hs, hline]
      rfl
    · refine ⟨_, hexec, ?_⟩
      rw [answerStatus_good (by rwa [hleaving]) (hgood hb), hstate, hs]
      have hbegin := startSucceeds_begins (statusTaken b s)
      rw [hline] at hbegin
      rw [← hcomp]
      exact hbegin
    · rw [hexec, answerStatus_stalled (by rwa [hstate]) (hb.imp hbad.1 fun hr => by rwa [hline])]
      rfl
    · refine ⟨_, hexec, ?_⟩
      rw [answerStatus_good (by rwa [hleaving]) (hgood hb), hstate, hs]
      dsimp only
      rw [if_pos (by rwa [hline])]
      have hbegin := clearStall_begins (statusTaken b s)
      rw [hline] at hbegin
      exact hbegin

end Sys2Proof.Machine

/-! PROOF (O27, O28, O29). The Sample Link Receiver: what kind an arrival is, by state, window and low run; and what the arrivals that
complete nothing, a sync word or a good frame do. -/

namespace Sys2Proof.Machine

open Sys2Proof

variable {s : State} {b : Bool} {n : Nat}

/-! ### What an arrival is (R42, R48, R49, R51, R55, R56) -/

theorem shiftBit_eq (b : Bool) (l : LinkUnit) : shiftBit b l = bitTaken b l := rfl

/-- The kind of the arrival of bit b. -/
def kindOf (b : Bool) (s : State) : ArrivalKind := arrivalKind b (bitTaken b s.link)

theorem takeBitAs_of_kind {k : ArrivalKind} (h : kindOf b s = k) : takeBitAs k b s = takeBit b s := if_pos (beq_iff_eq.2 h)

theorem takeBitAs_of_other {k : ArrivalKind} (h : kindOf b s ≠ k) : takeBitAs k b s = s := if_neg (fun hk => h (beq_iff_eq.1 hk))

theorem kindOf_loopback (h : s.link.state = .loopback) : kindOf b s = .plain := by
  rw [kindOf, arrivalKind, show (bitTaken b s.link).state = .loopback from h]

theorem kindOf_brk (h : s.link.state = .brk) : kindOf b s = if b then .breakEnd else .plain := by
  rw [kindOf, arrivalKind, show (bitTaken b s.link).state = .brk from h]

theorem kindOf_hunt (h : s.link.state = .hunt) (hrun : (bitTaken b s.link).lowRun < 352) :
    kindOf b s = if (bitTaken b s.link).window = s.link.syncA then .syncAMatch else .plain := by
  rw [kindOf, arrivalKind, show (bitTaken b s.link).state = .hunt from h]
  exact if_neg (Nat.ne_of_lt hrun)

theorem kindOf_confirm (h : s.link.state = .confirm) : kindOf b s = if s.link.wordPos = some 15 then .confirmWord else .plain := by
  rw [kindOf, arrivalKind, show (bitTaken b s.link).state = .confirm from h]
  exact if_congr beq_iff_eq rfl rfl

theorem kindOf_locked (h : s.link.state = .locked) (hrun : (bitTaken b s.link).lowRun < 352) :
    kindOf b s = if s.link.wordPos = some 15 then judgeWords (bitTaken b s.link) (s.link.frame ++ [(bitTaken b s.link).window])
      else .plain := by
  rw [kindOf, arrivalKind, show (bitTaken b s.link).state = .locked from h]
  exact (if_neg (Nat.ne_of_lt hrun)).trans (if_congr beq_iff_eq rfl rfl)

theorem kindOf_full (h : s.link.state = .hunt ∨ s.link.state = .locked) (hrun : (bitTaken b s.link).lowRun = 352) :
    kindOf b s = .breakEntry := by
  obtain h | h := h <;> rw [kindOf, arrivalKind] <;> rw [show (bitTaken b s.link).state = _ from h] <;> exact if_pos hrun

/-! ### Arrivals that complete nothing (R42) -/

theorem exec_bitArrival_plain (h : kindOf b s = .plain) : exec (.bitArrival b) s = .next { s with link := plainArrival (bitTaken b s.link) } := by
  refine congrArg Host.Outcome.next ?_
  unfold takeBit
  dsimp only
  rw [show arrivalKind b (shiftBit b s.link) = .plain from h]
  rfl

theorem plainArrival_none {l : LinkUnit} (h : l.wordPos = none) : plainArrival l = l := by rw [plainArrival, h]

theorem plainArrival_within {l : LinkUnit} (h : l.wordPos = some n) (hn : n < 15) : plainArrival l = { l with wordPos := some (n + 1) } := by
  rw [plainArrival, h]
  exact if_pos hn

theorem plainArrival_word {l : LinkUnit} (h : l.wordPos = some 15) :
    plainArrival l = { l with wordPos := some 0, frame := l.frame ++ [l.window] } := by
  rw [plainArrival, h]
  exact if_neg (Nat.lt_irrefl 15)

theorem isFiller_append (l : LinkUnit) (frame : List Word) (w : Word) :
    isFiller l (frame ++ [w]) = decide (frame.length = 1 ∧ w = l.syncF) := by
  match frame with
  | [] => rfl
  | [x] => rw [Bool.eq_iff_iff]; simp [isFiller]
  | x :: y :: more => rw [Bool.eq_iff_iff]; simp [isFiller]

/-- Settles O27. -/
theorem bitArrivalShiftsTheWindow : Obligations.BitArrivalShiftsTheWindow := by
  refine ⟨fun b s => ⟨fun h hp => ?_, fun h hp hw hr => ?_, fun h hp hb => ?_, fun n hp => ⟨fun hn h => ?_, fun hn h hr hf hs => ?_⟩⟩,
    fun b s h => ?_⟩
  · rw [exec_bitArrival_plain (kindOf_loopback h), plainArrival_none (by exact hp)]
  · rw [exec_bitArrival_plain ((kindOf_hunt h hr).trans (if_neg hw)), plainArrival_none (by exact hp)]
  · rw [exec_bitArrival_plain ((kindOf_brk h).trans (if_neg (by rw [hb]; nofun))), plainArrival_none (by exact hp)]
  · have hne : s.link.wordPos ≠ some 15 := by rw [hp]; simpa using Nat.ne_of_lt hn
    have hkind : kindOf b s = .plain := by
      obtain h | ⟨h, hr⟩ := h
      · exact (kindOf_confirm h).trans (if_neg hne)
      · exact (kindOf_locked h hr).trans (if_neg hne)
    rw [exec_bitArrival_plain hkind, plainArrival_within (by exact hp) hn]
  · subst hn
    have hkind : kindOf b s = .plain := by
      rw [kindOf_locked h hr, if_pos hp, judgeWords, isFiller_append]
      rw [if_neg (by simpa using fun h1 h2 => hs.elim (fun hs => hs h1) (fun hs => hs h2)), if_pos (by simp; omega)]
    rw [exec_bitArrival_plain hkind, plainArrival_word (by exact hp)]
    rfl
  · have hkind : ∀ c, c = b ∨ c = false → kindOf c s = .plain := fun c hc => by
      obtain h | ⟨h, hb⟩ := h
      · exact kindOf_loopback h
      · have hc' : c = false := hc.elim (fun e => e.trans hb) id
        exact (kindOf_brk h).trans (if_neg (by rw [hc']; nofun))
    have hstays : ∀ k, k ≠ .plain → ∀ c, c = b ∨ c = false → takeBitAs k c s = s := fun k hk c hc =>
      takeBitAs_of_other (by rw [hkind c hc]; exact hk.symm)
    exact ⟨congrArg _ (hstays .syncAMatch nofun b (.inl rfl)), congrArg _ (hstays .confirmWord nofun b (.inl rfl)),
      congrArg _ (hstays .goodDataFrame nofun b (.inl rfl)), congrArg _ (hstays .fillerFrame nofun b (.inl rfl)),
      congrArg _ (hstays .badFrame nofun b (.inl rfl)), congrArg _ (hstays .lossOfLock nofun b (.inl rfl)),
      congrArg _ (hstays .breakEntry nofun false (.inr rfl))⟩

end Sys2Proof.Machine

/-! PROOF (O28, O29). Sync words: from HUNT to CONFIRM, and from CONFIRM to LOCKED or back; and the good frames of LOCKED. -/

namespace Sys2Proof.Machine

open Sys2Proof

variable {s : State} {b : Bool}

/-- The state with a bit shifted into the receiver. -/
def bitIn (b : Bool) (s : State) : State := { s with link := bitTaken b s.link }

theorem takeBit_eq (b : Bool) (s : State) : takeBit b s = match kindOf b s with
    | .plain => { s with link := plainArrival (bitTaken b s.link) }
    | .syncAMatch => { s with link := huntCompare (bitTaken b s.link) }
    | .confirmWord => decideConfirm (bitIn b s)
    | .goodDataFrame => takeGoodFrame (bitIn b s)
    | .fillerFrame => { s with link := nextFrame (bitTaken b s.link) }
    | .badFrame => takeBadFrame (bitIn b s)
    | .lossOfLock => takeLossOfLock (bitIn b s)
    | .breakEntry => enterBreak (bitIn b s)
    | .breakEnd => leaveBreak (bitIn b s) := by
  unfold takeBit kindOf
  dsimp only
  rw [shiftBit_eq]
  cases arrivalKind b (bitTaken b s.link) <;> rfl

theorem exec_bitArrival (b : Bool) (s : State) : exec (.bitArrival b) s = .next (takeBit b s) := rfl

/-! ### CONFIRM (R49, R50) -/

theorem enterLocked_taken (filler : Bool) (frame : List Word) (s : State) :
    let t := linkRaised { s with link := { s.link with state := .locked, wordPos := some 0, frame := frame, badRun := 0, instants := 0 } }
    if isRunning s then exec (.append (.mark (.linkUp filler s.link.badTotal)) false) t = .next (enterLocked filler frame s)
    else enterLocked filler frame s = t :=
  markInRunning_taken (s := linkRaised { s with link := { s.link with
    state := .locked, wordPos := some 0, frame := frame, badRun := 0, instants := 0 } }) (hardwareBody_mark trivial)

theorem decideConfirm_lock {filler : Bool} (h : (filler = false ∧ s.link.window = s.link.syncB) ∨
    (filler = true ∧ s.link.window = s.link.syncF ∧ s.link.window ≠ s.link.syncB)) :
    decideConfirm s = enterLocked filler (if filler then [] else [s.link.syncA, s.link.syncB]) s := by
  unfold decideConfirm
  obtain ⟨rfl, hw⟩ | ⟨rfl, hw, hne⟩ := h
  · exact if_pos hw
  · exact (if_neg hne).trans (if_pos hw)

/-- The comparison with SYNC_A of a receiver that has just returned to HUNT (R48). -/
theorem huntCompare_toHunt (l : LinkUnit) : huntCompare (toHunt l) =
    if l.window = l.syncA then { l with state := .confirm, wordPos := some 0, frame := [] }
    else { l with state := .hunt, wordPos := none, frame := [] } := rfl

/-- Settles O28. -/
theorem syncWordsLockTheReceiver : Obligations.SyncWordsLockTheReceiver := by
  refine fun b s => ⟨fun h hr hw => ?_, fun h hp => ?_⟩
  · have hkind : kindOf b s = .syncAMatch := (kindOf_hunt h hr).trans (if_pos hw)
    have hexec : exec (.syncAMatch b) s = .next (takeBit b s) := congrArg _ (takeBitAs_of_kind hkind)
    refine ⟨?_, hexec.symm⟩
    rw [hexec, takeBit_eq, hkind]
    dsimp only
    rw [huntCompare, if_pos hw]
  · have hkind : kindOf b s = .confirmWord := (kindOf_confirm h).trans (if_pos hp)
    have hexec : exec (.confirmWord b) s = .next (decideConfirm (bitIn b s)) := by
      rw [show exec (.confirmWord b) s = .next (takeBit b s) from congrArg _ (takeBitAs_of_kind hkind), takeBit_eq, hkind]
    refine ⟨?_, fun filler hf => ?_, fun hB hF => ?_⟩
    · rw [hexec, exec_bitArrival, takeBit_eq, hkind]
    · have htaken := enterLocked_taken filler (if filler then [] else [s.link.syncA, s.link.syncB]) (bitIn b s)
      rw [decideConfirm_lock (s := bitIn b s) hf] at hexec
      refine ⟨fun hr => ?_, fun hr => ?_⟩
      · rw [if_neg (by exact hr)] at htaken
        exact hexec.trans (congrArg _ htaken)
      · rw [if_pos (by exact hr)] at htaken
        exact hexec.trans htaken.symm
    · rw [hexec]
      exact congrArg _ ((if_neg hB).trans ((if_neg hF).trans rfl))

/-! ### Good frames (R43, R51, R52) -/

theorem foldl_add_eq_sum (ws : List Word) (x : Word) : ws.foldl (· + ·) x = x + ws.sum := by
  induction ws generalizing x with
  | nil => simp
  | cons w rest ih => rw [List.foldl_cons, ih, List.sum_cons, BitVec.add_assoc]

theorem checkWord_eq (ws : List Word) : checkWord ws = ws.sum := by
  rw [checkWord, foldl_add_eq_sum]
  exact BitVec.zero_add _

theorem goodData_iff {l : LinkUnit} {words : List Word} (h : words.length = 11) : goodData l words = true ↔ isGoodFrame l words := by
  unfold goodData isGoodFrame frameChannels
  rw [checkWord_eq]
  simp only [Bool.and_eq_true, beq_iff_eq, List.all_eq_true, bne_iff_ne, h, true_and, and_assoc]

/-- A whole data frame, judged (R43, R53, R54). -/
theorem judgeWords_data {l : LinkUnit} {words : List Word} (h : words.length = 11) : judgeWords l words =
    if goodData l words then .goodDataFrame else if 2 ≤ l.badRun then .lossOfLock else .badFrame := by
  have hfiller : isFiller l words = false := by rw [isFiller, h]; rfl
  unfold judgeWords
  dsimp only
  rw [hfiller, h]
  rfl

/-- A frame of two words that ends with SYNC_F, judged (R51, R53, R54). -/
theorem judgeWords_filler {l : LinkUnit} {w : Word} : judgeWords l [w, l.syncF] =
    if w = l.syncA then .fillerFrame else if 2 ≤ l.badRun then .lossOfLock else .badFrame := by
  have hfiller : isFiller l [w, l.syncF] = true := by simp [isFiller]
  unfold judgeWords
  dsimp only
  rw [hfiller]
  rfl

/-- Settles O29. -/
theorem goodFramesDeliverTheirSamples : Obligations.GoodFramesDeliverTheirSamples := by
  intro b s h hp l words hr
  have hkind : kindOf b s = judgeWords l words := (kindOf_locked h hr).trans (if_pos hp)
  refine ⟨fun hgood => ?_, fun hfill => ?_⟩
  · have hgood' : kindOf b s = .goodDataFrame := by
      rw [hkind, judgeWords_data hgood.1, if_pos ((goodData_iff hgood.1).2 hgood)]
    have hexec : exec (.goodDataFrame b) s = .next (takeBit b s) := congrArg _ (takeBitAs_of_kind hgood')
    refine ⟨?_, hexec.symm⟩
    rw [hexec, takeBit_eq, hgood']
    rfl
  · have hfill' : kindOf b s = .fillerFrame := by
      rw [hkind, hfill, judgeWords_filler, if_pos rfl]
    have hexec : exec (.fillerFrame b) s = .next (takeBit b s) := congrArg _ (takeBitAs_of_kind hfill')
    refine ⟨?_, hexec.symm⟩
    rw [hexec, takeBit_eq, hfill']
    rfl

end Sys2Proof.Machine

/-! PROOF (part of O30, O39, O45). An append by the hardware touches the journal, the print queue, the printer line and the ports alone,
and of the rest it reads the clock and the survey's number alone: it commutes with any change of the rest. -/

namespace Sys2Proof.Machine

open Sys2Proof

variable {s t x : State} {b : Body} {test : Bool} {k n : Nat}

/-- The state with the journal, the queue, the line and the ports of s, and the rest of x. -/
def restOf (x s : State) : State :=
  { x with journal := s.journal, comp := s.comp, line := s.line, portA := s.portA, portB := s.portB }

theorem restOf_self (s : State) : restOf s s = s := rfl

/-! ### Yields and reclaims (R22, R26) -/

theorem headLeaves_restOf (e : JobEnd) (x s : State) : headLeaves e (restOf x s) = restOf x (headLeaves e s) := by
  unfold headLeaves
  rw [show (restOf x s).comp = s.comp from rfl]
  cases s.comp.queue <;> rfl

theorem closeHead_restOf (c : Closing) (x s : State) : closeHead c (restOf x s) = restOf x (closeHead c s) := by
  unfold closeHead
  rw [show (restOf x s).comp = s.comp from rfl, show (restOf x s).line = s.line from rfl]
  cases s.comp.queue with
  | nil => rfl
  | cons j rest =>
    dsimp only
    cases j.state with
    | suspended =>
      dsimp only
      exact headLeaves_restOf _ x (s.setComp _)
    | stalled => rfl
    | queued | printing =>
      dsimp only
      split <;> rfl

theorem yieldJob_restOf (m : Nat) (x s : State) : yieldJob m (restOf x s) = restOf x (yieldJob m s) := by
  unfold yieldJob queuedLeaves
  rw [show (restOf x s).comp = s.comp from rfl, closeHead_restOf]
  cases s.comp.queue with
  | nil => rfl
  | cons j rest =>
    dsimp only
    split
    · split <;> rfl
    · split <;> rfl

theorem planHere_restOf (k : Nat) (x s : State) : planHere k (restOf x s) = planHere k s := rfl

theorem yieldUntil_restOf (k : Nat) (l : List Nat) (x s : State) : yieldUntil k l (restOf x s) = (yieldUntil k l s).map (restOf x) := by
  induction l generalizing s with
  | nil =>
    rw [yieldUntil, yieldUntil, planHere_restOf]
    cases planHere k s <;> rfl
  | cons m more ih =>
    rw [yieldUntil, yieldUntil, planHere_restOf, yieldJob_restOf, ih]
    cases planHere k s <;> rfl

theorem makeRoom_restOf (k : Nat) (x s : State) : makeRoom k (restOf x s) = (makeRoom k s).map (restOf x) := by
  unfold makeRoom
  rw [planHere_restOf, show yieldOrder (restOf x s) = yieldOrder s from rfl, yieldUntil_restOf,
    show (restOf x s).journal.policy = s.journal.policy from rfl]
  cases planHere k s with
  | some r => rfl
  | none => cases s.journal.policy <;> rfl

/-! ### The record (R18, R21, R24, R32) -/

/-- What a record takes from the survey is the same in both states. -/
def sameSurveyTime (x s : State) : Prop := x.survey.clock = s.survey.clock ∧ x.survey.number = s.survey.number

theorem newRecord_restOf (h : sameSurveyTime x s) (o : Origin) : newRecord b test o (restOf x s) = newRecord b test o s := by
  have hms : headerMs b (restOf x s) = headerMs b s := by
    cases b with
    | event e => rfl
    | wave | interval | note | setting | mark => exact h.1
  unfold newRecord
  rw [hms, show (restOf x s).survey.number = s.survey.number from h.2]
  rfl

theorem placeRecord_restOf (h : sameSurveyTime x s) (o : Origin) :
    placeRecord b test o (restOf x s) = restOf x (placeRecord b test o s) := by
  unfold placeRecord
  rw [newRecord_restOf h]
  rfl

theorem checkLow_restOf (x s : State) : checkLow (restOf x s) = restOf x (checkLow s) := by
  unfold checkLow
  rw [show (restOf x s).journal = s.journal from rfl]
  split
  · split <;> rfl
  · rfl

theorem placeLoss_restOf (h : sameSurveyTime x s) : placeLoss (restOf x s) = restOf x (placeLoss s) := by
  unfold placeLoss
  rw [show lossMark (restOf x s).journal = lossMark s.journal from rfl, placeRecord_restOf h]
  rfl

theorem sameSurveyTime_makeRoom (h : sameSurveyTime x s) (hr : makeRoom k s = some t) : sameSurveyTime x t := by
  obtain ⟨ht, -⟩ := sameBeside_makeRoom hr
  rw [sameSurveyTime, ht]
  exact h

theorem sameSurveyTime_placeLoss (h : sameSurveyTime x s) : sameSurveyTime x (placeLoss s) := h

theorem hardwareOne_restOf (h : sameSurveyTime x s) :
    hardwareOne b test (restOf x s) = (restOf x (hardwareOne b test s).1, (hardwareOne b test s).2) := by
  have placed : ∀ t : State, sameSurveyTime x t → checkLow (placeRecord b test (hardwareOrigin b) (restOf x t)) =
      restOf x (checkLow (placeRecord b test (hardwareOrigin b) t)) := fun t ht => by
    rw [placeRecord_restOf ht, checkLow_restOf]
  unfold hardwareOne
  dsimp only
  rw [makeRoom_restOf, makeRoom_restOf, show lossPending (restOf x s).journal = lossPending s.journal from rfl]
  cases hmore : makeRoom (bodySlots b + 1) s with
  | none =>
    cases hone : makeRoom (bodySlots b) s with
    | none =>
      dsimp only [Option.map_none]
      rw [ite_self, ite_self]
      rfl
    | some t =>
      dsimp only [Option.map_none, Option.map_some]
      rw [ite_self, ite_self, placed t (sameSurveyTime_makeRoom h hone)]
      rfl
  | some u =>
    have hu := sameSurveyTime_makeRoom h hmore
    dsimp only [Option.map_some]
    rw [placeLoss_restOf hu, placed (placeLoss u) hu]
    cases lossPending s.journal with
    | true => rfl
    | false =>
      simp only [Bool.false_eq_true, if_false]
      cases hone : makeRoom (bodySlots b) s with
      | none => rfl
      | some t =>
        dsimp only [Option.map_some]
        rw [placed t (sameSurveyTime_makeRoom h hone)]
        rfl

/-! ### The head sequence never goes back (R19) -/

theorem headSeq_le_of_act (h : JournalAct s t) : s.journal.headSeq ≤ t.journal.headSeq := by
  cases h with
  | reclaim hp => exact Nat.le_of_eq rfl
  | yields m hc => rw [journal_yieldJob]
  | place test o hb => exact Nat.le_succ _
  | low =>
    unfold checkLow
    split
    · split <;> exact Nat.le_refl _
    · exact Nat.le_refl _
  | lost k => rw [headSeq_dropRecord]
  | counted => exact Nat.le_refl _
  | stop hr hw => exact Nat.le_refl _

theorem headSeq_le_of_appends (h : Appends s t) : s.journal.headSeq ≤ t.journal.headSeq := by
  induction h with
  | refl => exact Nat.le_refl _
  | tail _ hact ih => exact Nat.le_trans ih (headSeq_le_of_act hact)

/-! ### Two records in one event (R4, R57) -/

theorem hardwareOne_keeps (b : Body) (test : Bool) (s : State) : (hardwareOne b test s).1 = restOf s (hardwareOne b test s).1 :=
  congrArg Prod.fst (hardwareOne_restOf (x := s) (s := s) ⟨rfl, rfl⟩)

theorem checkLimit_of_stopping (h : ¬ isRunning s) : checkLimit s = s := by
  rw [checkLimit_eq]
  exact if_neg fun hc => h hc.1

/-- The limit test between two appends of one event tells nothing that the one after them does not (R4). -/
theorem checkLimit_between (b : Body) (test : Bool) (u : State) :
    checkLimit (hardwareOne b test (checkLimit u)).1 = checkLimit (hardwareOne b test u).1 := by
  by_cases h : isRunning u ∧ 0xFFFFFF00 ≤ u.journal.headSeq
  · obtain ⟨hr, hseq⟩ := h
    have hstop : checkLimit u = beginStop .seqLimit u := by rw [checkLimit_eq]; exact if_pos ⟨hr, hseq⟩
    have hkeep := hardwareOne_keeps b test u
    have hagain : (hardwareOne b test (beginStop .seqLimit u)).1 = restOf (beginStop .seqLimit u) (hardwareOne b test u).1 :=
      congrArg Prod.fst (hardwareOne_restOf (x := beginStop .seqLimit u) (s := u) ⟨rfl, rfl⟩)
    have hseq' : 0xFFFFFF00 ≤ (hardwareOne b test u).1.journal.headSeq :=
      Nat.le_trans hseq (headSeq_le_of_appends (appends_hardwareOne b test u))
    rw [hstop, hagain, checkLimit_of_stopping (s := restOf (beginStop .seqLimit u) _) (fun hc => nomatch hc.2), checkLimit_eq]
    refine .trans ?_ (if_pos ⟨by rw [isRunning, hkeep]; exact hr, hseq'⟩).symm
    generalize (hardwareOne b test u).1 = v at hkeep
    rw [hkeep]
    rfl
  · have hstay : checkLimit u = u := by rw [checkLimit_eq]; exact if_neg h
    rw [hstay]

theorem appendTwoMarks_eq (m m' : MarkBody) (s : State) : appendTwoMarks m m' s = appendMark m' (appendMark m s) :=
  (checkLimit_between _ _ _).symm

end Sys2Proof.Machine

/-! PROOF (O30). Bad frames, the loss of lock, and BREAK. -/

namespace Sys2Proof.Machine

open Sys2Proof

variable {s t : State} {b data : Bool}

/-! ### Bad frames (R53, R54) -/

/-- A whole frame that is not good, judged (R53, R54). -/
theorem judgeWords_bad {l : LinkUnit} {words : List Word} (h : (data = true ∧ words.length = 11 ∧ ¬ isGoodFrame l words) ∨
      (data = false ∧ ∃ w, words = [w, l.syncF] ∧ w ≠ l.syncA)) :
    judgeWords l words = (if 2 ≤ l.badRun then .lossOfLock else .badFrame) ∧ isFiller l words = !data := by
  obtain ⟨rfl, hlen, hbad⟩ | ⟨rfl, w, rfl, hw⟩ := h
  · exact ⟨by rw [judgeWords_data hlen, if_neg (fun hg => hbad ((goodData_iff hlen).1 hg))], by rw [isFiller, hlen]; rfl⟩
  · exact ⟨by rw [judgeWords_filler, if_neg hw], by simp [isFiller]⟩

theorem loseLock_taken (reason : DownReason) (s : State) :
    let t := linkRaised (lossSent { s with link := toHunt s.link })
    if isRunning s then exec (.append (.mark (.linkDown reason s.link.badTotal s.link.instants)) false) t = .next (loseLock reason s)
    else loseLock reason s = t :=
  markInRunning_taken (s := linkRaised (lossSent { s with link := toHunt s.link })) (hardwareBody_mark trivial)

theorem loseLock_taken_next (reason : DownReason) (s : State) :
    let t := linkRaised (lossSent { s with link := toHunt s.link })
    (if isRunning s then exec (.append (.mark (.linkDown reason s.link.badTotal s.link.instants)) false) t else .next t) =
      .next (loseLock reason s) := by
  intro t
  have h := loseLock_taken reason s
  by_cases hr : isRunning s
  · rw [if_pos hr] at h ⊢
    exact h
  · rw [if_neg hr] at h ⊢
    rw [h]

/-- The comparison with SYNC_A after lock is lost: the append before it has moved nothing of the receiver (R48, R54). -/
theorem huntCompared {u : State} {l l1 : LinkUnit} (h : u.link = l1) (hw : l1.window = l.window) (ha : l1.syncA = l.syncA) :
    u.setLink (huntCompare u.link) = { u with link :=
      if l.window = l.syncA then { u.link with state := .confirm, wordPos := some 0, frame := [] } else u.link } :=
  congrArg u.setLink (if_congr (by rw [h, hw, ha]) rfl rfl)

/-! ### BREAK (R55, R56) -/

theorem enterBreak_hunt (h : s.link.state ≠ .locked) :
    let t := linkRaised { s with link := { s.link with state := .brk, wordPos := none, frame := [], badRun := 0 } }
    (if isRunning s then exec (.append (.mark (.frontendOff false)) false) t else .next t) = .next (enterBreak s) := by
  intro t
  have henter : enterBreak s = markInRunning (.frontendOff false) t := if_neg h
  have htaken := markInRunning_taken (s := t) (m := .frontendOff false) (hardwareBody_mark trivial)
  rw [henter]
  by_cases hr : isRunning s
  · rw [if_pos (by exact hr)] at htaken ⊢
    exact htaken
  · rw [if_neg (by exact hr)] at htaken ⊢
    rw [htaken]

theorem enterBreak_locked (h : s.link.state = .locked) :
    let t := linkRaised (lossSent { s with link := { s.link with state := .brk, wordPos := none, frame := [], badRun := 0 } })
    (¬ isRunning s → enterBreak s = t) ∧
    (isRunning s → enterBreak s = appendTwoMarks (.linkDown .brk s.link.badTotal s.link.instants) (.frontendOff true) t) := by
  intro t
  have henter : enterBreak s =
      if t.running then appendTwoMarks (.linkDown .brk s.link.badTotal s.link.instants) (.frontendOff true) t else t := if_pos h
  rw [henter]
  exact ⟨fun hr => if_neg (fun hc => hr ((running_iff t).1 hc)), fun hr => if_pos ((running_iff t).2 hr)⟩

theorem survey_state_appendMark (m : MarkBody) (s : State) : (appendMark m s).survey.state = s.survey.state := by
  rw [appendMark, hardwareAppend, checkLimit_eq]
  obtain ⟨x, y, z, h⟩ := limitTested_shape (hardwareOne (.mark m) false s).1
  dsimp only
  rw [h]
  show (hardwareOne (.mark m) false s).1.survey.state = _
  rw [hardwareOne_keeps]
  rfl

theorem link_appendMark (m : MarkBody) (s : State) : (appendMark m s).link = s.link := by
  rw [appendMark, hardwareAppend, checkLimit_eq]
  obtain ⟨x, y, z, h⟩ := limitTested_shape (hardwareOne (.mark m) false s).1
  dsimp only
  rw [h]
  show (hardwareOne (.mark m) false s).1.link = _
  rw [hardwareOne_keeps]
  rfl

/-- Settles O30. -/
theorem badFramesAndBreakLoseLock : Obligations.BadFramesAndBreakLoseLock := by
  refine ⟨?_, fun s => ⟨fun hr hs => ?_, fun h => ?_⟩⟩
  · intro b data s h hp l words total hr hbad
    obtain ⟨hjudge, hfiller⟩ := judgeWords_bad hbad
    have hkind : kindOf b s = if 2 ≤ s.link.badRun then .lossOfLock else .badFrame :=
      ((kindOf_locked h hr).trans (if_pos hp)).trans hjudge
    refine ⟨fun hrun => ?_, fun hrun => ?_⟩
    · rw [if_neg (by omega)] at hkind
      have hexec : exec (.badFrame b) s = .next (takeBit b s) := congrArg _ (takeBitAs_of_kind hkind)
      refine ⟨?_, hexec.symm⟩
      rw [hexec, takeBit_eq, hkind]
      refine congrArg Host.Outcome.next ?_
      unfold takeBadFrame
      dsimp only
      rw [show isFiller (bitIn b s).link ((bitIn b s).link.frame ++ [(bitIn b s).link.window]) = !data from hfiller]
      cases data <;> rfl
    · rw [if_pos hrun] at hkind
      have hexec : exec (.lossOfLock b) s = .next (takeLossOfLock (bitIn b s)) := by
        rw [show exec (.lossOfLock b) s = .next (takeBit b s) from congrArg _ (takeBitAs_of_kind hkind), takeBit_eq, hkind]
      have htaken := loseLock_taken_next .badFrames ((bitIn b s).setLink { l with badTotal := total, badRun := 0 })
      refine ⟨by rw [hexec, exec_bitArrival, takeBit_eq, hkind], _, htaken, ?_⟩
      have hlink := loseLock_link .badFrames ((bitIn b s).setLink { l with badTotal := total, badRun := 0 })
      exact hexec.trans (congrArg _ (huntCompared (l := l) hlink rfl rfl))
  · have hkind : kindOf false s = .breakEntry := kindOf_full hs hr
    have hexec : exec .breakEntry s = .next (enterBreak (bitIn false s)) := by
      rw [show exec .breakEntry s = .next (takeBit false s) from congrArg _ (takeBitAs_of_kind hkind), takeBit_eq, hkind]
    refine ⟨by rw [hexec, exec_bitArrival, takeBit_eq, hkind], fun hh => ?_, fun hl => ?_⟩
    · rw [hexec, ← enterBreak_hunt (s := bitIn false s) (by rw [show (bitIn false s).link.state = .hunt from hh]; nofun)]
      rfl
    · obtain ⟨hout, hin⟩ := enterBreak_locked (s := bitIn false s) hl
      refine ⟨fun hrun => ?_, fun hrun => ?_⟩
      · rw [hexec, hout hrun]
        rfl
      · rw [hexec, hin hrun, appendTwoMarks_eq]
        refine ⟨_, exec_append_mark (by exact hrun.1) (hardwareBody_mark trivial), ?_⟩
        rw [exec_append_mark (by rw [survey_state_appendMark]; exact hrun.1) (hardwareBody_mark trivial)]
        rfl
  · have hkind : kindOf true s = .breakEnd := kindOf_brk h
    have hexec : exec .breakEnd s = .next (takeBit true s) := congrArg _ (takeBitAs_of_kind hkind)
    refine ⟨?_, hexec.symm⟩
    rw [hexec, takeBit_eq, hkind]
    rfl

end Sys2Proof.Machine

/-! PROOF (O31, O32). The Test Frame Generator starts into LOOPBACK and stops into HUNT. -/

namespace Sys2Proof.Machine

open Sys2Proof

variable {s : State} {p : Port} {body : List Word}

/-! ### SELFTEST_START (R59, R60) -/

theorem exec_selftestStart (hw : waits p .selftestStart body s) : exec (.selftestStart p) s =
    .next (match readSelftest body with
      | none => answered p .selftestStart .badRequest [] s
      | some v =>
        if (!s.running) = true then answered p .selftestStart .wrongState [] s
        else if s.gen.running = true then answered p .selftestStart .wrongState [] s
        else respond p .selftestStart (okOr (v != clampTest v)) [] (startTest (clampTest v) (withdrawn p s))) := by
  rw [show exec (.selftestStart p) s = execSelftestStart p s from rfl, execSelftestStart, takeRequest_of_waits _ hw]
  simp only [respond_withdrawn, withdrawn_running, withdrawn_gen] <;> rfl

theorem readSelftest_of_length (h : body.length ≠ 5) : readSelftest body = none := by
  match body, h with
  | [], _ | [_], _ | [_, _], _ | [_, _, _], _ | [_, _, _, _], _ | _ :: _ :: _ :: _ :: _ :: _ :: _, _ => rfl

theorem okOr_clampTest (v : TestValues) : okOr (v != clampTest v) =
    if min 32767 v.levelA = v.levelA ∧ min 32767 v.levelB = v.levelB ∧ max 1 (min 255 v.ka) = v.ka ∧ max 1 (min 255 v.kb) = v.kb ∧
      max 1 (min 255 v.repeats) = v.repeats then .ok else .okClamped := by
  have hsame : v = clampTest v ↔ min 32767 v.levelA = v.levelA ∧ min 32767 v.levelB = v.levelB ∧ max 1 (min 255 v.ka) = v.ka ∧
      max 1 (min 255 v.kb) = v.kb ∧ max 1 (min 255 v.repeats) = v.repeats := by
    obtain ⟨a, b, ka, kb, n⟩ := v
    simp only [clampTest, clampTo, TestValues.mk.injEq, eq_comm]
  by_cases h : v = clampTest v
  · rw [if_pos (hsame.1 h), okOr, if_neg (by simpa using h)]
  · rw [if_neg (mt hsame.2 h), okOr, if_pos (by simpa using h)]

/-- The receiver in LOOPBACK, and the generator at the start of its program, before the mark (R59, R60). -/
theorem startTest_eq (v : TestValues) (s : State) :
    let l := { s.link with state := LinkState.loopback, wordPos := none, frame := [], lowRun := 0 }
    let s1 := { s with gen := startGenerator v }
    startTest v s = appendMark (.selftestOn v.levelA v.levelB v.ka v.kb v.repeats s.link.state)
      (linkRaised (if s.link.state = .locked then lossSent { s1 with link := l } else { s1 with link := { l with badRun := 0 } })) := by
  intro l s1
  unfold startTest enterLoopback
  rfl

/-- Settles O31. -/
theorem selftestStartEntersLoopback : Obligations.SelftestStartEntersLoopback := by
  refine fun p s body hw => ⟨fun hlen => ?_, fun a b ka kb n hbody => ?_⟩
  · rw [exec_selftestStart hw, readSelftest_of_length hlen]
  · subst hbody
    have hexec := exec_selftestStart hw
    rw [readSelftest] at hexec
    dsimp only at hexec
    refine ⟨fun hno => ?_, fun hr hg => ?_⟩
    · rw [hexec]
      by_cases hr : isRunning s
      · rw [if_neg (by rw [(running_iff s).2 hr]; nofun), if_pos (hno.resolve_left (not_not.2 hr))]
      · rw [if_pos (by rw [(running_false_iff s).2 hr]; rfl)]
    · intro count level unmoved s1 l t
      rw [if_neg (by rw [(running_iff s).2 hr]; nofun), if_neg (by rw [hg]; nofun), okOr_clampTest, startTest_eq, withdrawn_link] at hexec
      have hstate : t.survey.state = .running := by
        have hkeep : t.survey = s1.survey := by
          show (linkRaised (if _ then _ else _)).survey = _
          split <;> rfl
        rw [hkeep]
        exact (congrArg SurveyUnit.state (withdrawn_survey p s)).trans hr.1
      exact ⟨_, exec_append_mark hstate (hardwareBody_mark trivial), hexec⟩

/-! ### The end of a program (R62) -/

theorem stopGenerator_intoHunt {reason : OffReason} (hr : s.survey.state = .running) (hl : s.link.state = .loopback) :
    ∃ v, exec (.append (.mark (.selftestOff reason s.gen.repeatsDone s.gen.frames)) false) { s with gen := { s.gen with running := false } }
        = .next v ∧
      stopGenerator reason s = linkRaised (lossSent { v with link := { v.link with
        state := .hunt, wordPos := none, frame := [], lowRun := 0 } }) := by
  refine ⟨_, exec_append_mark (by exact hr) (hardwareBody_mark trivial), ?_⟩
  unfold stopGenerator leaveLoopback
  dsimp only
  rw [if_pos (by rw [link_appendMark]; exact hl)]
  rfl

theorem survey_appendMark {m : MarkBody} (h : ¬ isRunning s) : (appendMark m s).survey = s.survey := by
  have hkeep := hardwareOne_keeps (.mark m) false s
  have hsurvey : (hardwareOne (.mark m) false s).1.survey = s.survey := by rw [hkeep]; rfl
  rw [appendMark, hardwareAppend]
  dsimp only
  rw [checkLimit_of_stopping (by rw [isRunning, hsurvey]; exact h), hsurvey]

theorem survey_stopGenerator {reason : OffReason} (h : ¬ isRunning s) : (stopGenerator reason s).survey = s.survey := by
  have hmark := survey_appendMark (s := s.setGen { s.gen with running := false })
    (m := .selftestOff reason s.gen.repeatsDone s.gen.frames) h
  unfold stopGenerator leaveLoopback
  dsimp only
  split <;> exact hmark

theorem exec_selftestStop (hw : waits p .selftestStop body s) : exec (.selftestStop p) s = .next
    (if body ≠ [] then answered p .selftestStop .badRequest [] s
    else if s.gen.running then respond p .selftestStop .ok [] (stopGenerator .request (withdrawn p s))
    else answered p .selftestStop .wrongState [] s) := by
  rw [show exec (.selftestStop p) s = execSelftestStop p s from rfl, execSelftestStop, takeRequest_of_waits _ hw, withdrawn_gen,
    respond_withdrawn, respond_withdrawn]

/-- A block leaves a stop that other blocks are yet to finish (R5). -/
theorem finishBlock_of_others {leave : Blocks → Blocks} (h : leave s.survey.yetToFinish ≠ .empty) : finishBlock leave s =
    { s with survey := { s.survey with yetToFinish := leave s.survey.yetToFinish } } := if_neg fun hc => h hc.1

theorem leaveGenerator_ne_empty {b : Blocks} (h : b.detector = true ∨ b.capture = true ∨ b.aggregator = true) :
    leaveGenerator b ≠ .empty := by
  intro he
  rw [leaveGenerator, Blocks.empty, Blocks.mk.injEq] at he
  obtain ⟨h1, h2, h3, -⟩ := he
  rw [h1, h2, h3] at h
  simp at h

/-- Settles O32. -/
theorem generatorStopsIntoHunt : Obligations.GeneratorStopsIntoHunt := by
  intro s off
  refine ⟨fun p body hw hne => ?_, fun p hw => ⟨fun hg => ?_, fun hg hl hr => ?_⟩, fun hn hothers => ?_⟩
  · rw [exec_selftestStop hw, if_pos hne]
  · rw [exec_selftestStop hw, if_neg (not_not.2 rfl), if_neg (by rw [hg]; nofun)]
  · obtain ⟨v, hv, hstop⟩ := stopGenerator_intoHunt (s := withdrawn p s) (reason := .request) (by rwa [withdrawn_survey]) (by rwa [withdrawn_link])
    rw [withdrawn_gen] at hv
    refine ⟨stopGenerator .request (withdrawn p s), ⟨v, ?_, hstop⟩, ?_⟩
    · rw [withdrawn_gen]
      exact hv
    · rw [exec_selftestStop hw, if_neg (not_not.2 rfl), if_pos hg]
      rfl
  · intro u leaves
    have hexec : exec .stopNoticeGenerator s = .next (finishBlock leaveGenerator (if u.gen.running then stopGenerator .surveyStop u else u)) :=
      congrArg _ (if_pos hn)
    refine ⟨fun hg => ?_, fun hg hl hr hp => ?_⟩
    · rw [hexec, if_neg (by rw [show u.gen.running = false from hg]; nofun),
        finishBlock_of_others (s := u) (leaveGenerator_ne_empty hothers)]
      rfl
    · obtain ⟨v, hv, hstop⟩ := stopGenerator_intoHunt (s := u) (reason := .surveyStop) hr hl
      have hsurvey : (stopGenerator .surveyStop u).survey = s.survey := survey_stopGenerator (s := u) fun hc => hp hc.2
      refine ⟨stopGenerator .surveyStop u, ⟨v, hv, hstop⟩, ?_⟩
      rw [hexec, if_pos (by exact hg), finishBlock_of_others (by rw [hsurvey]; exact leaveGenerator_ne_empty hothers)]
      rfl

end Sys2Proof.Machine

/-! PROOF (O33). Test frames: the samples of one frame, and the frame's place in its half cycle, its phase and the program. -/

namespace Sys2Proof.Machine

open Sys2Proof

variable {s : State}

/-- The quotient of R61 is rounded toward minus infinity. -/
theorem testSample_eq (g : Generator) (offset : Nat) :
    testSample g offset = Int.fdiv ((if g.phaseB then (g.levelB : Int) else g.levelA) * sine ((g.k + offset) % 256)) 32768 := by
  have hlevel : (currentLevel g : Int) = if g.phaseB then (g.levelB : Int) else g.levelA := by
    unfold currentLevel
    split <;> rfl
  rw [Int.fdiv_eq_ediv_of_nonneg _ (by decide), ← hlevel]
  rfl

theorem phaseEnds_countFrame (g : Generator) : phaseEnds (countFrame g) = decide ((g.frames + 1) % 128 = 0 ∧ g.halfLeft ≤ 1) := by
  rw [Bool.eq_iff_iff, decide_eq_true_iff, phaseEnds, Bool.and_eq_true, decide_eq_true_iff]
  exact and_congr beq_iff_eq Iff.rfl

theorem exec_testFrame (h : s.gen.running = true) : exec .testFrame s = .next (takeTestFrame s) := congrArg _ (if_pos h)

theorem exec_phaseChange (h : s.gen.running = true) : exec .phaseChange s =
    .next (if (s.gen.frames + 1) % 128 = 0 ∧ s.gen.halfLeft ≤ 1 then takeTestFrame s else s) := by
  refine congrArg _ (if_congr ?_ rfl rfl)
  rw [h, Bool.true_and, phaseEnds_countFrame, decide_eq_true_iff]

/-- One frame, by whether it ends its phase or its half cycle (R61). -/
theorem takeTestFrame_eq (s : State) : takeTestFrame s =
    if (s.gen.frames + 1) % 128 = 0 ∧ s.gen.halfLeft ≤ 1 then
      if (changePhase (countFrame s.gen)).2 then stopGenerator .complete ((deliverTest s).setGen (changePhase (countFrame s.gen)).1)
      else (deliverTest s).setGen (changePhase (countFrame s.gen)).1
    else if (s.gen.frames + 1) % 128 = 0 then
      (deliverTest s).setGen { countFrame s.gen with halfLeft := s.gen.halfLeft - 1 }
    else (deliverTest s).setGen (countFrame s.gen) := by
  have hgen : (deliverTest s).gen = s.gen := rfl
  have hhalf : halfDone (countFrame s.gen) = true ↔ (s.gen.frames + 1) % 128 = 0 := beq_iff_eq
  unfold takeTestFrame
  dsimp only
  rw [hgen, phaseEnds_countFrame]
  refine if_congr decide_eq_true_iff rfl ?_
  exact if_congr hhalf rfl rfl

theorem changePhase_first {g : Generator} (h : g.phaseB = false) : changePhase g = ({ g with phaseB := true, halfLeft := g.kb }, false) :=
  if_neg (by rw [h]; nofun)

theorem changePhase_repeat {g : Generator} (h : g.phaseB = true) (hr : g.repeatsDone + 1 < g.repeats) :
    changePhase g = ({ g with phaseB := false, halfLeft := g.ka, repeatsDone := g.repeatsDone + 1 }, false) :=
  (if_pos h).trans (if_pos hr)

theorem changePhase_complete {g : Generator} (h : g.phaseB = true) (hr : g.repeats ≤ g.repeatsDone + 1) :
    changePhase g = ({ g with halfLeft := 0, repeatsDone := g.repeatsDone + 1 }, true) :=
  (if_pos h).trans (if_neg (Nat.not_lt.2 hr))

/-- Settles O33. -/
theorem testFramesFollowTheProgram : Obligations.TestFramesFollowTheProgram := by
  intro s hg g level wave samples sent g1
  have hsamples : testSamples s.gen = samples := by
    show Eight.mk .. = Eight.mk ..
    rw [testSample_eq, testSample_eq, testSample_eq]
  have hsent : deliverTest s = sent := by
    unfold deliverTest
    rw [hsamples]
    rfl
  have htest := exec_testFrame hg
  have hphase := exec_phaseChange hg
  rw [takeTestFrame_eq, hsent] at htest
  refine ⟨fun hf => ⟨?_, ?_⟩, fun hf hh => ⟨?_, ?_⟩, fun hf hh => ?_⟩
  · rw [htest, if_neg (fun hc => hf hc.1), if_neg hf]
    rfl
  · rw [hphase, if_neg (fun hc => hf hc.1)]
  · rw [htest, if_neg (fun hc => absurd hc.2 (Nat.not_le.2 hh)), if_pos hf]
    rfl
  · rw [hphase, if_neg (fun hc => absurd hc.2 (Nat.not_le.2 hh))]
  · rw [if_pos ⟨hf, hh⟩] at htest
    rw [if_pos ⟨hf, hh⟩, takeTestFrame_eq, hsent, if_pos ⟨hf, hh⟩] at hphase
    refine ⟨hphase.trans htest.symm, fun hb => ?_, fun hb hr => ?_, fun hb hr hs hl => ?_⟩
    · rw [hphase, changePhase_first (g := countFrame s.gen) hb]
      rfl
    · rw [hphase, changePhase_repeat (g := countFrame s.gen) hb hr]
      rfl
    · obtain ⟨v, hv, hstop⟩ := stopGenerator_intoHunt (reason := .complete)
        (s := sent.setGen { g1 with halfLeft := 0, repeatsDone := g.repeatsDone + 1 }) hs hl
      refine ⟨v, hv, ?_⟩
      rw [hphase, changePhase_complete (g := countFrame s.gen) hb hr, ← hstop]
      rfl

end Sys2Proof.Machine

/-! PROOF (O34). The window of the Half-Cycle Unit after a sample set, and the boundaries of half cycles. -/

namespace Sys2Proof.Machine

open Sys2Proof

variable {s : State} {x : SampleSet} {h : HalfCycleUnit}

/-! ### The window (R65, R67) -/

/-- A window of at most 256 samples after one more joins it. -/
theorem window_takeSamples (hs : h.window.length ≤ 256) : (takeSamples x h).window =
    (h.window ++ [WinSample.mk ⟨x.samples.c0, x.samples.c1, x.samples.c2, x.samples.c3⟩ x.test]).drop (h.window.length + 1 - 256) := by
  show (dropOldest h).window ++ [WinSample.mk (voltages x.samples) x.test] = _
  obtain ⟨hlt, e⟩ | ⟨o, rest, hw, hfull, e⟩ := dropOldest_cases h
  · rw [e, show h.window.length + 1 - 256 = 0 by omega, List.drop_zero]
    rfl
  · rw [e, hw]
    rw [hw, List.length_cons] at hs
    rw [List.length_cons, show rest.length + 1 + 1 - 256 = 1 by omega, List.cons_append, List.drop_one, List.tail_cons]
    rfl

theorem ages_dropOldest (h : HalfCycleUnit) : (dropOldest h).ages = h.ages := by
  obtain ⟨-, e⟩ | ⟨o, rest, -, -, e⟩ := dropOldest_cases h <;> rw [e]

/-- The full-scale age of a channel (R65). -/
theorem ages_takeSamples (x : SampleSet) (h : HalfCycleUnit) (c : Nat) : (takeSamples x h).ages.get c =
    if ((voltages x.samples).get c).natAbs = 32767 then some 0
    else (h.ages.get c).bind fun a => if a + 1 < 256 then some (a + 1) else none := by
  show (Four.zip ageAfter (voltages x.samples) (dropOldest h).ages).get c = _
  rw [four_get_zip, ages_dropOldest]
  unfold ageAfter
  refine if_congr Iff.rfl rfl ?_
  cases h.ages.get c <;> rfl

theorem sinceAfter_eq (hs : WindowSound h) :
    sinceAfter h = (if endsHalfCycle h ∨ h.window.length < 256 then 0 else h.since + 1, endsHalfCycle h) := by
  obtain ⟨hlen, -, -, hsince, -⟩ := hs
  unfold sinceAfter endsHalfCycle Config.windowSize Config.halfCycle
  by_cases hlt : h.window.length < 256
  · rw [if_pos hlt, if_pos (.inr hlt)]
    refine Prod.ext rfl ?_
    rw [Bool.eq_iff_iff]
    simp only [beq_iff_eq, Bool.or_eq_true, Bool.and_eq_true]
    omega
  · rw [if_neg hlt]
    by_cases hend : h.since + 1 < 128
    · rw [if_pos hend, if_neg (by simp only [beq_iff_eq, Bool.or_eq_true, Bool.and_eq_true]; omega)]
      refine Prod.ext rfl ?_
      rw [eq_comm, ← Bool.not_eq_true]
      simp only [beq_iff_eq, Bool.or_eq_true, Bool.and_eq_true]
      omega
    · have hb : (h.window.length == 255 || h.window.length == 256 && h.since == 127) = true := by
        simp only [beq_iff_eq, Bool.or_eq_true, Bool.and_eq_true]
        omega
      rw [if_neg hend, hb, if_pos (.inl rfl)]

/-- The sample set at the front of the queue has been taken off it. -/
def setTaken (rest : List SourceMsg) (s : State) : State := { s with flight := { s.flight with hcuIn := rest } }

theorem takeSet_eq (hs : WindowSound s.hcu) (x : SampleSet) : takeSet x s =
    if endsHalfCycle s.hcu then takeBoundary x.era (s.setHcu (takeSamples x s.hcu)) else s.setHcu (takeSamples x s.hcu) := by
  unfold takeSet
  dsimp only
  rw [sinceAfter_eq hs]

theorem exec_sampleSet {rest : List SourceMsg} (hin : s.flight.hcuIn = .set x :: rest) :
    exec .sampleSet s = .next (takeSet x (setTaken rest s)) := by
  rw [show exec .sampleSet s = execSampleSet s from rfl, execSampleSet, hin]
  rfl

theorem exec_halfCycleBoundary {rest : List SourceMsg} (hin : s.flight.hcuIn = .set x :: rest) (hs : WindowSound s.hcu) :
    exec .halfCycleBoundary s = .next (if endsHalfCycle s.hcu then takeSet x (setTaken rest s) else s) := by
  rw [show exec .halfCycleBoundary s = execHalfCycleBoundary s from rfl, execHalfCycleBoundary, hin]
  dsimp only
  rw [sinceAfter_eq hs]
  rfl

/-! ### What a boundary leaves of the window (R67) -/

theorem ages_countChannel (edges : List Nat) (i : Nat) (v : Option ChanValue) (h : HalfCycleUnit) :
    (countChannel edges i v h).ages = h.ages := by cases v <;> rfl

theorem ages_countValue (running : Bool) (v : HalfValue) (h : HalfCycleUnit) : (countValue running v h).ages = h.ages := by
  unfold countValue
  split
  · show (countChannel _ 3 _ (countChannel _ 2 _ (countChannel _ 1 _ (countChannel _ 0 _ h)))).ages = _
    rw [ages_countChannel, ages_countChannel, ages_countChannel, ages_countChannel]
  · rfl

/-- The window and its figures after a sample set, whether a value is formed or not. -/
theorem window_takeSet (x : SampleSet) (s : State) :
    sameWindow (takeSamples x s.hcu) (takeSet x s).hcu ∧ (takeSet x s).hcu.ages = (takeSamples x s.hcu).ages := by
  unfold takeSet
  dsimp only
  split
  · exact ⟨sameWindow_countValue s.running (formValue (s.setHcu (takeSamples x s.hcu))) (takeSamples x s.hcu),
      ages_countValue s.running (formValue (s.setHcu (takeSamples x s.hcu))) (takeSamples x s.hcu)⟩
  · exact ⟨⟨rfl, rfl, rfl, rfl, rfl⟩, rfl⟩

theorem takeSamples_keeps (x : SampleSet) (h : HalfCycleUnit) : takeSamples x h = { h with
    window := (takeSamples x h).window, since := (takeSamples x h).since, sums := (takeSamples x h).sums
    ages := (takeSamples x h).ages, testCount := (takeSamples x h).testCount } := by
  unfold takeSamples addNewest
  obtain ⟨-, e⟩ | ⟨o, rest, -, -, e⟩ := dropOldest_cases h <;> rw [e]

/-- Settles O34. -/
theorem sampleSetsMoveTheWindow : Obligations.SampleSetsMoveTheWindow := by
  intro x rest s hin hs new
  have hs' : WindowSound (setTaken rest s).hcu := hs
  obtain ⟨hsame, hages⟩ := window_takeSet x (setTaken rest s)
  obtain ⟨hwindow, -, -, hsince, -⟩ := id hsame
  refine ⟨takeSet x (setTaken rest s), exec_sampleSet hin, hsame.sound (windowSound_takeSamples x hs'), ?_, ?_, fun c => ?_,
    fun hend => ⟨?_, ?_⟩, fun hend => ?_⟩
  · exact hwindow.trans (window_takeSamples hs.1)
  · exact hsince.trans (congrArg Prod.fst (sinceAfter_eq hs))
  · exact (congrArg (fun f : Four (Option Nat) => f.get c) hages).trans (ages_takeSamples x s.hcu c)
  · rw [takeSet_eq hs', if_neg (by rw [show endsHalfCycle (setTaken rest s).hcu = false from hend]; nofun)]
    have hkeeps := takeSamples_keeps x (setTaken rest s).hcu
    generalize takeSamples x (setTaken rest s).hcu = k at hkeeps ⊢
    exact congrArg (setTaken rest s).setHcu hkeeps
  · rw [exec_halfCycleBoundary hin hs, if_neg (by rw [hend]; nofun)]
  · rw [exec_halfCycleBoundary hin hs, if_pos hend, exec_sampleSet hin]

end Sys2Proof.Machine

/-! PROOF (O35). A half-cycle value: integer roots, the counts of each channel's band, occupancy, and the boundary as a whole. -/

namespace Sys2Proof.Machine

open Sys2Proof

variable {s : State} {x : SampleSet} {h : HalfCycleUnit} {n : Nat}

/-! ### Integer roots (R68, R113) -/

/-- The root found bit by bit lies between its bounds. -/
theorem isqrtFrom_bounds (b : Nat) {n r : Nat} (hr : r * r ≤ n) (hn : n < (r + 2 ^ b) * (r + 2 ^ b)) :
    isqrtFrom b n r * isqrtFrom b n r ≤ n ∧ n < (isqrtFrom b n r + 1) * (isqrtFrom b n r + 1) := by
  induction b generalizing r with
  | zero => exact ⟨hr, hn⟩
  | succ b ih =>
    rw [isqrtFrom]
    split
    · rename_i hle
      refine ih hle ?_
      rwa [Nat.add_assoc, ← Nat.two_mul, ← Nat.pow_succ']
    · rename_i hgt
      exact ih hr (Nat.lt_of_not_le hgt)

theorem isqrt_eq_sqrt (h : n < 2 ^ 64) : isqrt n = Nat.sqrt n := by
  obtain ⟨h1, h2⟩ := isqrtFrom_bounds 32 (n := n) (r := 0) (Nat.zero_le _) (by rw [Nat.zero_add, ← Nat.pow_add]; exact h)
  exact Nat.eq_sqrt.2 ⟨h1, h2⟩

theorem sum_le_of_le {α : Type} (f : α → Nat) (m : Nat) (l : List α) (h : ∀ a ∈ l, f a ≤ m) : (l.map f).sum ≤ l.length * m := by
  calc (l.map f).sum ≤ (l.map f).length * m := List.sum_le_card_nsmul _ _ (fun y hy => by
        obtain ⟨a, ha, rfl⟩ := List.mem_map.1 hy
        exact h a ha)
    _ = l.length * m := by rw [List.length_map]

/-! ### Bands, channel by channel (R72 to R74) -/

theorem four_get_set {α : Type} (f : Four α) (i c : Fin 4) (a : α) : (f.set i a).get c = if c = i then a else f.get c := by
  fin_cases i <;> fin_cases c <;> rfl

/-- The residency counts of a channel after its value. -/
def bandRisen (edges : List Nat) (v : Option ChanValue) (l : List Nat) : List Nat :=
  match v with
  | none => l
  | some y => riseBand (bandOf edges y.residual) l

/-- The entry counts of a channel after its value. -/
def entryRisen (edges : List Nat) (v : Option ChanValue) (prev : Option Nat) (l : List Nat) : List Nat :=
  match v with
  | none => l
  | some y => if prev = some (bandOf edges y.residual) then l else riseBand (bandOf edges y.residual) l

theorem prevBand_countChannel (edges : List Nat) (i c : Fin 4) (v : Option ChanValue) (h : HalfCycleUnit) :
    (countChannel edges i v h).prevBand.get c = if c = i then v.map fun y => bandOf edges y.residual else h.prevBand.get c := by
  cases v <;> exact four_get_set _ _ _ _

theorem bandCounts_countChannel (edges : List Nat) (i c : Fin 4) (v : Option ChanValue) (h : HalfCycleUnit) :
    (countChannel edges i v h).bandCounts.get c = if c = i then bandRisen edges v (h.bandCounts.get c) else h.bandCounts.get c := by
  cases v with
  | none => exact (ite_self _).symm
  | some y =>
    refine (four_get_set _ _ _ _).trans ?_
    split
    · rename_i e
      rw [e]
      rfl
    · rfl

theorem entryCounts_countChannel (edges : List Nat) (i c : Fin 4) (v : Option ChanValue) (h : HalfCycleUnit) :
    (countChannel edges i v h).entryCounts.get c =
      if c = i then entryRisen edges v (h.prevBand.get c) (h.entryCounts.get c) else h.entryCounts.get c := by
  cases v with
  | none => exact (ite_self _).symm
  | some y =>
    show (if h.prevBand.get i = some (bandOf edges y.residual) then h.entryCounts
      else h.entryCounts.set i (riseBand (bandOf edges y.residual) (h.entryCounts.get i))).get c = _
    unfold entryRisen
    by_cases hp : h.prevBand.get i = some (bandOf edges y.residual)
    · rw [if_pos hp]
      split
      · rename_i e
        rw [e, hp]
        exact (if_pos rfl).symm
      · rfl
    · rw [if_neg hp, four_get_set]
      split
      · rename_i e
        rw [e]
        exact (if_neg hp).symm
      · rfl

theorem edges_countChannel (edges : List Nat) (i : Nat) (v : Option ChanValue) (h : HalfCycleUnit) :
    (countChannel edges i v h).edges = h.edges := by cases v <;> rfl

/-- The four channels of a value counted, one after another. -/
def channelsCounted (v : HalfValue) (h : HalfCycleUnit) : HalfCycleUnit :=
  (List.range 4).foldl (fun h c => countChannel h.edges c (v.chans.get c) h) h

theorem channelsCounted_eq (v : HalfValue) (h : HalfCycleUnit) : channelsCounted v h =
    countChannel h.edges (3 : Fin 4) (v.chans.get 3) (countChannel h.edges (2 : Fin 4) (v.chans.get 2)
      (countChannel h.edges (1 : Fin 4) (v.chans.get 1) (countChannel h.edges (0 : Fin 4) (v.chans.get 0) h))) := by
  show countChannel _ 3 _ (countChannel _ 2 _ (countChannel _ 1 _ (countChannel _ 0 _ h))) = _
  simp only [edges_countChannel]
  rfl

theorem channelsCounted_prevBand (v : HalfValue) (h : HalfCycleUnit) (c : Fin 4) :
    (channelsCounted v h).prevBand.get c = (v.chans.get c).map fun y => bandOf h.edges y.residual := by
  rw [channelsCounted_eq]
  simp only [prevBand_countChannel]
  fin_cases c <;> rfl

theorem channelsCounted_bandCounts (v : HalfValue) (h : HalfCycleUnit) (c : Fin 4) :
    (channelsCounted v h).bandCounts.get c = bandRisen h.edges (v.chans.get c) (h.bandCounts.get c) := by
  rw [channelsCounted_eq]
  simp only [bandCounts_countChannel]
  fin_cases c <;> rfl

theorem channelsCounted_entryCounts (v : HalfValue) (h : HalfCycleUnit) (c : Fin 4) :
    (channelsCounted v h).entryCounts.get c = entryRisen h.edges (v.chans.get c) (h.prevBand.get c) (h.entryCounts.get c) := by
  rw [channelsCounted_eq]
  simp only [entryCounts_countChannel, prevBand_countChannel]
  fin_cases c <;> rfl

/-! ### Occupancy (R76) -/

theorem belowDip_eq (dip : Nat) (v : HalfValue) (c : Nat) :
    belowDip dip (v.chans.get c) = match seen v c with | some y => decide (y.residual < dip) | none => false := by
  unfold belowDip seen
  cases v.chans.get c with
  | none => rfl
  | some y =>
    rw [Option.filter_some]
    cases hd : y.inDetector <;> simp [hd]

theorem occupancyOf_eq (v : HalfValue) : occupancyOf v = ((List.range 4).filter fun c =>
    match seen v c with | some y => decide (y.residual < v.dip) | none => false).length := by
  have hlist : v.chans.toList = (List.range 4).map v.chans.get := rfl
  rw [occupancyOf, hlist, List.filter_map, List.length_map]
  exact congrArg (fun p : Nat → Bool => ((List.range 4).filter p).length) (funext fun c => belowDip_eq v.dip v c)

/-! ### The boundary (R67 to R76) -/

theorem countValue_running (v : HalfValue) (h : HalfCycleUnit) : countValue true v h = { channelsCounted v h with
    surveyOcc := riseOccupancy (occupancyOf v) (channelsCounted v h).surveyOcc
    intervalOcc := riseOccupancy (occupancyOf v) (channelsCounted v h).intervalOcc } := rfl

theorem countValue_outside (v : HalfValue) (h : HalfCycleUnit) : countValue false v h = { h with prevBand := .all none } := rfl

/-- Counting touches the bands, the counters and the occupancy alone. -/
def countsAlone (h g : HalfCycleUnit) : Prop :=
  g = { h with prevBand := g.prevBand, bandCounts := g.bandCounts, entryCounts := g.entryCounts, surveyOcc := g.surveyOcc
               intervalOcc := g.intervalOcc }

theorem countsAlone_countChannel (edges : List Nat) (i : Nat) (v : Option ChanValue) (h : HalfCycleUnit) :
    countsAlone h (countChannel edges i v h) ∧ (countChannel edges i v h).surveyOcc = h.surveyOcc ∧
      (countChannel edges i v h).intervalOcc = h.intervalOcc := by cases v <;> exact ⟨rfl, rfl, rfl⟩

theorem countsAlone.trans {h g k : HalfCycleUnit} (e : countsAlone h g) (f : countsAlone g k) : countsAlone h k := by
  unfold countsAlone at e f ⊢
  rw [e] at f
  exact f

theorem countsAlone_channelsCounted (v : HalfValue) (h : HalfCycleUnit) : countsAlone h (channelsCounted v h) ∧
    (channelsCounted v h).surveyOcc = h.surveyOcc ∧ (channelsCounted v h).intervalOcc = h.intervalOcc := by
  rw [channelsCounted_eq]
  have step := fun i (v : Option ChanValue) (g : HalfCycleUnit) => countsAlone_countChannel h.edges i v g
  refine ⟨((step _ _ _).1.trans (step _ _ _).1).trans ((step _ _ _).1.trans (step _ _ _).1), ?_, ?_⟩
  · rw [(step _ _ _).2.1, (step _ _ _).2.1, (step _ _ _).2.1, (step _ _ _).2.1]
  · rw [(step _ _ _).2.2, (step _ _ _).2.2, (step _ _ _).2.2, (step _ _ _).2.2]

theorem countsAlone_countValue (running : Bool) (v : HalfValue) (h : HalfCycleUnit) : countsAlone h (countValue running v h) := by
  cases running with
  | false => rfl
  | true =>
    have hc := (countsAlone_channelsCounted v h).1
    rw [countValue_running]
    unfold countsAlone at hc ⊢
    rw [hc]

/-- A channel's sum of squares over a window of samples within full scale. -/
theorem sums_lt (hs : WindowSound h) (hr : windowInRange h) (c : Fin 4) :
    h.sums.get c = (h.window.map fun w => (w.c.get c).natAbs ^ 2).sum ∧ h.sums.get c / 256 < 2 ^ 64 := by
  have hsum : h.sums.get c = (h.window.map fun w => square (w.c.get c)).sum := by simpa [sumSound] using hs.2.1 c
  have hsquare : (fun w : WinSample => square (w.c.get c)) = fun w => (w.c.get c).natAbs ^ 2 := by
    funext w
    rw [square, Nat.pow_two]
  have hbound : ∀ w ∈ h.window, square (w.c.get c) ≤ 32767 * 32767 := fun w hw => by
    have hall := List.all_eq_true.1 hr w hw
    have hc : (w.c.get c).natAbs ≤ 32767 := by
      have hmem : w.c.get c ∈ w.c.toList := by fin_cases c <;> simp [Four.toList, Four.get]
      simpa using List.all_eq_true.1 hall _ hmem
    exact Nat.mul_le_mul hc hc
  have hle := sum_le_of_le (fun w : WinSample => square (w.c.get c)) _ h.window hbound
  refine ⟨hsum.trans (by rw [hsquare]), ?_⟩
  rw [hsum]
  have hlen := hs.1
  have hmul : h.window.length * (32767 * 32767) ≤ 256 * (32767 * 32767) := Nat.mul_le_mul_right _ hlen
  omega

/-- What a value carries for an admitted channel (R68 to R71). -/
theorem channelValue_admitted {k : KitUnit} {d : Nat} (hs : WindowSound h) (hr : windowInRange h) (c : Fin 4)
    (hp : k.present.get c = true) (hk : (k.entries.get c).kind = .voltageLead) (hd : (k.entries.get c).level = some d) :
    let raw := Nat.sqrt ((h.window.map fun w => (w.c.get c).natAbs ^ 2).sum / 256) * 1000 / d
    channelValue h k c = some ⟨min 1999 raw, (h.ages.get c).isSome, decide (2000 ≤ raw), (k.entries.get c).inDetector⟩ := by
  intro raw
  obtain ⟨hsum, hlt⟩ := sums_lt hs hr c
  have hraw : rawResidual (h.sums.get c) ((k.entries.get c).level.getD 1000) = raw := by
    rw [rawResidual, isqrt_eq_sqrt hlt, hsum, hd]
    rfl
  unfold channelValue
  dsimp only
  rw [if_pos ⟨hp, hk⟩, hraw]

theorem channelValue_absent {k : KitUnit} {c : Nat} (hp : k.present.get c = false ∨ (k.entries.get c).kind ≠ .voltageLead) :
    channelValue h k c = none := if_neg fun hc => by
  obtain hp | hp := hp
  · rw [hp] at hc
    exact nomatch hc.1
  · exact hp hc.2

/-- What a value counts, channel by channel, in RUNNING and outside it (R73, R74). -/
theorem countValue_channel (running : Bool) (v : HalfValue) (h : HalfCycleUnit) (c : Fin 4) :
    (countValue running v h).prevBand.get c =
        (if running then (v.chans.get c).map fun y => bandOf h.edges y.residual else none) ∧
      match (countValue running v h).prevBand.get c with
      | some b =>
        (countValue running v h).bandCounts.get c = riseBand b (h.bandCounts.get c) ∧
        (countValue running v h).entryCounts.get c =
          if h.prevBand.get c = some b then h.entryCounts.get c else riseBand b (h.entryCounts.get c)
      | none => (countValue running v h).bandCounts.get c = h.bandCounts.get c ∧
        (countValue running v h).entryCounts.get c = h.entryCounts.get c := by
  cases running with
  | false =>
    rw [countValue_outside]
    have hnone : ({ h with prevBand := .all none } : HalfCycleUnit).prevBand.get c = none := four_get_all _ _
    rw [hnone]
    exact ⟨rfl, rfl, rfl⟩
  | true =>
    rw [countValue_running]
    dsimp only
    rw [channelsCounted_prevBand, channelsCounted_bandCounts, channelsCounted_entryCounts]
    refine ⟨rfl, ?_⟩
    cases v.chans.get c with
    | none => exact ⟨rfl, rfl⟩
    | some y => exact ⟨rfl, rfl⟩

/-- The occupancy counters after a value (R76). -/
theorem countValue_occupancy (running : Bool) (v : HalfValue) (h : HalfCycleUnit) :
    (running = true → (countValue running v h).surveyOcc = riseOccupancy (occupancyOf v) h.surveyOcc ∧
      (countValue running v h).intervalOcc = riseOccupancy (occupancyOf v) h.intervalOcc) ∧
    (running = false → (countValue running v h).surveyOcc = h.surveyOcc ∧ (countValue running v h).intervalOcc = h.intervalOcc) := by
  obtain ⟨-, h1, h2⟩ := countsAlone_channelsCounted v h
  refine ⟨?_, ?_⟩
  · rintro rfl
    rw [countValue_running]
    dsimp only
    rw [h1, h2]
    exact ⟨rfl, rfl⟩
  · rintro rfl
    exact ⟨rfl, rfl⟩

theorem takeSamples_kept (x : SampleSet) (h : HalfCycleUnit) : (takeSamples x h).halfNo = h.halfNo ∧
    (takeSamples x h).prevBand = h.prevBand ∧ (takeSamples x h).bandCounts = h.bandCounts ∧
    (takeSamples x h).entryCounts = h.entryCounts ∧ (takeSamples x h).surveyOcc = h.surveyOcc ∧
    (takeSamples x h).intervalOcc = h.intervalOcc ∧ (takeSamples x h).edgesChanged = h.edgesChanged := by
  have hkeeps := takeSamples_keeps x h
  generalize takeSamples x h = k at hkeeps ⊢
  rw [hkeeps]
  exact ⟨rfl, rfl, rfl, rfl, rfl, rfl, rfl⟩

/-- Settles O35. -/
theorem boundariesFormAndCountAValue : Obligations.BoundariesFormAndCountAValue := by
  intro x rest s hin hs hsamples hend
  obtain ⟨hinrange, hsets, -⟩ := hsamples
  rw [hin, List.all_cons, Bool.and_eq_true] at hsets
  have hsound := windowSound_takeSamples x hs
  have hrange := windowInRange_takeSamples (x := x) hsets.1 hinrange
  have hedges := takeSamples_edges x s.hcu
  obtain ⟨hhalf, hprev, hband, hentry, hsurvey, hinterval, hflag⟩ := takeSamples_kept x s.hcu
  have hexec : exec .halfCycleBoundary s = .next (takeBoundary x.era ((setTaken rest s).setHcu (takeSamples x s.hcu))) := by
    rw [exec_halfCycleBoundary hin hs, if_pos hend, takeSet_eq (s := setTaken rest s) hs]
    exact congrArg _ (if_pos hend)
  generalize takeSamples x s.hcu = k at hsound hrange hedges hhalf hprev hband hentry hsurvey hinterval hflag hexec
  obtain ⟨u, hu⟩ : ∃ u, u = (setTaken rest s).setHcu k := ⟨_, rfl⟩
  rw [← hu] at hexec
  obtain ⟨v, hv⟩ : ∃ v, v = formValue u := ⟨_, rfl⟩
  have hrun : s.running = true ↔ isRunning s := running_iff s
  have hcount := countsAlone_countValue s.running v k
  have hsame := sameWindow_countValue s.running v k
  have hchan := fun c : Fin 4 => countValue_channel s.running v k c
  obtain ⟨hocc, hoccout⟩ := countValue_occupancy s.running v k
  have hages := ages_countValue s.running v k
  have htaken : takeBoundary x.era u = { s with
      hcu := { countValue s.running v k with latest := some v, halfNo := v.number }
      flight := { s.flight with hcuIn := rest, values := s.flight.values ++ [⟨v, x.era⟩] } } := by
    rw [hv, hu]
    rfl
  have hvchans : v.chans = .ofFn (channelValue k s.kit) := by rw [hv, hu]; rfl
  have hvnumber : v.number = if isRunning s then min 0xFFFFFFFF (s.hcu.halfNo + 1) else s.hcu.halfNo := by
    rw [hv, hu, ← hhalf]
    exact if_congr hrun rfl rfl
  have hvtest : v.test = (k.testCount != 0) := by rw [hv, hu]; rfl
  have hvdip : v.dip = s.det.dip := by rw [hv, hu]; rfl
  rw [htaken] at hexec
  generalize countValue s.running v k = g at hcount hsame hchan hocc hoccout hages htaken hexec
  obtain ⟨hwindow, -, -, -, hedges'⟩ := hsame
  refine ⟨_, v, hexec, rfl, rfl, hvnumber, ?_, hvdip, fun c d hp hk hd => ?_, fun c hp => ?_, fun c => ?_, fun c => ?_, ?_, ?_⟩
  · show v.test = true ↔ ∃ w ∈ g.window, w.test = true
    rw [hvtest, hwindow, hsound.2.2.1, bne_iff_ne, ← Nat.pos_iff_ne_zero, List.length_pos_iff_exists_mem]
    simp only [List.mem_filter]
  · show v.chans.get c = _
    rw [hvchans, four_get_ofFn]
    refine (channelValue_admitted hsound hrange c hp hk hd).trans ?_
    rw [← hages, ← hwindow]
  · show v.chans.get c = none
    rw [hvchans, four_get_ofFn]
    exact channelValue_absent hp
  · obtain ⟨hp, -⟩ := hchan c
    rw [hedges] at hp
    exact hp.trans (if_congr hrun rfl rfl)
  · obtain ⟨-, hc⟩ := hchan c
    rw [hprev, hband, hentry] at hc
    dsimp only
    cases hp : g.prevBand.get c with
    | none =>
      rw [hp] at hc
      exact hc
    | some b =>
      rw [hp] at hc
      exact hc
  · intro down risen
    have hdown : occupancyOf v = down := by rw [occupancyOf_eq, hvdip] <;> rfl
    have hrisen : ∀ o, riseOccupancy (occupancyOf v) o = risen o := fun o => by rw [hdown]; rfl
    rw [hrisen, hrisen, hsurvey, hinterval] at hocc
    rw [hsurvey, hinterval] at hoccout
    refine ⟨fun hr => hocc (hrun.2 hr), fun hr => hoccout ?_⟩
    rw [← Bool.not_eq_true, hrun]
    exact hr
  · have hkept : g.edgesChanged = s.hcu.edgesChanged := by rw [hcount]; exact hflag
    rw [← hedges, ← hedges', ← hkept]

end Sys2Proof.Machine

/-! PROOF. The detector's reading of a value, and the records that fall due, in the terms of the statements (R84 to R95). -/

namespace Sys2Proof.Machine

open Sys2Proof

variable {s t u : State} {x : DetCtx} {v : HalfValue} {c : DetContext}

/-! ### What a value shows (R85 to R89) -/

theorem detectorResiduals_eq (v : HalfValue) : detectorResiduals v = .ofFn (seen v) := by
  suffices h : detectorResiduals v = v.chans.map (Option.filter ChanValue.inDetector) from h
  exact congrArg (Four.map · v.chans) (funext fun o => by cases o <;> rfl)

theorem detectorChannels_eq (v : HalfValue) : detectorChannels v = .ofFn fun i => (seen v i).isSome := by
  suffices h : detectorChannels v = v.chans.map (fun o => (o.filter ChanValue.inDetector).isSome) from h
  refine congrArg (Four.map · v.chans) (funext fun o => ?_)
  cases o with
  | none => rfl
  | some y => cases h : y.inDetector <;> simp [h]

theorem anyPast_eq (x : DetCtx) (limit : Nat) (v : HalfValue) : anyPast x limit v = someSeen v (beyond x limit) := by
  rw [anyPast, detectorResiduals_eq]
  simp only [Four.toList, Four.ofFn, someSeen, List.range, List.range.loop, List.any_cons, List.any_nil]
  cases x <;> rfl

theorem noDetectorChannel_eq (v : HalfValue) : noDetectorChannel v = !someSeen v fun _ => true := by
  rw [noDetectorChannel, detectorChannels_eq]
  simp only [Four.ofFn, someSeen, List.range, List.range.loop, List.any_cons, List.any_nil]
  cases seen v 0 <;> cases seen v 1 <;> cases seen v 2 <;> cases seen v 3 <;> rfl

theorem recovered_eq (x : DetCtx) (f : Frozen) (y : ChanValue) : recovered x f y.residual = !unrecovered x f y := by
  cases x
  · simp only [recovered, unrecovered, ← decide_not, Nat.not_lt]
  · simp only [recovered, unrecovered, ← decide_not, Nat.not_lt]

theorem allRecovered_eq (x : DetCtx) (f : Frozen) (v : HalfValue) : allRecovered x f v = !someSeen v (unrecovered x f) := by
  rw [allRecovered, detectorResiduals_eq]
  suffices h : (Four.ofFn (seen v)).toList.all (fun o => !(match o with | some y => unrecovered x f y | none => false)) =
      !someSeen v (unrecovered x f) by
    rw [← h]
    refine congrArg (List.all _) (funext fun o => ?_)
    cases o with
    | none => rfl
    | some y => exact recovered_eq x f y
  rw [← List.not_any_eq_all_not]
  rfl

/-- Where some detector channel is past a threshold or short of the end test, there is a detector channel. -/
theorem someSeen_of_someSeen {f : ChanValue → Bool} (h : someSeen v f = true) : someSeen v (fun _ => true) = true := by
  unfold someSeen at h ⊢
  obtain ⟨i, hi, h⟩ := List.any_eq_true.1 h
  refine List.any_eq_true.2 ⟨i, hi, ?_⟩
  revert h
  cases seen v i with
  | none => exact fun h => h
  | some y => exact fun _ => rfl

/-- A residual past the threshold has not passed the end test. -/
theorem unrecovered_of_beyond {f : Frozen} (h : someSeen v (beyond x f.limit) = true) : someSeen v (unrecovered x f) = true := by
  unfold someSeen at h ⊢
  obtain ⟨i, hi, h⟩ := List.any_eq_true.1 h
  refine List.any_eq_true.2 ⟨i, hi, ?_⟩
  revert h
  cases seen v i with
  | none => exact fun h => h
  | some y =>
    cases x
    · exact fun h => decide_eq_true (Nat.lt_add_right _ (of_decide_eq_true h))
    · exact fun h => decide_eq_true (Nat.lt_of_le_of_lt (Nat.sub_le _ _) (of_decide_eq_true h))

/-! ### A context's bookkeeping (R87, R88, R94) -/

theorem noteChannels_eq (v : HalfValue) (c : DetContext) : noteChannels v c = changeNoted v c := by
  have same : (detectorChannels v = c.lastChannels) ↔ ((List.range 4).any fun i => (seen v i).isSome != c.lastChannels.get i) = false := by
    rw [detectorChannels_eq]
    cases c.lastChannels
    simp [Four.ofFn, List.range, List.range.loop, Four.get]
  unfold noteChannels changeNoted
  by_cases h : detectorChannels v = c.lastChannels
  · rw [if_pos h, same.1 h, Bool.or_false]
  · rw [if_neg h, eq_true_of_ne_false fun e => h (same.2 e), Bool.or_true]

theorem extremeAfter_eq (x : DetCtx) (e : Option Nat) (o : Option ChanValue) : extremeAfter x e o = (match o, e with
    | none, e => e
    | some y, none => some y.residual
    | some y, some e => some (match x with | .low => min e y.residual | .high => max e y.residual)) := by
  cases o with
  | none => rfl
  | some y =>
    cases e with
    | none => cases x <;> simp [extremeAfter, further]
    | some e => cases x <;> rfl

theorem takeOpen_eq (x : DetCtx) (v : HalfValue) (c : DetContext) : takeOpen x v c = openTaken x v c := by
  have joined : Four.zip (fun i y => i || channelPast x c.frozen.limit y) c.involved (detectorResiduals v) = .ofFn fun i =>
      c.involved.get i || (match seen v i with | some y => beyond x c.frozen.limit y | none => false) := by
    rw [detectorResiduals_eq]
    cases x <;> rfl
  have reached : Four.zip (extremeAfter x) c.extremes (detectorResiduals v) = (openTaken x v c).extremes := by
    rw [detectorResiduals_eq]
    exact congr (congr (congr (congrArg Four.mk (extremeAfter_eq ..)) (extremeAfter_eq ..)) (extremeAfter_eq ..)) (extremeAfter_eq ..)
  unfold takeOpen
  dsimp only
  rw [joined, reached, detectorChannels_eq, detectorResiduals_eq]
  rfl

theorem readOverdue_eq (s : State) (c : DetContext) : readOverdue s c = calibrationRead s c := rfl

theorem calibrationRead_twice (s : State) (c : DetContext) : calibrationRead s (calibrationRead s c) = calibrationRead s c := by
  unfold calibrationRead
  dsimp only
  rw [show lateInvolved s { c with flags := { c.flags with calOverdue := c.flags.calOverdue || lateInvolved s c } } = lateInvolved s c from
    rfl, Bool.or_assoc, Bool.or_self]

/-! ### Records that fall due (R91) -/

theorem setCtx_setCtx (x : DetCtx) (c d : DetContext) (s : State) : (s.setCtx x c).setCtx x d = s.setCtx x d := by cases x <;> rfl

theorem setCtx_ctx_ne {x y : DetCtx} (h : x ≠ y) (c : DetContext) (s : State) : (s.setCtx x c).ctx y = s.ctx y := by
  cases x <;> cases y <;> first | rfl | exact absurd rfl h

theorem setCtx_self (x : DetCtx) (s : State) : s.setCtx x (s.ctx x) = s := by cases x <;> rfl

theorem appendSettled_left (l : List PendingRec) (s : State) : (appendSettled l s).1 = l.dropWhile settledRec := by
  induction l generalizing s with
  | nil => rfl
  | cons r rest ih =>
    rw [appendSettled, List.dropWhile_cons]
    split
    · exact ih _
    · rfl

theorem appendedInTurn_appendSettled (l : List PendingRec) (h : s.survey.state = .running) :
    appendedInTurn (l.takeWhile settledRec) s (appendSettled l s).2 := by
  induction l generalizing s with
  | nil => rfl
  | cons r rest ih =>
    rw [appendSettled, List.takeWhile_cons]
    split
    · exact ⟨_, exec_append_event h, ih ((appends_hardwareAppend _ _ s).beside.surveyState.trans h)⟩
    · rfl

theorem flushed_flushPending (x : DetCtx) (h : s.survey.state = .running) : flushed x s (flushPending x s) := by
  refine ⟨_, appendedInTurn_appendSettled _ h, ?_⟩
  rw [flushPending, appendSettled_left]

/-- The context's figures are cleared, and the record of what it stood as joins the pending list. -/
def dueContext (x : DetCtx) (c : DetContext) (s : State) : State :=
  s.setCtx x { figuresCleared c with pendingRecs := c.pendingRecs ++ [recordOf x (calibrationRead s c)] }

theorem fallDue_eq (x : DetCtx) (s : State) : fallDue x s = flushPending x (dueContext x (s.ctx x) s) := rfl

theorem dueContext_setCtx (x : DetCtx) (c d : DetContext) (s : State) : dueContext x c (s.setCtx x d) = dueContext x c s :=
  setCtx_setCtx ..

/-- One more reading of the calibration status changes nothing. -/
theorem dueContext_calibrationRead (x : DetCtx) (c : DetContext) (s : State) :
    dueContext x (calibrationRead s c) s = dueContext x c s := by
  unfold dueContext
  rw [calibrationRead_twice]
  rfl

theorem fallDue_setCtx (x : DetCtx) (c : DetContext) (s : State) : fallDue x (s.setCtx x c) = flushPending x (dueContext x c s) := by
  rw [fallDue_eq, State.setCtx_ctx, dueContext_setCtx]

theorem fallsDue_fallDue (x : DetCtx) (c : DetContext) (h : s.survey.state = .running) : fallsDue x c s (fallDue x (s.setCtx x c)) := by
  rw [fallDue_setCtx]
  exact flushed_flushPending x h

theorem fallDue_calibrationRead (x : DetCtx) (c : DetContext) (s : State) :
    fallDue x (s.setCtx x (calibrationRead s c)) = fallDue x (s.setCtx x c) := by
  rw [fallDue_setCtx, fallDue_setCtx, dueContext_calibrationRead]

/-- What a flush leaves: the appends change no context, and the settled records leave the list. -/
theorem flushPending_eq (x : DetCtx) (s : State) : ∃ u, Appends s u ∧
    flushPending x s = u.setCtx x { s.ctx x with pendingRecs := (s.ctx x).pendingRecs.dropWhile settledRec } := by
  have happ := appends_appendSettled (s.ctx x).pendingRecs s
  have hctx : (appendSettled (s.ctx x).pendingRecs s).2.ctx x = s.ctx x := congrArg (DetectorUnit.ctx · x) happ.beside.det
  refine ⟨_, happ, ?_⟩
  rw [flushPending, appendSettled_left, hctx]

end Sys2Proof.Machine

/-! PROOF (O37). A half-cycle value at each context: what it opens, ends and leaves (R85 to R89, R95). -/

namespace Sys2Proof.Machine

open Sys2Proof

variable {s t u : State} {x : DetCtx} {v : HalfValue} {c : DetContext}

/-! ### A value at one context -/

theorem openStep_eq (x : DetCtx) (v : HalfValue) (c : DetContext) (s : State) : openStep x v c s =
    if someSeen v (unrecovered x c.frozen) then s.setCtx x (calibrationRead s { openTaken x v c with state := .opened })
    else if s.det.holdOff = 0 then fallDue x (s.setCtx x { calibrationRead s (openTaken x v c) with
      endHc := v.number, endMs := s.survey.clock })
    else s.setCtx x (calibrationRead s { openTaken x v c with
      state := .closing, endHc := v.number, endMs := s.survey.clock, holdLeft := s.det.holdOff }) := by
  unfold openStep
  rw [takeOpen_eq]
  dsimp only
  rw [allRecovered_eq, show (openTaken x v c).frozen = c.frozen from rfl]
  cases someSeen v (unrecovered x c.frozen)
  · simp only [Bool.not_false, if_true, Bool.false_eq_true, if_false]
    split
    · rw [readOverdue_eq, fallDue_calibrationRead, fallDue_setCtx, fallDue_setCtx]
      unfold dueContext
      rw [show calibrationRead s { calibrationRead s (openTaken x v c) with endHc := v.number, endMs := s.survey.clock } =
        { calibrationRead s (calibrationRead s (openTaken x v c)) with endHc := v.number, endMs := s.survey.clock } from rfl,
        calibrationRead_twice]
      rfl
    · rfl
  · rfl

theorem closingStep_eq (x : DetCtx) (v : HalfValue) (c : DetContext) (s : State) : closingStep x v c s =
    if someSeen v (beyond x c.frozen.limit) then s.setCtx x (calibrationRead s (openTaken x v { c with
      state := .opened, endHc := 0, endMs := 0, holdLeft := 0, merges := min 255 (c.merges + 1) }))
    else if c.holdLeft ≤ 1 then fallDue x (s.setCtx x (calibrationRead s (valueNoted v c)))
    else s.setCtx x (calibrationRead s { valueNoted v c with holdLeft := c.holdLeft - 1 }) := by
  unfold closingStep
  rw [anyPast_eq, openStep_eq]
  cases h : someSeen v (beyond x c.frozen.limit)
  · simp only [Bool.false_eq_true, if_false]
    rw [detectorChannels_eq]
    split
    · rw [readOverdue_eq, fallDue_calibrationRead, fallDue_calibrationRead, fallDue_setCtx, fallDue_setCtx]
      rfl
    · rfl
  · rw [if_pos rfl, if_pos rfl]
    dsimp only
    rw [if_pos (unrecovered_of_beyond h)]
    rfl

theorem changeNoted_frozen (v : HalfValue) (c : DetContext) : (changeNoted v c).frozen = c.frozen := rfl

/-- A context in IDLE opens on the value, or the value leaves it alone (R86). -/
theorem valueAt_idle (h : (s.ctx x).state = .idle) : valueAt x v s =
    if opensOn s v x then raiseBoth .eventOpen { s.setCtx x (contextOpened x v s) with flight := { s.flight with
      triggers := s.flight.triggers ++ [⟨x, s.det.losses⟩], openings := s.flight.openings ++ [x] } }
    else s := by
  unfold valueAt opensOn
  simp only [h, anyPast_eq, beq_self_eq_true, Bool.true_and]
  rw [show thresholds x s.det = inForce x s.det by cases x <;> rfl]
  split
  · unfold openEvent
    dsimp only
    rw [takeOpen_eq, show thresholds x s.det = inForce x s.det by cases x <;> rfl]
    rfl
  · rfl

/-- A value that neither leaves a context in IDLE nor ends its event for good (R87, R88). -/
theorem valueAt_kept (h : (s.ctx x).state ≠ .idle) (hd : dueOn s v x = false) : valueAt x v s = s.setCtx x (contextAfter x v s) := by
  unfold dueOn at hd
  unfold valueAt contextAfter
  cases hst : (s.ctx x).state with
  | idle => exact absurd hst h
  | opened =>
    simp only [hst, Bool.or_eq_false_iff, Bool.not_eq_false', Bool.and_eq_false_iff, beq_eq_false_iff_ne] at hd ⊢
    obtain ⟨hseen, hd⟩ := hd
    rw [noDetectorChannel_eq, hseen, Bool.not_true, if_neg (by decide), noteChannels_eq, openStep_eq, changeNoted_frozen]
    split
    · refine congrArg (s.setCtx x) ?_
      rw [← hst]
      rfl
    · rw [if_neg (hd.resolve_left (by assumption))]
      rfl
  | closing =>
    simp only [hst, Bool.or_eq_false_iff, Bool.not_eq_false', Bool.and_eq_false_iff, decide_eq_false_iff_not] at hd ⊢
    obtain ⟨hseen, hd⟩ := hd
    rw [noDetectorChannel_eq, hseen, Bool.not_true, if_neg (by decide), noteChannels_eq, closingStep_eq, changeNoted_frozen]
    split
    · rfl
    · rw [if_neg (show ¬ (changeNoted v (s.ctx x)).holdLeft ≤ 1 from hd.resolve_left (by assumption))]
      rfl

/-- The hold-off of a CLOSING context runs out (R88). -/
theorem valueAt_closing_due (h : (s.ctx x).state = .closing) (hseen : someSeen v (fun _ => true) = true) (hd : dueOn s v x = true) :
    valueAt x v s = fallDue x (s.setCtx x (calibrationRead s (valueNoted v (changeNoted v (s.ctx x))))) := by
  unfold dueOn at hd
  unfold valueAt
  simp only [h, hseen, Bool.not_true, Bool.false_or, Bool.and_eq_true, Bool.not_eq_true', decide_eq_true_eq] at hd ⊢
  obtain ⟨hbeyond, hleft⟩ := hd
  rw [noDetectorChannel_eq, hseen, Bool.not_true, if_neg (by decide), noteChannels_eq, closingStep_eq, changeNoted_frozen, hbeyond,
    if_neg (by decide), if_pos (show (changeNoted v (s.ctx x)).holdLeft ≤ 1 from hleft)]

/-- The end test passes in OPEN with HOLD_OFF 0 (R87). -/
theorem valueAt_opened_due (h : (s.ctx x).state = .opened) (hseen : someSeen v (fun _ => true) = true) (hd : dueOn s v x = true) :
    valueAt x v s = fallDue x (s.setCtx x { calibrationRead s (openTaken x v (changeNoted v (s.ctx x))) with
      endHc := v.number, endMs := s.survey.clock }) := by
  unfold dueOn at hd
  unfold valueAt
  simp only [h, hseen, Bool.not_true, Bool.false_or, Bool.and_eq_true, Bool.not_eq_true', beq_iff_eq] at hd ⊢
  obtain ⟨hrec, hoff⟩ := hd
  rw [noDetectorChannel_eq, hseen, Bool.not_true, if_neg (by decide), noteChannels_eq, openStep_eq, changeNoted_frozen, hrec,
    if_neg (by decide), if_pos hoff]

/-- No detector channel is left: the event is cut (R95). -/
theorem valueAt_cut (h : (s.ctx x).state ≠ .idle) (hseen : someSeen v (fun _ => true) = false) : valueAt x v s = cutEvent x s := by
  unfold valueAt
  cases hst : (s.ctx x).state with
  | idle => exact absurd hst h
  | opened => simp only [hst, noDetectorChannel_eq, hseen, Bool.not_false, if_true]
  | closing => simp only [hst, noDetectorChannel_eq, hseen, Bool.not_false, if_true]

/-- A cut event: its record falls due, with the end of a CLOSING event, or at the last value of an OPEN one, whose end survey ms is free
(notes/assumptions/13). -/
def cutContext (c : DetContext) : DetContext := { c with flags := { c.flags with cut := true, probeChange := true } }

theorem cutEvent_closing (h : (s.ctx x).state = .closing) : cutEvent x s = fallDue x (s.setCtx x (cutContext (s.ctx x))) :=
  if_neg (by rw [h]; decide)

theorem cutEvent_opened (h : (s.ctx x).state = .opened) : cutEvent x s = fallDue x ({ s with free := s.free + 1 }.setCtx x
    { cutContext (s.ctx x) with endHc := (s.ctx x).lastValue, endMs := (Config.freeMs s.free).toNat }) :=
  if_pos h

/-- An event that the value ends for good: its record falls due. -/
theorem valueAt_due (h : dueOn s v x = true) : ∃ k c, valueAt x v s = fallDue x ({ s with free := k }.setCtx x c) := by
  have hst : (s.ctx x).state ≠ .idle := fun e => by
    unfold dueOn at h
    simp [e] at h
  by_cases hseen : someSeen v (fun _ => true) = true
  · cases hc : (s.ctx x).state with
    | idle => exact absurd hc hst
    | opened => exact ⟨s.free, _, valueAt_opened_due hc hseen h⟩
    | closing => exact ⟨s.free, _, valueAt_closing_due hc hseen h⟩
  · rw [valueAt_cut hst (Bool.eq_false_iff.2 hseen)]
    cases hc : (s.ctx x).state with
    | idle => exact absurd hc hst
    | opened => exact ⟨_, _, cutEvent_opened hc⟩
    | closing => exact ⟨s.free, _, cutEvent_closing hc⟩

end Sys2Proof.Machine

/-! PROOF (O37). A half-cycle value at both contexts (R85 to R89), and HOLD_OFF_EXPIRY. -/

namespace Sys2Proof.Machine

open Sys2Proof

variable {s t u : State} {x y : DetCtx} {v : HalfValue} {c : DetContext}

/-! ### What a value at one context leaves alone -/

/-- A state but for what a value at a context may change beside that context. -/
def besideOf (s w : State) : State := { s with
  journal := w.journal, comp := w.comp, line := w.line, portA := w.portA, portB := w.portB, free := w.free
  survey := { s.survey with stopPending := w.survey.stopPending, yetToFinish := w.survey.yetToFinish }
  flight := { s.flight with
    stopNotices := w.flight.stopNotices, triggers := w.flight.triggers, openings := w.flight.openings } }

theorem appends_shape (h : Appends s u) : ∃ j k l a b sp yf sn, u = { s with
    journal := j, comp := k, line := l, portA := a, portB := b
    survey := { s.survey with stopPending := sp, yetToFinish := yf }
    flight := { s.flight with stopNotices := sn } } := ⟨_, _, _, _, _, _, _, _, h.beside.blocks⟩

theorem fallDue_beside (k : Nat) (c : DetContext) : ∃ w d,
    fallDue x ({ s with free := k }.setCtx x c) = (besideOf s w).setCtx x { figuresCleared c with pendingRecs := d } ∧
      w.flight.triggers = s.flight.triggers ∧ w.flight.openings = s.flight.openings := by
  rw [fallDue_setCtx]
  obtain ⟨u, hu, e⟩ := flushPending_eq x (dueContext x c { s with free := k })
  refine ⟨u, ((dueContext x c { s with free := k }).ctx x).pendingRecs.dropWhile settledRec, ?_⟩
  rw [e]
  obtain ⟨_, _, _, _, _, _, _, _, rfl⟩ := appends_shape hu
  cases x <;> exact ⟨rfl, rfl, rfl⟩

theorem valueAt_beside (x : DetCtx) (v : HalfValue) (s : State) : ∃ w c, valueAt x v s = (besideOf s w).setCtx x c := by
  by_cases hd : dueOn s v x = true
  · obtain ⟨k, c, e⟩ := valueAt_due hd
    obtain ⟨w, d, e', -⟩ := fallDue_beside (s := s) (x := x) k c
    exact ⟨w, _, e.trans e'⟩
  · by_cases hst : (s.ctx x).state = .idle
    · rw [valueAt_idle hst]
      split
      · exact ⟨raiseBoth .eventOpen { s with flight := { s.flight with
          triggers := s.flight.triggers ++ [⟨x, s.det.losses⟩], openings := s.flight.openings ++ [x] } }, _, rfl⟩
      · exact ⟨s, s.ctx x, (setCtx_self x s).symm⟩
    · exact ⟨s, _, valueAt_kept hst (Bool.eq_false_iff.2 hd)⟩

/-! ### What a value does at one context -/

theorem valueAt_ctx (x : DetCtx) (v : HalfValue) (s : State) :
    if dueOn s v x then ((valueAt x v s).ctx x).state = .idle ∧ ((valueAt x v s).ctx x).link = .none ∧
      ((valueAt x v s).ctx x).result = none ∧ ((valueAt x v s).ctx x).involved = ⟨false, false, false, false⟩
    else (valueAt x v s).ctx x = contextAfter x v s := by
  by_cases hd : dueOn s v x = true
  · rw [if_pos hd]
    obtain ⟨k, c, e⟩ := valueAt_due hd
    obtain ⟨w, d, e', -⟩ := fallDue_beside (s := s) (x := x) k c
    rw [e, e', State.setCtx_ctx]
    exact ⟨rfl, rfl, rfl, rfl⟩
  · rw [if_neg hd]
    by_cases hst : (s.ctx x).state = .idle
    · rw [valueAt_idle hst]
      unfold contextAfter
      simp only [hst]
      split
      · exact State.setCtx_ctx s x _
      · rfl
    · rw [valueAt_kept hst (Bool.eq_false_iff.2 hd), State.setCtx_ctx]

theorem opensOn_idle (h : opensOn s v x = true) : (s.ctx x).state = .idle := by
  unfold opensOn at h
  exact eq_of_beq (Bool.and_eq_true_iff.1 h).1

theorem dueOn_of_idle (h : (s.ctx x).state = .idle) : dueOn s v x = false := by
  unfold dueOn
  simp only [h]

theorem valueAt_flight (x : DetCtx) (v : HalfValue) (s : State) :
    (valueAt x v s).flight.triggers = s.flight.triggers ++ (if opensOn s v x then [⟨x, s.det.losses⟩] else []) ∧
      (valueAt x v s).flight.openings = s.flight.openings ++ if opensOn s v x then [x] else [] := by
  by_cases hst : (s.ctx x).state = .idle
  · rw [valueAt_idle hst]
    by_cases ho : opensOn s v x = true
    · rw [if_pos ho, if_pos ho, if_pos ho]
      exact ⟨rfl, rfl⟩
    · rw [if_neg ho, if_neg ho, if_neg ho, List.append_nil, List.append_nil]
      exact ⟨rfl, rfl⟩
  · have ho : ¬ opensOn s v x = true := fun e => hst (opensOn_idle e)
    rw [if_neg ho, if_neg ho, List.append_nil, List.append_nil]
    by_cases hd : dueOn s v x = true
    · obtain ⟨k, c, e⟩ := valueAt_due hd
      obtain ⟨w, d, e', ht, hop⟩ := fallDue_beside (s := s) (x := x) k c
      rw [e, e']
      exact ⟨ht, hop⟩
    · rw [valueAt_kept hst (Bool.eq_false_iff.2 hd)]
      exact ⟨rfl, rfl⟩

theorem flagSet_flagsRaised_eventOpen (u : PortUnit) : flagSet (flagsRaised 0x02 u) .eventOpen = true := by
  unfold flagSet flagsRaised
  dsimp only
  rw [BitVec.getLsbD_or, show (0x02 : BitVec 8).getLsbD (flagIndex .eventOpen) = true from rfl, Bool.or_true]

theorem flag_opens (h : opensOn s v x = true) (p : Port) : flagSet ((valueAt x v s).port p) .eventOpen = true := by
  rw [valueAt_idle (opensOn_idle h), if_pos h, raiseBoth_eventOpen, State.bothPorts_port]
  exact flagSet_flagsRaised_eventOpen _

theorem flag_valueAt {p : Port} {f : Flag} (h : flagSet (s.port p) f = true) : flagSet ((valueAt x v s).port p) f = true := by
  by_cases hd : dueOn s v x = true
  · obtain ⟨k, c, e⟩ := valueAt_due hd
    rw [e, fallDue_setCtx]
    obtain ⟨u, hu, e'⟩ := flushPending_eq x (dueContext x c { s with free := k })
    rw [e', State.setCtx_port]
    exact flag_appends hu (by cases p <;> exact h)
  · by_cases hst : (s.ctx x).state = .idle
    · rw [valueAt_idle hst]
      split
      · exact flag_raiseBoth (by cases p <;> exact h)
      · exact h
    · rw [valueAt_kept hst (Bool.eq_false_iff.2 hd), State.setCtx_port]
      exact h

/-! ### A value at both contexts -/

/-- What LOW's part in a value leaves for HIGH to find. -/
theorem high_after_low (v : HalfValue) (s : State) : (valueAt .low v s).ctx .high = s.ctx .high ∧
    dueOn (valueAt .low v s) v .high = dueOn s v .high ∧ opensOn (valueAt .low v s) v .high = opensOn s v .high ∧
    contextAfter .high v (valueAt .low v s) = contextAfter .high v s ∧ (valueAt .low v s).det.losses = s.det.losses := by
  obtain ⟨w, c, e⟩ := valueAt_beside .low v s
  rw [e]
  exact ⟨rfl, rfl, rfl, rfl, rfl⟩

theorem low_after_high (v : HalfValue) (s : State) : (valueAt .high v s).ctx .low = s.ctx .low := by
  obtain ⟨w, c, e⟩ := valueAt_beside .high v s
  rw [e]
  rfl

/-- The two parts in a value, LOW first (R85). -/
theorem takeValue_running (h : isRunning s) (v : HalfValue) : takeValue v s = valueAt .high v (valueAt .low v s) :=
  if_pos ((running_iff s).2 h)

theorem takeValue_outside (h : ¬ isRunning s) (v : HalfValue) : takeValue v s = s :=
  if_neg fun e => h ((running_iff s).1 e)

theorem flagsRaised_twice (m : BitVec 8) (u : PortUnit) : flagsRaised m (flagsRaised m u) = flagsRaised m u := by
  simp [flagsRaised, BitVec.or_assoc, BitVec.and_assoc]

/-- With no record due, a value changes the contexts and what an opening sends. -/
theorem valueAt_undue (h : dueOn s v x = false) : valueAt x v s = { s with
    det := (valueAt x v s).det
    flight := { s.flight with triggers := (valueAt x v s).flight.triggers, openings := (valueAt x v s).flight.openings }
    portA := if opensOn s v x then flagsRaised 0x02 s.portA else s.portA
    portB := if opensOn s v x then flagsRaised 0x02 s.portB else s.portB } := by
  by_cases hst : (s.ctx x).state = .idle
  · rw [valueAt_idle hst]
    by_cases ho : opensOn s v x = true
    · simp only [if_pos ho]
      rfl
    · simp only [if_neg ho]
  · have ho : ¬ opensOn s v x = true := fun e => hst (opensOn_idle e)
    rw [valueAt_kept hst h, if_neg ho, if_neg ho]
    rfl

theorem valueBoth_ctx (v : HalfValue) (s : State) (x : DetCtx) :
    if dueOn s v x then ((valueAt .high v (valueAt .low v s)).ctx x).state = .idle ∧
      ((valueAt .high v (valueAt .low v s)).ctx x).link = .none ∧ ((valueAt .high v (valueAt .low v s)).ctx x).result = none ∧
      ((valueAt .high v (valueAt .low v s)).ctx x).involved = ⟨false, false, false, false⟩
    else (valueAt .high v (valueAt .low v s)).ctx x = contextAfter x v s := by
  cases x with
  | low =>
    rw [low_after_high]
    exact valueAt_ctx .low v s
  | high =>
    obtain ⟨-, hdue, -, hafter, -⟩ := high_after_low v s
    have h := valueAt_ctx .high v (valueAt .low v s)
    rw [hdue, hafter] at h
    exact h

theorem valueBoth_values (v : HalfValue) (s : State) : (valueAt .high v (valueAt .low v s)).flight.values = s.flight.values := by
  obtain ⟨w, c, e⟩ := valueAt_beside .high v (valueAt .low v s)
  obtain ⟨w', c', e'⟩ := valueAt_beside .low v s
  rw [e, e']
  rfl

/-- The contexts that a value opens, as both parts send them. -/
theorem valueBoth_flight (v : HalfValue) (s : State) :
    (valueAt .high v (valueAt .low v s)).flight.openings = s.flight.openings ++ [DetCtx.low, .high].filter (opensOn s v) ∧
    (valueAt .high v (valueAt .low v s)).flight.triggers =
      s.flight.triggers ++ ([DetCtx.low, .high].filter (opensOn s v)).map fun x => ⟨x, s.det.losses⟩ := by
  obtain ⟨-, -, hopens, -, hlosses⟩ := high_after_low v s
  obtain ⟨ht, ho⟩ := valueAt_flight .high v (valueAt .low v s)
  obtain ⟨ht', ho'⟩ := valueAt_flight .low v s
  rw [ht, ho, ht', ho', hopens, hlosses, List.append_assoc, List.append_assoc, List.filter_cons, List.filter_cons, List.filter_nil]
  cases opensOn s v .low <;> cases opensOn s v .high <;> exact ⟨rfl, rfl⟩

theorem valueBoth_flag (v : HalfValue) (s : State) (h : [DetCtx.low, .high].filter (opensOn s v) ≠ []) (p : Port) :
    flagSet ((valueAt .high v (valueAt .low v s)).port p) .eventOpen = true := by
  obtain ⟨-, -, hopens, -, -⟩ := high_after_low v s
  cases hlow : opensOn s v .low with
  | true => exact flag_valueAt (flag_opens hlow p)
  | false =>
    cases hhigh : opensOn s v .high with
    | true => exact flag_opens (hopens.trans hhigh) p
    | false => rw [List.filter_cons, List.filter_cons, hlow, hhigh] at h; exact absurd rfl h

theorem valueBoth_undue (hlow : dueOn s v .low = false) (hhigh : dueOn s v .high = false) :
    valueAt .high v (valueAt .low v s) = { s with
      det := (valueAt .high v (valueAt .low v s)).det
      flight := { s.flight with
        triggers := (valueAt .high v (valueAt .low v s)).flight.triggers
        openings := (valueAt .high v (valueAt .low v s)).flight.openings }
      portA := if [DetCtx.low, .high].filter (opensOn s v) = [] then s.portA else flagsRaised 0x02 s.portA
      portB := if [DetCtx.low, .high].filter (opensOn s v) = [] then s.portB else flagsRaised 0x02 s.portB } := by
  obtain ⟨-, hdue, hopens, -, -⟩ := high_after_low v s
  have h := valueAt_undue (hdue.trans hhigh)
  have h' := valueAt_undue hlow
  generalize valueAt .high v (valueAt .low v s) = t at h ⊢
  rw [hopens] at h
  generalize valueAt .low v s = u at h h'
  rw [h, h', List.filter_cons, List.filter_cons, List.filter_nil]
  cases opensOn s v .low <;> cases opensOn s v .high
  · rfl
  · rfl
  · rfl
  · show { s with
      det := t.det, flight := { s.flight with triggers := t.flight.triggers, openings := t.flight.openings }
      portA := flagsRaised 0x02 (flagsRaised 0x02 s.portA), portB := flagsRaised 0x02 (flagsRaised 0x02 s.portB) } = _
    rw [flagsRaised_twice, flagsRaised_twice]
    rfl

/-! ### The commands (R85, R88) -/

/-- The state without the value at the front of those waiting. -/
def valueLeft (rest : List ValueMsg) (s : State) : State := { s with flight := { s.flight with values := rest } }

theorem exec_halfCycleValue {rest : List ValueMsg} (h : s.flight.values = ⟨v, s.det.losses⟩ :: rest) :
    exec .halfCycleValue s = .next (takeValue v (valueLeft rest s)) := by
  have hnext : nextValue s = some v := by
    unfold nextValue
    rw [h]
    exact if_pos rfl
  have hdrop : dropValue s = valueLeft rest s := by unfold dropValue; rw [h] <;> rfl
  show Host.Outcome.next _ = _
  rw [hnext, hdrop]

/-- The value runs out the hold-off of a CLOSING context. -/
theorem expiresOn_iff (x : DetCtx) (v : HalfValue) (s : State) : expiresOn x v (s.ctx x) = true ↔
    (s.ctx x).state = .closing ∧ dueOn s v x = true ∧ someSeen v (fun _ => true) = true := by
  unfold expiresOn dueOn
  rw [noDetectorChannel_eq, anyPast_eq, Bool.not_not]
  cases hst : (s.ctx x).state with
  | idle => simp [hst]
  | opened => simp [hst]
  | closing =>
    cases someSeen v fun _ => true
    · simp
    · simp [hst]

theorem exec_holdOffExpiry {rest : List ValueMsg} (h : s.flight.values = ⟨v, s.det.losses⟩ :: rest) :
    exec .holdOffExpiry s = if s.running && (expiresOn .low v (s.ctx .low) || expiresOn .high v (s.ctx .high)) then
      exec .halfCycleValue s else .next s := by
  have hnext : nextValue s = some v := by
    unfold nextValue
    rw [h]
    exact if_pos rfl
  show Host.Outcome.next (match nextValue s with | some v => _ | none => _) = _
  have hvalue : exec .halfCycleValue s = .next (takeValue v (dropValue s)) := by
    show Host.Outcome.next (match nextValue s with | some v => _ | none => _) = _
    rw [hnext]
  rw [hvalue, hnext]
  exact apply_ite Host.Outcome.next _ _ _

/-- Settles O37. -/
theorem valuesDriveTheContexts : Obligations.ValuesDriveTheContexts := by
  intro v rest s hv
  have hexec := exec_halfCycleValue hv
  refine ⟨fun hr => ⟨?_, ?_⟩, fun hr => ?_⟩
  · rw [hexec]
    exact congrArg Host.Outcome.next (takeValue_outside (s := valueLeft rest s) hr v)
  · rw [exec_holdOffExpiry hv, (running_false_iff s).2 hr]
    rfl
  · rw [takeValue_running (s := valueLeft rest s) hr v] at hexec
    obtain ⟨hopenings, htriggers⟩ := valueBoth_flight v (valueLeft rest s)
    refine ⟨_, hexec, valueBoth_ctx v (valueLeft rest s),
      ⟨valueBoth_values v (valueLeft rest s), hopenings, htriggers, valueBoth_flag v (valueLeft rest s),
        fun hlow hhigh => valueBoth_undue (s := valueLeft rest s) hlow hhigh⟩, ?_⟩
    intro expires
    have hexpiry := exec_holdOffExpiry hv
    rw [(running_iff s).2 hr, Bool.true_and] at hexpiry
    refine ⟨fun h => ?_, fun hlow hhigh => ?_⟩
    · refine hexpiry.trans (if_pos ?_)
      rw [Bool.or_eq_true, expiresOn_iff, expiresOn_iff]
      exact h
    · refine hexpiry.trans (if_neg ?_)
      rw [Bool.or_eq_true, expiresOn_iff, expiresOn_iff]
      exact fun h => h.elim hlow hhigh

end Sys2Proof.Machine

/-! PROOF (O38). A record that falls due joins its list; the worst channel of an event and the body of its record (R84, R90 to R92). -/

namespace Sys2Proof.Machine

open Sys2Proof

variable {s t u : State} {x y : DetCtx} {v : HalfValue} {c : DetContext}

/-! ### The worst channel (R84) -/

/-- The worst of two residuals' channels so far, after channel i. -/
def worstStep (x : DetCtx) (es : Four (Option Nat)) (best : Option (Nat × Nat)) (i : Nat) : Option (Nat × Nat) :=
  match es.get i, best with
  | some e, none => some (e, i)
  | some e, some (b, j) => if past x b e then some (e, i) else some (b, j)
  | none, best => best

theorem worstOf_eq (x : DetCtx) (es : Four (Option Nat)) : worstOf x es = ((List.range 4).foldl (worstStep x es) none).getD (0, 0) := rfl

/-- What the worst of the first n channels is: the first of them that holds the furthest extreme. -/
def worstAmong (x : DetCtx) (es : Four (Option Nat)) (n : Nat) : Option (Nat × Nat) → Prop
  | none => ∀ i < n, es.get i = none
  | some (b, j) => j < n ∧ es.get j = some b ∧ ∀ i < n, ∀ r, es.get i = some r → past x b r = false ∧ (r = b → j ≤ i)

theorem past_trans_false {a b r : Nat} (hab : past x a b = true) (har : past x a r = false) : past x b r = false ∧ r ≠ b := by
  cases x <;> simp only [past, decide_eq_true_eq, decide_eq_false_iff_not] at * <;> omega

theorem past_self (x : DetCtx) (b : Nat) : past x b b = false := by cases x <;> simp [past]

theorem worstAmong_step {es : Four (Option Nat)} {n : Nat} {best : Option (Nat × Nat)} (h : worstAmong x es n best) :
    worstAmong x es (n + 1) (worstStep x es best n) := by
  unfold worstStep
  cases he : es.get n with
  | none =>
    cases best with
    | none =>
      intro i hi
      obtain hi | rfl := Nat.lt_succ_iff_lt_or_eq.1 hi
      · exact h i hi
      · exact he
    | some bj =>
      obtain ⟨hj, hb, hall⟩ := h
      refine ⟨Nat.lt_succ_of_lt hj, hb, fun i hi r hr => ?_⟩
      obtain hi | rfl := Nat.lt_succ_iff_lt_or_eq.1 hi
      · exact hall i hi r hr
      · exact absurd (he.symm.trans hr) (by simp)
  | some e =>
    cases best with
    | none =>
      refine ⟨Nat.lt_succ_self n, he, fun i hi r hr => ?_⟩
      obtain hi | rfl := Nat.lt_succ_iff_lt_or_eq.1 hi
      · exact absurd ((h i hi).symm.trans hr) (by simp)
      · obtain rfl : e = r := Option.some.inj (he.symm.trans hr)
        exact ⟨past_self x e, fun _ => le_rfl⟩
    | some bj =>
      obtain ⟨hj, hb, hall⟩ := h
      dsimp only
      cases hp : past x bj.1 e with
      | true =>
        rw [if_pos rfl]
        refine ⟨Nat.lt_succ_self n, he, fun i hi r hr => ?_⟩
        obtain hi | rfl := Nat.lt_succ_iff_lt_or_eq.1 hi
        · obtain ⟨hpast, hne⟩ := past_trans_false hp (hall i hi r hr).1
          exact ⟨hpast, fun e => absurd e hne⟩
        · obtain rfl : e = r := Option.some.inj (he.symm.trans hr)
          exact ⟨past_self x e, fun _ => le_rfl⟩
      | false =>
        rw [if_neg (by decide)]
        refine ⟨Nat.lt_succ_of_lt hj, hb, fun i hi r hr => ?_⟩
        obtain hi | rfl := Nat.lt_succ_iff_lt_or_eq.1 hi
        · exact hall i hi r hr
        · obtain rfl : e = r := Option.some.inj (he.symm.trans hr)
          exact ⟨hp, fun _ => Nat.le_of_lt hj⟩

theorem worstAmong_range (x : DetCtx) (es : Four (Option Nat)) (n : Nat) : worstAmong x es n ((List.range n).foldl (worstStep x es) none) := by
  induction n with
  | zero => exact fun i hi => absurd hi (Nat.not_lt_zero i)
  | succ n ih =>
    rw [List.range_succ, List.foldl_append]
    exact worstAmong_step ih

theorem worstOf_among {es : Four (Option Nat)} (h : ∃ i : Fin 4, es.get i ≠ none) : worstAmong x es 4 (some (worstOf x es)) := by
  have hw := worstAmong_range x es 4
  rw [worstOf_eq]
  cases hb : (List.range 4).foldl (worstStep x es) none with
  | none =>
    rw [hb] at hw
    obtain ⟨i, hi⟩ := h
    exact absurd (hw i i.isLt) hi
  | some b =>
    rw [hb] at hw
    exact hw

/-! ### The record of an event (R84, R90 to R92) -/

theorem four_get_zip_fin {α β γ : Type} (g : α → β → γ) (f : Four α) (h : Four β) (i : Fin 4) :
    (Four.zip g f h).get i = g (f.get i) (h.get i) := by fin_cases i <;> rfl

theorem eventBody_of_context (h : ∃ i : Fin 4, c.extremes.get i ≠ none) :
    let e := eventBody (recordOf x c)
    let better := fun (a b : Nat) => match x with | .low => a < b | .high => b < a
    (e.worst < 4 ∧ c.extremes.get e.worst = some e.extreme) ∧
      ∀ i : Fin 4, ∀ r, c.extremes.get i = some r → ¬ better r e.extreme ∧ (r = e.extreme → e.worst ≤ i) := by
  intro e better
  obtain ⟨hlt, hget, hall⟩ := worstOf_among (x := x) h
  refine ⟨⟨hlt, hget⟩, fun i r hr => ?_⟩
  obtain ⟨hpast, hle⟩ := hall i i.isLt r hr
  refine ⟨?_, hle⟩
  cases x <;> exact of_decide_eq_false hpast

/-! ### A record falls due (R91) -/

/-- A value that ends the event of one context alone. -/
theorem takeValue_alone {rest : List ValueMsg} (hr : isRunning s) (hxy : x ≠ y) (hidle : (s.ctx y).state = .idle)
    (ho : opensOn s v y = false) : takeValue v (valueLeft rest s) = valueAt x v (valueLeft rest s) := by
  rw [takeValue_running (s := valueLeft rest s) hr]
  have other : valueAt y v (valueLeft rest s) = valueLeft rest s := by
    rw [valueAt_idle (s := valueLeft rest s) (x := y) hidle]
    exact if_neg (show ¬ opensOn s v y = true from Bool.eq_false_iff.1 ho)
  cases x <;> cases y
  · exact absurd rfl hxy
  · obtain ⟨hctx, -, hopens, -, -⟩ := high_after_low v (valueLeft rest s)
    rw [valueAt_idle (s := valueAt .low v (valueLeft rest s)) (hctx.symm ▸ hidle), hopens]
    exact if_neg (show ¬ opensOn s v .high = true from Bool.eq_false_iff.1 ho)
  · rw [other]
  · exact absurd rfl hxy

/-- Settles O38. -/
theorem dueRecordsJoinTheirList : Obligations.DueRecordsJoinTheirList := by
  refine ⟨fun x y v rest s hv hr hxy hidle ho hdue => ?_, fun x c h => ?_⟩
  · intro c s1
    have hexec := exec_halfCycleValue hv
    rw [takeValue_alone hr hxy hidle ho] at hexec
    refine ⟨_, hexec, fun hseen hst => ?_, fun hseen hst => ?_, fun hseen => ⟨fun hst => ?_, fun hst => ?_⟩⟩
    · rw [valueAt_closing_due (s := valueLeft rest s) hst hseen hdue]
      exact fallsDue_fallDue (s := valueLeft rest s) x _ hr.1
    · rw [valueAt_opened_due (s := valueLeft rest s) hst hseen hdue]
      exact fallsDue_fallDue (s := valueLeft rest s) x _ hr.1
    · rw [valueAt_cut (s := valueLeft rest s) (x := x) (fun e => absurd (hst.symm.trans e) (by decide)) hseen,
        cutEvent_closing (s := valueLeft rest s) hst]
      exact fallsDue_fallDue (s := valueLeft rest s) x _ hr.1
    · rw [valueAt_cut (s := valueLeft rest s) (x := x) (fun e => absurd (hst.symm.trans e) (by decide)) hseen,
        cutEvent_opened (s := valueLeft rest s) hst]
      exact ⟨_, fallsDue_fallDue (s := { valueLeft rest s with free := s.free + 1 }) x _ hr.1⟩
  · obtain ⟨hworst, hall⟩ := eventBody_of_context (x := x) h
    refine ⟨hworst, hall, by cases x <;> rfl, rfl, rfl, rfl, rfl, rfl, rfl, rfl, rfl, rfl, four_get_zip_fin _ _ _, ?_, rfl⟩
    show linkNumber c.link = _
    cases c.link <;> rfl

end Sys2Proof.Machine

/-! PROOF (O39). A source loss at the Half-Cycle Unit, the detector and the capture (R66, R96, R105). -/

namespace Sys2Proof.Machine

open Sys2Proof

variable {s t u : State} {x y : DetCtx} {v : HalfValue} {c : DetContext}

/-! ### A source loss notice at a context (R96) -/

/-- A context that is not IDLE, after a source loss notice at survey ms m. -/
def lostContext (m : Nat) (c : DetContext) : DetContext :=
  match c.state with
  | .opened => { c with flags := { c.flags with linkLost := true }, endHc := c.lastValue, endMs := m, ended := true }
  | _ => { c with flags := { c.flags with linkLost := true } }

theorem loseContext_eq (h : (s.ctx x).state ≠ .idle) : loseContext x s =
    if s.stopping then s.setCtx x (lostContext s.survey.clock (s.ctx x))
    else fallDue x (s.setCtx x (lostContext s.survey.clock (s.ctx x))) := by
  unfold loseContext lostContext
  cases hst : (s.ctx x).state with
  | idle => exact absurd hst h
  | opened => simp only [hst]
  | closing => simp only [hst]

theorem contextLost_iff (h : (s.ctx x).state ≠ .idle) : contextLost x s t ↔
    if s.survey.stopPending ≠ .none then t = s.setCtx x (lostContext s.survey.clock (s.ctx x))
    else fallsDue x (lostContext s.survey.clock (s.ctx x)) s t := by
  unfold contextLost lostContext
  cases hst : (s.ctx x).state with
  | idle => exact absurd hst h
  | opened => simp only [hst, if_neg (show ¬ CtxState.opened = .idle by decide)]
  | closing => simp only [hst, if_neg (show ¬ CtxState.closing = .idle by decide)]

theorem contextLost_loseContext (h : s.survey.stopPending ≠ .none ∨ s.survey.state = .running ∨ (s.ctx x).state = .idle) :
    contextLost x s (loseContext x s) := by
  by_cases hidle : (s.ctx x).state = .idle
  · rw [loseContext_idle hidle]
    exact (if_pos hidle).mpr rfl
  · rw [contextLost_iff hidle, loseContext_eq hidle]
    by_cases hp : s.survey.stopPending ≠ .none
    · rw [if_pos hp, if_pos ((stopping_iff s).2 hp)]
    · rw [if_neg hp, if_neg fun e => hp ((stopping_iff s).1 e)]
      exact fallsDue_fallDue x _ ((h.resolve_left hp).resolve_right hidle)

/-- LOW's part in a source loss leaves HIGH what it had. -/
theorem loseContext_low (s : State) : (loseContext .low s).ctx .high = s.ctx .high ∧
    (loseContext .low s).survey.state = s.survey.state ∧
    (s.survey.stopPending ≠ .none → (loseContext .low s).survey.stopPending = s.survey.stopPending) := by
  by_cases hidle : (s.ctx .low).state = .idle
  · rw [loseContext_idle hidle]
    exact ⟨rfl, rfl, fun _ => rfl⟩
  · rw [loseContext_eq hidle]
    by_cases hp : s.survey.stopPending ≠ .none
    · rw [if_pos ((stopping_iff s).2 hp)]
      exact ⟨rfl, rfl, fun _ => rfl⟩
    · rw [if_neg fun e => hp ((stopping_iff s).1 e)]
      obtain ⟨w, d, e, -⟩ := fallDue_beside (s := s) (x := .low) s.free (lostContext s.survey.clock (s.ctx .low))
      exact ⟨(congrArg (State.ctx · .high) e :), (congrArg (fun u : State => u.survey.state) e :), fun e => absurd e hp⟩

/-! ### The capture (R105) -/

theorem endCapture_eq (cut : Bool) (s : State) : endCapture cut s = captureEnded cut s := rfl

theorem cutCapture_eq (s : State) : cutCapture s = if s.cap.capturing then captureEnded true s else s := rfl

/-- The sets that a block waits for are those of an earlier era. -/
theorem afterLoss_all {n : Nat} {l : List SourceMsg} (h : ∀ m ∈ l, ∀ x, m = .set x → n < x.era) : l.all (afterLoss n) = true := by
  refine List.all_eq_true.2 fun m hm => ?_
  cases m with
  | set x => exact decide_eq_true (h _ hm x rfl)
  | loss => rfl

/-- Settles O39. -/
theorem sourceLossReachesEveryBlock : Obligations.SourceLossReachesEveryBlock := by
  refine ⟨fun rest s h => ?_, fun s hdue hvalues hsets hst => ?_, fun rest s h hvalues hsets htriggers => ?_⟩
  · simp only [exec, execHcuSourceLossNotice, h]
    rfl
  · have hlost : detectorLossDue s = true := by
      unfold detectorLossDue
      rw [decide_eq_true hdue, afterLoss_all hsets, Bool.true_and, Bool.true_and]
      exact List.all_eq_true.2 fun m hm => decide_eq_true (hvalues m hm)
    have hlow : contextLost .low { s with det := { s.det with losses := s.det.losses + 1 } }
        (loseContext .low { s with det := { s.det with losses := s.det.losses + 1 } }) := by
      refine contextLost_loseContext ?_
      exact hst.imp_right fun h => h.imp_right And.left
    refine ⟨_, _, hlow, ?_, congrArg Host.Outcome.next (if_pos hlost)⟩
    obtain ⟨hctx, hstate, hpending⟩ := loseContext_low { s with det := { s.det with losses := s.det.losses + 1 } }
    refine contextLost_loseContext ?_
    rw [hctx, hstate]
    exact hst.imp (fun h => (hpending h).symm ▸ h) fun h => h.imp_right And.right
  · intro s1
    have hlost : captureLossDue s = true := by
      unfold captureLossDue
      rw [afterLoss_all hsets, Bool.true_and, Bool.and_eq_true, List.all_eq_true, List.all_eq_true]
      exact ⟨fun m hm => decide_eq_true (hvalues m hm), fun m hm => decide_eq_true (htriggers m hm)⟩
    simp only [exec, execCaptureSourceLossNotice, h]
    rw [if_pos hlost]
    rfl

end Sys2Proof.Machine

/-! PROOF (O40). Probe notices, trigger answers and end notices, and the detector's report (R94, R97, R102, R107). -/

namespace Sys2Proof.Machine

open Sys2Proof

variable {s t u : State} {x y : DetCtx} {v : HalfValue} {c : DetContext}

/-! ### A block leaves those yet to finish (R5, R97) -/

theorem blockLeaves_finishBlock (leave : Blocks → Blocks) (h : s.survey.state = .running) : blockLeaves leave s (finishBlock leave s) := by
  unfold blockLeaves finishBlock
  by_cases hlast : leave s.survey.yetToFinish = ⟨false, false, false, false⟩ ∧ s.survey.stopPending ≠ .none
  · obtain ⟨hleft, hp⟩ := hlast
    have hlast : leave s.survey.yetToFinish = .empty ∧ s.stopping := ⟨hleft, (stopping_iff s).2 hp⟩
    dsimp only
    rw [if_pos ⟨hleft, hp⟩, if_pos hlast]
    refine ⟨_, exec_append_mark (m := .surveyStop _)
      (s := { s with survey := { s.survey with yetToFinish := leave s.survey.yetToFinish } }) h (hardwareBody_mark trivial), ?_⟩
    cases hsp : s.survey.stopPending <;> simp only [completeStop, State.setSurvey, hsp]
  · have hnot : ¬ (leave s.survey.yetToFinish = .empty ∧ s.stopping) := fun ⟨hleft, hp⟩ => hlast ⟨hleft, (stopping_iff s).1 hp⟩
    dsimp only
    rw [if_neg hlast, if_neg hnot]
    rfl

theorem detectorReports_reportFinished (h : s.survey.state = .running) : detectorReports s (reportFinished s) := by
  unfold detectorReports reportFinished
  have hiff : (s.det.stopTaken && detectorDone s.det) = true ↔ s.det.stopTaken = true ∧ s.det.low.state = .idle ∧
      s.det.high.state = .idle ∧ s.det.low.pendingRecs = [] ∧ s.det.high.pendingRecs = [] := by
    simp [detectorDone, and_assoc]
  by_cases hd : (s.det.stopTaken && detectorDone s.det) = true
  · rw [if_pos hd, if_pos (hiff.1 hd)]
    exact blockLeaves_finishBlock (s := { s with det := { s.det with stopTaken := false } }) leaveDetector h
  · rw [if_neg hd, if_neg fun e => hd (hiff.2 e)]

/-! ### Answers and end notices (R102, R107) -/

theorem takeFirst_append {α : Type} {p : α → Bool} {before after : List α} {m : α} (hb : ∀ y ∈ before, p y = false) (hm : p m = true) :
    takeFirst p (before ++ m :: after) = some (m, before ++ after) := by
  induction before with
  | nil => exact if_pos hm
  | cons y ys ih =>
    obtain ⟨hy, hys⟩ := List.forall_mem_cons.1 hb
    rw [List.cons_append, takeFirst, hy, if_neg (by decide), ih hys]
    rfl

theorem answerRecords_append {a : AnswerKind} {early late : List PendingRec} {r : PendingRec} (he : ∀ q ∈ early, q.link ≠ .awaiting)
    (hr : r.link = .awaiting) : answerRecords a (early ++ r :: late) =
      some (early ++ { r with link := answerLink a, flags := answerFlags a r.flags } :: late) := by
  induction early with
  | nil => exact if_pos hr
  | cons q qs ih =>
    obtain ⟨hq, hqs⟩ := List.forall_mem_cons.1 he
    rw [List.cons_append, answerRecords, if_neg hq, ih hqs]
    rfl

theorem answerRecords_none {a : AnswerKind} {l : List PendingRec} (h : ∀ q ∈ l, q.link ≠ .awaiting) : answerRecords a l = none := by
  induction l with
  | nil => rfl
  | cons q qs ih =>
    obtain ⟨hq, hqs⟩ := List.forall_mem_cons.1 h
    rw [answerRecords, if_neg hq, ih hqs]
    rfl

/-- A command that sets a context, flushes its list and lets the detector report itself finished. -/
theorem flush_then_report {i : Instr} (h : s.survey.state = .running)
    (e : exec i u = .next (reportFinished (flushPending x s))) : ∃ v t, flushed x s v ∧ detectorReports v t ∧ exec i u = .next t := by
  obtain ⟨w, hw, e'⟩ := flushPending_eq x s
  refine ⟨_, _, flushed_flushPending x h, detectorReports_reportFinished ?_, e⟩
  rw [e']
  exact hw.beside.surveyState.trans h

theorem exec_triggerAnswer {a : AnswerKind} {before after : List TriggerAnswer} (h : s.flight.answers = before ++ ⟨x, a⟩ :: after)
    (hb : ∀ m ∈ before, m.ctx ≠ x) : exec (.triggerAnswer x) s = .next (reportFinished (flushPending x
      ({ s with flight := { s.flight with answers := before ++ after } }.setCtx x (answerContext a (s.ctx x))))) := by
  have htake := takeFirst_append (p := fun m : TriggerAnswer => m.ctx == x) (m := ⟨x, a⟩) (after := after)
    (fun y hy => beq_eq_false_iff_ne.2 (hb y hy)) (beq_self_eq_true x)
  simp only [exec, execTriggerAnswer, h, htake]
  rfl

theorem exec_endNotice {n : Nat} {result : CaptureResult} {before after : List EndNotice}
    (h : s.flight.ends = before ++ ⟨x, n, result⟩ :: after) (hb : ∀ m ∈ before, m.ctx ≠ x)
    (hans : ∀ m ∈ s.flight.answers, m.ctx = x → m.answer ≠ .started n ∧ m.answer ≠ .shared n) :
    exec (.endNotice x) s = .next (reportFinished (flushPending x
      ({ s with flight := { s.flight with ends := before ++ after } }.setCtx x (endContext ⟨x, n, result⟩ (s.ctx x))))) := by
  have htake := takeFirst_append (p := fun m : EndNotice => m.ctx == x) (m := ⟨x, n, result⟩) (after := after)
    (fun y hy => beq_eq_false_iff_ne.2 (hb y hy)) (beq_self_eq_true x)
  have htaken : answersTaken x n s = true := by
    unfold answersTaken
    refine List.all_eq_true.2 fun m hm => ?_
    cases hx : m.ctx == x with
    | false => rfl
    | true =>
      obtain ⟨hstarted, hshared⟩ := hans m hm (eq_of_beq hx)
      rw [Bool.true_and, Bool.not_eq_true', beq_eq_false_iff_ne]
      cases ha : m.answer with
      | started k => exact fun e => hstarted (ha.trans (congrArg _ (Option.some.inj e)))
      | shared k => exact fun e => hshared (ha.trans (congrArg _ (Option.some.inj e)))
      | none => exact fun e => absurd e (fun h => nomatch h)
  simp only [exec, execEndNotice, h, htake, htaken, if_true]
  rfl

/-- Settles O40. -/
theorem noticesAndAnswersReachTheirEvent : Obligations.NoticesAndAnswersReachTheirEvent := by
  refine ⟨fun n rest s h => ?_, fun x a before after s h hb hr => ?_, fun x n result before after s h hb hr hans => ?_⟩
  · intro noted
    have e : ∀ c, noteProbe n c = noted c := fun c => by
      unfold noteProbe
      by_cases hc : c.state ≠ .idle ∧ (n.before = true ∨ n.after = true)
      · exact (if_pos (by simpa using hc)).trans (if_pos hc).symm
      · exact (if_neg (by simpa using hc)).trans (if_neg hc).symm
    simp only [exec, execProbeNotice, h, e]
  · intro link flags c s1
    have hexec := exec_triggerAnswer h hb
    refine ⟨fun early r late hrecs he hawait => ?_, fun hnone hst hawait => ?_⟩
    · have hctx : answerContext a c = { c with pendingRecs := early ++ { r with link := link, flags := flags r.flags } :: late } := by
        unfold answerContext
        rw [hrecs, answerRecords_append he hawait]
        cases a <;> rfl
      exact flush_then_report (s := s1.setCtx x _) hr (hctx ▸ hexec)
    · have hctx : answerContext a c = { c with link := link, flags := flags c.flags } := by
        unfold answerContext
        rw [answerRecords_none hnone]
        refine (if_pos (by simpa using ⟨hst, hawait⟩)).trans ?_
        cases a <;> rfl
      exact flush_then_report (s := s1.setCtx x _) hr (hctx ▸ hexec)
  · intro c record c1 c2
    have hexec := exec_endNotice h hb hans
    have hctx : endContext ⟨x, n, result⟩ c = c2 := by
      unfold endContext
      by_cases hc : c.state ≠ .idle ∧ c.link = .number n
      · exact (if_pos (by simpa using hc)).trans (if_pos hc).symm
      · exact (if_neg (by simpa using hc)).trans (if_neg hc).symm
    exact flush_then_report (s := { s with flight := { s.flight with ends := before ++ after } }.setCtx x c2) hr (hctx ▸ hexec)

end Sys2Proof.Machine

/-! PROOF (O45). The stop notices: each closes its block, and the last block to leave completes the stop (R5, R97, R106, R118, R127). -/

namespace Sys2Proof.Machine

open Sys2Proof

variable {s t u : State} {x : DetCtx}

/-! ### The stop notice at a context (R97) -/

theorem stopContext_opened (h : (s.ctx x).state = .opened) : stopContext x s =
    if (s.ctx x).ended then fallDue x (s.setCtx x { s.ctx x with flags := { (s.ctx x).flags with cut := true } })
    else fallDue x ({ s with free := s.free + 1 }.setCtx x { s.ctx x with
      flags := { (s.ctx x).flags with cut := true }, endHc := (s.ctx x).lastValue, endMs := (Config.freeMs s.free).toNat }) := by
  unfold stopContext
  simp only [h]
  rfl

theorem stopContext_closing (h : (s.ctx x).state = .closing) : stopContext x s = fallDue x s := by
  unfold stopContext
  simp only [h]

theorem stopContext_idle (h : (s.ctx x).state = .idle) : stopContext x s = s := by
  unfold stopContext
  simp only [h]

theorem contextStopped_stopContext (x : DetCtx) (hr : s.survey.state = .running) : contextStopped x s (stopContext x s) := by
  unfold contextStopped
  cases h : (s.ctx x).state with
  | idle => simp only [h, stopContext_idle h]
  | closing =>
    simp only [h, stopContext_closing h]
    have hdue := fallsDue_fallDue x (s.ctx x) hr
    rwa [setCtx_self] at hdue
  | opened =>
    simp only [h, stopContext_opened h]
    split
    · exact fallsDue_fallDue x _ hr
    · exact ⟨_, fallsDue_fallDue (s := { s with free := s.free + 1 }) x _ hr⟩

theorem appends_surveyState_flushPending (x : DetCtx) (s : State) : (flushPending x s).survey.state = s.survey.state := by
  obtain ⟨u, hu, e⟩ := flushPending_eq x s
  rw [e]
  exact hu.beside.surveyState

theorem surveyState_stopContext (x : DetCtx) (s : State) : (stopContext x s).survey.state = s.survey.state := by
  cases h : (s.ctx x).state with
  | idle => rw [stopContext_idle h]
  | closing => rw [stopContext_closing h]; exact appends_surveyState_flushPending x _
  | opened =>
    rw [stopContext_opened h]
    split <;> exact appends_surveyState_flushPending x _

/-! ### The stop notices -/

theorem exec_stopNoticeDetector (h : s.flight.stopNotices.detector = true) : exec .stopNoticeDetector s =
    .next (reportFinished (stopContext .high (stopContext .low { s with
      det := { s.det with stopTaken := true }
      flight := { s.flight with stopNotices := leaveDetector s.flight.stopNotices } }))) := congrArg _ (if_pos h)

theorem exec_stopNoticeCapture (h : s.flight.stopNotices.capture = true) : exec .stopNoticeCapture s =
    .next (finishBlock leaveCapture (cutCapture { s with
      cap := { s.cap with stopTaken := true }
      flight := { s.flight with stopNotices := leaveCapture s.flight.stopNotices } })) := congrArg _ (if_pos h)

theorem exec_stopNoticeAggregator (h : s.flight.stopNotices.aggregator = true) : exec .stopNoticeAggregator s =
    .next (finishBlock leaveAggregator (closeCurrent .partialStop { s with
      flight := { s.flight with stopNotices := leaveAggregator s.flight.stopNotices } })) := congrArg _ (if_pos h)

theorem exec_stopNoticeGenerator (h : s.flight.stopNotices.generator = true) : exec .stopNoticeGenerator s =
    .next (finishBlock leaveGenerator (if s.gen.running then
        stopGenerator .surveyStop { s with flight := { s.flight with stopNotices := leaveGenerator s.flight.stopNotices } }
      else { s with flight := { s.flight with stopNotices := leaveGenerator s.flight.stopNotices } })) := congrArg _ (if_pos h)

theorem closeCurrent_some {k : Nat} (cause : CloseCause) (h : s.agg.current = some k) : closeCurrent cause s = closeInterval cause k s := by
  unfold closeCurrent
  rw [h]

theorem closeCurrent_none (cause : CloseCause) (h : s.agg.current = none) : closeCurrent cause s = s := by
  unfold closeCurrent
  rw [h]

theorem surveyState_closeInterval (cause : CloseCause) (k : Nat) (s : State) : (closeInterval cause k s).survey.state = s.survey.state := by
  rw [closeInterval_eq]
  exact (appends_intervalAppended cause k s).beside.surveyState

/-- Settles O45. -/
theorem stopNoticesFinishTheBlocks : Obligations.StopNoticesFinishTheBlocks := by
  refine ⟨fun x rest s h => ?_, fun s hr hp => ?_⟩
  · simp only [exec, execEventOpeningNotice, h]
    cases s.agg.current <;> rfl
  · intro told n
    refine ⟨fun hn => ?_, fun hn => ?_, fun hn hsize => ?_, fun hn => ?_⟩
    · intro s1
      have hlow : ({ s1 with det := { s1.det with stopTaken := true } } : State).survey.state = .running := hr
      have hhigh := (surveyState_stopContext .low { s1 with det := { s1.det with stopTaken := true } }).trans hlow
      exact ⟨_, _, _, contextStopped_stopContext .low hlow, contextStopped_stopContext .high hhigh,
        detectorReports_reportFinished ((surveyState_stopContext .high _).trans hhigh), exec_stopNoticeDetector hn⟩
    · intro s1 s2
      refine ⟨_, ?_, (exec_stopNoticeCapture hn).trans (congrArg (fun u => Host.Outcome.next (finishBlock leaveCapture u)) (cutCapture_eq s2))⟩
      exact blockLeaves_finishBlock leaveCapture (by split <;> exact hr)
    · intro s1
      cases hc : s.agg.current with
      | none =>
        refine ⟨s1, _, rfl, blockLeaves_finishBlock leaveAggregator hr, (exec_stopNoticeAggregator hn).trans ?_⟩
        exact congrArg (fun u => Host.Outcome.next (finishBlock leaveAggregator u)) (closeCurrent_none (s := s1) .partialStop hc)
      | some k =>
        refine ⟨_, _, intervalClosed_closeInterval (s := s1) hr hsize .partialStop k,
          blockLeaves_finishBlock leaveAggregator ((surveyState_closeInterval ..).trans hr), (exec_stopNoticeAggregator hn).trans ?_⟩
        exact congrArg (fun u => Host.Outcome.next (finishBlock leaveAggregator u)) (closeCurrent_some (s := s1) .partialStop hc)
    · intro s1 leaves
      have hexec := exec_stopNoticeGenerator hn
      refine ⟨fun hg => ?_, fun hg hl => ?_⟩
      · rw [hg, if_neg (by decide)] at hexec
        exact ⟨_, blockLeaves_finishBlock (s := s1) leaveGenerator hr, hexec⟩
      · rw [hg, if_pos rfl] at hexec
        obtain ⟨v, hv, hstop⟩ := stopGenerator_intoHunt (s := s1) (reason := .surveyStop) hr hl
        have hstate : (stopGenerator .surveyStop s1).survey.state = .running := by
          rw [survey_stopGenerator (s := s1) fun h => hp h.2]
          exact hr
        refine ⟨v, _, hv, hstop ▸ blockLeaves_finishBlock leaveGenerator hstate, hexec⟩

end Sys2Proof.Machine

/-! PROOF (O44). The INTERVAL record of an interval: roots of the means, THD, exceedances and flags (R122 to R126). -/

namespace Sys2Proof.Machine

open Sys2Proof

variable {s : State} {a : AggregatorUnit}

/-! ### Magnitudes and THD (R123, R124) -/

/-- A sum of squares over its count is at most a full square. -/
theorem mean_le {n nc : Nat} (h : n ≤ nc * 4294836225) : n / nc ≤ 4294836225 :=
  Nat.div_le_of_le_mul h

theorem sum_mem_le (hs : AccumulatorsSound a) (c : Fin 8) {n : Nat} (h : n ∈ a.sums.get c) : n ≤ a.nc.get c * 4294836225 := by
  obtain ⟨hsums, -⟩ := hs
  obtain ⟨-, hall, -⟩ := hsums c
  exact of_decide_eq_true (List.all_eq_true.1 hall n h)

/-- The integer roots of the means, as the statement names them. -/
def meanRoots (a : AggregatorUnit) (c : Nat) : List Nat := ((a.sums.get c).take a.kept).map fun sum => Nat.sqrt (sum / a.nc.get c)

theorem channelMagnitudes_eq (hs : AccumulatorsSound a) (c : Fin 8) :
    channelMagnitudes a c = if a.mask.getLsbD c = true ∧ a.nc.get c ≠ 0 then some (meanRoots a c) else none := by
  unfold channelMagnitudes meanRoots
  refine if_congr Iff.rfl (congrArg some (List.map_congr_left fun n hn => isqrt_eq_sqrt ?_)) rfl
  exact lt_of_le_of_lt (mean_le (sum_mem_le hs c (List.mem_of_mem_take hn))) (by decide)

theorem meanRoots_le (hs : AccumulatorsSound a) (c : Fin 8) {x : Nat} (h : x ∈ meanRoots a c) : x ≤ 65535 := by
  obtain ⟨n, hn, rfl⟩ := List.mem_map.1 h
  have hmean := mean_le (sum_mem_le hs c (List.mem_of_mem_take hn))
  calc Nat.sqrt (n / a.nc.get c) ≤ Nat.sqrt 4294836225 := Nat.sqrt_le_sqrt hmean
    _ = 65535 := by rw [show 4294836225 = 65535 * 65535 from rfl, Nat.sqrt_eq]

theorem length_meanRoots (hs : AccumulatorsSound a) (c : Fin 8) : (meanRoots a c).length ≤ 50 := by
  obtain ⟨hsums, -⟩ := hs
  obtain ⟨hlen, -, -⟩ := hsums c
  rw [meanRoots, List.length_map, List.length_take, hlen]
  exact Nat.min_le_right _ _

theorem thdOf_eq {m : Option (List Nat)} (h : ∀ l, m = some l → l.length ≤ 50 ∧ ∀ x ∈ l, x ≤ 65535) : thdOf m = match (generalizing := false) m with
    | some (f :: rest) => if f = 0 then none else some (min 9999 (1000 * Nat.sqrt (rest.map fun x => x * x).sum / f))
    | _ => none := by
  obtain - | - | ⟨f, rest⟩ := m
  · rfl
  · rfl
  · obtain ⟨hlen, hle⟩ := h _ rfl
    have hsum : (rest.map fun x => x * x).sum ≤ rest.length * 4294836225 := by
      rw [← List.length_map (f := fun x => x * x)]
      refine List.sum_le_card_nsmul _ _ fun y hy => ?_
      obtain ⟨x, hx, rfl⟩ := List.mem_map.1 hy
      exact Nat.mul_le_mul (hle x (List.mem_cons_of_mem _ hx)) (hle x (List.mem_cons_of_mem _ hx))
    rw [List.length_cons] at hlen
    have hroot : isqrt (rest.map fun x => x * x).sum = Nat.sqrt (rest.map fun x => x * x).sum := isqrt_eq_sqrt (by omega)
    simp only [thdOf, hroot]

/-! ### The exceedance list (R125) -/

theorem exceedEntries_eq (a : AggregatorUnit) : exceedEntries a = (List.range 4).flatMap fun c =>
    (List.range (a.kept - 1)).filterMap fun i =>
      if (a.exceed.get c).getD i 0 = 0 then none else some (Exceedance.mk c (i + 2) ((a.exceed.get c).getD i 0)) := by
  unfold exceedEntries
  congr 1
  funext c
  rw [List.filter_map, ← List.filterMap_eq_map, ← List.filterMap_eq_filter, List.filterMap_filterMap]
  congr 1
  funext i
  show (Option.guard (fun i => (a.exceed.get c).getD i 0 != 0) i).bind
    (fun i => some (Exceedance.mk c (i + 2) ((a.exceed.get c).getD i 0))) = _
  unfold Option.guard
  by_cases h : (a.exceed.get c).getD i 0 = 0
  · rw [if_neg fun e => bne_iff_ne.1 e h, if_pos h]
    rfl
  · rw [if_pos (bne_iff_ne.2 h), if_neg h]
    rfl

/-! ### The record -/

/-- Settles O44. -/
theorem intervalRecordsFollowTheFigures : Obligations.IntervalRecordsFollowTheFigures := by
  intro cause k s hs a b n first entries
  have hentries : exceedEntries a = entries := exceedEntries_eq a
  have hmag : ∀ c : Fin 8, b.magnitudes.get c = if a.mask.getLsbD c = true ∧ a.nc.get c ≠ 0 then some (meanRoots a c) else none :=
    fun c => (eight_get_ofFn (channelMagnitudes a) c).trans (channelMagnitudes_eq hs c)
  refine ⟨⟨rfl, rfl, rfl, by cases cause <;> rfl, rfl, rfl, rfl, rfl, rfl, rfl, rfl, rfl⟩, hmag, fun c => ?_,
    congrArg (List.take 32) hentries, congrArg (fun l => (l.map Exceedance.count).sum) hentries,
    congrArg (fun l : List Exceedance => decide (32 < l.length)) hentries, rfl, rfl, beq_iff_eq, ?_, ?_⟩
  · refine (four_get_ofFn (fun c => thdOf (b.magnitudes.get c)) c).trans (thdOf_eq fun l hl => ?_)
    have hc := hmag (Fin.castLE (by decide) c)
    rw [show ((Fin.castLE (show 4 ≤ 8 by decide) c : Fin 8) : Nat) = c from rfl, hl] at hc
    split at hc
    · obtain rfl := Option.some.inj hc
      exact ⟨length_meanRoots hs (Fin.castLE (by decide) c), fun x hx => meanRoots_le hs (Fin.castLE (by decide) c) hx⟩
    · exact absurd hc (by simp)
  · show (cause == .split || decide (k * n < first)) = true ↔ _
    rw [Bool.or_eq_true, beq_iff_eq, decide_eq_true_iff]
  · show ((List.range 8).any fun c => a.mask.getLsbD c && overdue s c) = true ↔ _
    rw [List.any_eq_true]
    refine ⟨fun ⟨c, hc, h⟩ => ⟨⟨c, List.mem_range.1 hc⟩, Bool.and_eq_true_iff.1 h⟩,
      fun ⟨c, h⟩ => ⟨c, List.mem_range.2 c.isLt, Bool.and_eq_true_iff.2 h⟩⟩

end Sys2Proof.Machine

/-! PROOF (O43). A window frame: its checks, its interval, and what it adds (R109 to R113, R117 to R121). -/

namespace Sys2Proof.Machine

open Sys2Proof

variable {s t u : State} {p : Port}

/-! ### The interval of a frame (R112) -/

theorem beginInterval_eq (i : Nat) (s : State) : beginInterval (i / s.agg.length) i s =
    ({ s with agg := (intervalBegun i s.agg).1 }, (intervalBegun i s.agg).2) := rfl

theorem length_closeInterval (cause : CloseCause) (k : Nat) (s : State) : (closeInterval cause k s).agg.length = s.agg.length := by
  rw [closeInterval_agg]
  rfl

theorem intervalSettled_settleInterval (hr : s.survey.state = .running) (h : maskCount s.agg.mask * s.agg.kept ≤ 400) (i : Nat) :
    intervalSettled i s (settleInterval i s).1 (settleInterval i s).2.1 (settleInterval i s).2.2 := by
  unfold intervalSettled settleInterval
  dsimp only
  cases hc : s.agg.current with
  | none => exact ⟨rfl, rfl, rfl⟩
  | some k =>
    dsimp only
    by_cases hk : k = i / s.agg.length
    · rw [if_pos hk, if_pos hk, ← hc]
      exact ⟨rfl, rfl, rfl⟩
    · rw [if_neg hk, if_neg hk, ← hc]
      have hclosed := intervalClosed_closeInterval (s := s.setAgg (countMissing (lastAccounted .complete k s.agg + 1 -
        nextWindow s.agg (lastAccounted .complete k s.agg + 1)) s.agg)) hr h .complete k
      have hlen : _ = s.agg.length := length_closeInterval .complete k (s.setAgg (countMissing (lastAccounted .complete k s.agg + 1 -
        nextWindow s.agg (lastAccounted .complete k s.agg + 1)) s.agg))
      refine ⟨_, hclosed, ?_⟩
      have hbegun := beginInterval_eq i (closeInterval .complete k (s.setAgg (countMissing (lastAccounted .complete k s.agg + 1 -
        nextWindow s.agg (lastAccounted .complete k s.agg + 1)) s.agg)))
      rw [hlen] at hbegun
      rw [hbegun]
      exact ⟨rfl, rfl, rfl⟩

/-! ### A window (R117 to R121) -/

theorem magnitude_eq {i orders : Nat} {mask : BitVec 8} {mags : List Word} {c : Nat} (hc : c < 8) (h : Nat) :
    magnitude ⟨i, mask, orders, mags.map BitVec.toNat⟩ c h = frameMagnitude mask orders mags c h := by
  have hchannels : (maskChannels mask).filter (fun d => d < c) = (List.range c).filter fun d => mask.getLsbD d := by
    have hrange : ∀ c : Fin 9, (List.range 8).filter (fun d => decide (d < c.val)) = List.range c.val := by decide
    rw [maskChannels, List.filter_comm, hrange ⟨c, by omega⟩]
  unfold magnitude frameMagnitude
  dsimp only
  rw [hchannels, show (0 : Nat) = (0 : Word).toNat from rfl, List.getD_map]

theorem eight_ofFn_congr {α : Type} {f g : Nat → α} (h : ∀ c < 8, f c = g c) : Eight.ofFn f = Eight.ofFn g := by
  simp only [Eight.ofFn, h 0 (by decide), h 1 (by decide), h 2 (by decide), h 3 (by decide), h 4 (by decide), h 5 (by decide),
    h 6 (by decide), h 7 (by decide)]

theorem four_ofFn_congr {α : Type} {f g : Nat → α} (h : ∀ c < 8, f c = g c) : Four.ofFn f = Four.ofFn g := by
  simp only [Four.ofFn, h 0 (by decide), h 1 (by decide), h 2 (by decide), h 3 (by decide)]

theorem takeWindow_counted (i orders : Nat) (mask : BitVec 8) (mags : List Word) (s : State) :
    takeWindow ⟨i, mask, orders, mags.map BitVec.toNat⟩ s =
      ({ s with agg := windowCounted i mask orders mags s }, s.agg.exclude && eventOpen s) := by
  unfold takeWindow windowCounted
  dsimp only
  rw [show eventInProgress s = eventOpen s from rfl]
  cases s.agg.exclude && eventOpen s with
  | true => rfl
  | false =>
    simp only [Bool.false_eq_true, if_false]
    refine congrArg (fun a => (s.setAgg a, false)) ?_
    unfold aggregate
    dsimp only
    congr 1
    · refine eight_ofFn_congr fun c hc => if_congr Iff.rfl ?_ rfl
      unfold addSquares
      simp only [magnitude_eq hc]
    · refine four_ofFn_congr fun c hc => ?_
      unfold addExceed exceeds
      simp only [magnitude_eq hc, Bool.and_eq_true, bne_iff_ne, decide_eq_true_eq, and_assoc]

/-! ### A taken frame (R112, R113) -/

theorem lastOfInterval_some {a : AggregatorUnit} {k : Nat} (h : a.current = some k) (i : Nat) :
    lastOfInterval i a = decide (i = k * a.curN.getD a.length + a.curN.getD a.length - 1) := by
  unfold lastOfInterval
  rw [h]
  exact Bool.beq_eq_decide_eq ..

theorem closeInterval_keeps (cause : CloseCause) (k : Nat) (s : State) : (closeInterval cause k s).agg.mask = s.agg.mask ∧
    (closeInterval cause k s).agg.kept = s.agg.kept ∧ (closeInterval cause k s).agg.exclude = s.agg.exclude ∧
    (closeInterval cause k s).det = s.det ∧ (closeInterval cause k s).survey.state = s.survey.state := by
  rw [closeInterval_agg]
  exact ⟨rfl, rfl, rfl, (appends_intervalAppended cause k s).beside.det, surveyState_closeInterval cause k s⟩

/-- A settled interval is the one of the frame, and leaves what the frame's own figures need as it was. -/
theorem settleInterval_keeps (i : Nat) (s : State) : (settleInterval i s).1.agg.current = some (i / s.agg.length) ∧
    (settleInterval i s).1.agg.mask = s.agg.mask ∧ (settleInterval i s).1.agg.kept = s.agg.kept ∧
    (settleInterval i s).1.agg.exclude = s.agg.exclude ∧ (settleInterval i s).1.det = s.det ∧
    (settleInterval i s).1.survey.state = s.survey.state := by
  unfold settleInterval
  dsimp only
  cases hc : s.agg.current with
  | none => exact ⟨rfl, rfl, rfl, rfl, rfl, rfl⟩
  | some k =>
    dsimp only
    by_cases hk : k = i / s.agg.length
    · rw [if_pos hk]
      exact ⟨hc.trans (congrArg some hk), rfl, rfl, rfl, rfl, rfl⟩
    · rw [if_neg hk]
      obtain ⟨hmask, hkept, hexclude, hdet, hstate⟩ := closeInterval_keeps .complete k (s.setAgg
        (countMissing (lastAccounted .complete k s.agg + 1 - nextWindow s.agg (lastAccounted .complete k s.agg + 1)) s.agg))
      exact ⟨rfl, hmask, hkept, hexclude, hdet, hstate⟩

/-- A frame that passes its checks. -/
theorem exec_postFrame_of_taken {h l m n : Word} {mags : List Word} (hw : waits p .postFrame (h :: l :: m :: n :: mags) s)
    (hlen : mags.length = maskCount (m.setWidth 8) * n.toNat) : exec (.postFrame p) s = .next (
      let v : FrameValues := ⟨join32 h l, m.setWidth 8, n.toNat, mags.map BitVec.toNat⟩
      if !s.running then answered p .postFrame .noSurvey [] s
      else if n.toNat < 1 ∨ 50 < n.toNat ∨ (m.setWidth 8 : BitVec 8) = 0 then answered p .postFrame .badValue [] s
      else if !freshWindow (join32 h l) s.agg then answered p .postFrame .staleWindow (words32 (s.agg.highest.getD 0)) s
      else replied p .postFrame .ok (words32 (takeFrame v (withdrawn p s)).2.1 ++
        [word (bit (takeFrame v (withdrawn p s)).2.2.1), word (takeFrame v (withdrawn p s)).2.2.2.1,
          word (bit (takeFrame v (withdrawn p s)).2.2.2.2)]) (takeFrame v (withdrawn p s)).1) := by
  show Host.Outcome.next (takeRequest p .postFrame _ s) = _
  rw [takeRequest_of_waits _ hw]
  have hread : readFrame (h :: l :: m :: n :: mags) = some ⟨join32 h l, m.setWidth 8, n.toNat, mags.map BitVec.toNat⟩ := if_pos hlen
  have hrunning : (withdrawn p s).running = s.running := by cases p <;> rfl
  simp only [hread, respond_withdrawn, ← respond_eq_replied, withdrawn_agg, hrunning]

theorem freshWindow_false {i top : Nat} (h : s.agg.highest = some top) (hi : i ≤ top) : freshWindow i s.agg = false := by
  unfold freshWindow
  rw [h]
  exact decide_eq_false (Nat.not_lt.2 hi)

theorem freshWindow_true {i : Nat} (h : ∀ top, s.agg.highest = some top → top < i) : freshWindow i s.agg = true := by
  unfold freshWindow
  cases ht : s.agg.highest with
  | none => rfl
  | some top => exact decide_eq_true (h top ht)

/-- The window and the close of an interval that it ends (R113, R117). -/
theorem takeFrame_eq {i orders missing : Nat} {mask : BitVec 8} {mags : List Word} {split : Bool}
    (hu : settleInterval i s = (u, missing, split)) : takeFrame ⟨i, mask, orders, mags.map BitVec.toNat⟩ s =
      if i = i / s.agg.length * u.agg.curN.getD u.agg.length + u.agg.curN.getD u.agg.length - 1 then
        (closeInterval .complete (i / s.agg.length) { u with agg := windowCounted i mask orders mags u }, i / s.agg.length,
          s.agg.exclude && eventOpen s, missing, true)
      else ({ u with agg := windowCounted i mask orders mags u }, i / s.agg.length, s.agg.exclude && eventOpen s, missing, split) := by
  obtain ⟨hcurrent, -, -, hexclude, hdet, -⟩ := settleInterval_keeps i s
  rw [hu] at hcurrent hexclude hdet
  have hcounted := takeWindow_counted i orders mask mags u
  rw [show eventOpen u = eventOpen s from congrArg (fun d : DetectorUnit => d.low.state != .idle || d.high.state != .idle) hdet,
    hexclude] at hcounted
  have hkept : (windowCounted i mask orders mags u).current = u.agg.current ∧ (windowCounted i mask orders mags u).curN = u.agg.curN ∧
      (windowCounted i mask orders mags u).length = u.agg.length := by
    unfold windowCounted
    dsimp only
    split <;> exact ⟨rfl, rfl, rfl⟩
  obtain ⟨hcur, hcurN, hlen⟩ := hkept
  have hlast := lastOfInterval_some (hcur.trans hcurrent) i
  rw [hcurN, hlen] at hlast
  unfold takeFrame
  rw [hu]
  dsimp only
  rw [hcounted]
  dsimp only
  rw [hlast]
  by_cases hi : i = i / s.agg.length * u.agg.curN.getD u.agg.length + u.agg.curN.getD u.agg.length - 1
  · rw [if_pos (decide_eq_true hi), if_pos hi]
  · rw [if_neg fun e => hi (of_decide_eq_true e), if_neg hi]

theorem windowCounted_mask (i orders : Nat) (mask : BitVec 8) (mags : List Word) (s : State) :
    (windowCounted i mask orders mags s).mask = s.agg.mask ∧ (windowCounted i mask orders mags s).kept = s.agg.kept := by
  unfold windowCounted
  dsimp only
  split <;> exact ⟨rfl, rfl⟩

/-- A taken frame, in the terms of the statement. -/
theorem takeFrame_settled (i orders : Nat) (mask : BitVec 8) (mags : List Word) (hr : s.survey.state = .running)
    (hsize : maskCount s.agg.mask * s.agg.kept ≤ 400) : ∃ u t missing split closed, intervalSettled i s u missing split ∧
      (if i = i / s.agg.length * u.agg.curN.getD u.agg.length + u.agg.curN.getD u.agg.length - 1 then
        intervalClosed .complete (i / s.agg.length) { u with agg := windowCounted i mask orders mags u } t ∧ closed = true
      else t = { u with agg := windowCounted i mask orders mags u } ∧ closed = split) ∧
      takeFrame ⟨i, mask, orders, mags.map BitVec.toNat⟩ s = (t, i / s.agg.length, s.agg.exclude && eventOpen s, missing, closed) := by
  have hsettled := intervalSettled_settleInterval hr hsize i
  obtain ⟨-, hmask, hkept, -, -, hstate⟩ := settleInterval_keeps i s
  obtain ⟨⟨u, missing, split⟩, hu⟩ : ∃ r, settleInterval i s = r := ⟨_, rfl⟩
  rw [hu] at hsettled hmask hkept hstate
  have hframe := takeFrame_eq (orders := orders) (mask := mask) (mags := mags) hu
  by_cases hi : i = i / s.agg.length * u.agg.curN.getD u.agg.length + u.agg.curN.getD u.agg.length - 1
  · rw [if_pos hi] at hframe
    have hfits : maskCount (windowCounted i mask orders mags u).mask * (windowCounted i mask orders mags u).kept ≤ 400 := by
      obtain ⟨hm, hk⟩ := windowCounted_mask i orders mask mags u
      rw [hm, hk, hmask, hkept]
      exact hsize
    have hclosed := intervalClosed_closeInterval (s := { u with agg := windowCounted i mask orders mags u }) (hstate.trans hr) hfits
      .complete (i / s.agg.length)
    refine ⟨u, _, missing, split, true, hsettled, ?_, hframe⟩
    rw [if_pos hi]
    exact ⟨hclosed, rfl⟩
  · rw [if_neg hi] at hframe
    refine ⟨u, _, missing, split, split, hsettled, ?_, hframe⟩
    rw [if_neg hi]
    exact ⟨rfl, rfl⟩

theorem word_bit_eq (b : Bool) : word (bit b) = if b then 1 else 0 := by cases b <;> rfl

theorem readFrame_short {body : List Word} (h : body.length < 4) : readFrame body = none := by
  match body with
  | [] | [_] | [_, _] | [_, _, _] => rfl
  | _ :: _ :: _ :: _ :: l => exact absurd h (by simp)

theorem exec_postFrame_of_bad {body : List Word} (hw : waits p .postFrame body s) (h : readFrame body = none) :
    exec (.postFrame p) s = .next (answered p .postFrame .badRequest [] s) := by
  show Host.Outcome.next (takeRequest p .postFrame _ s) = _
  rw [takeRequest_of_waits _ hw]
  simp only [h, respond_withdrawn]

/-- Settles O43. -/
theorem framesJoinTheirInterval : Obligations.FramesJoinTheirInterval := by
  refine ⟨fun p s body hw h => exec_postFrame_of_bad hw (readFrame_short h), fun p s h l m n mags hw => ?_⟩
  intro mask i
  refine ⟨fun hlen => exec_postFrame_of_bad hw (if_neg hlen), fun hlen => ?_⟩
  have hexec := exec_postFrame_of_taken hw hlen
  dsimp only at hexec
  refine ⟨fun hr => ?_, fun hr hbad => ?_, fun hr hn1 hn50 hmask => ?_⟩
  · rw [(running_false_iff s).2 hr] at hexec
    exact hexec
  · rw [(running_iff s).2 hr, if_neg (by decide), if_pos (show n.toNat < 1 ∨ 50 < n.toNat ∨ mask = 0 by
      rw [Nat.lt_one_iff]; exact hbad)] at hexec
    exact hexec
  · rw [(running_iff s).2 hr, if_neg (by decide), if_neg (show ¬ (n.toNat < 1 ∨ 50 < n.toNat ∨ mask = 0) by
      rintro (h | h | h)
      · omega
      · omega
      · exact hmask h)] at hexec
    refine ⟨fun top htop hi => ?_, fun hfresh hsize => ?_⟩
    · rw [freshWindow_false htop hi, htop] at hexec
      exact hexec
    · have hrun : (withdrawn p s).survey.state = .running := (withdrawn_survey p s).symm ▸ hr.1
      obtain ⟨u, t, missing, split, closed, hsettled, hclosed, hframe⟩ :=
        takeFrame_settled i n.toNat mask mags hrun (by rwa [withdrawn_agg])
      rw [show eventOpen (withdrawn p s) = eventOpen s by cases p <;> rfl, withdrawn_agg] at hframe
      rw [withdrawn_agg] at hclosed
      rw [freshWindow_true hfresh, if_neg (by decide), hframe] at hexec
      dsimp only at hexec
      rw [word_bit_eq, word_bit_eq] at hexec
      exact ⟨u, t, missing, split, closed, hsettled, hclosed, hexec⟩

end Sys2Proof.Machine

/-! PROOF (O41, O42). Ring cycles, triggers and the WAVE records of a capture (R98 to R104). -/

namespace Sys2Proof.Machine

open Sys2Proof

variable {s t u : State} {x : DetCtx}

/-! ### WAVE records (R101, R103) -/

theorem waveBody_eq (c : CaptureUnit) (i : Int) (r : RingCycle) : Body.wave (waveBody c i r) = waveOf c i r := rfl

/-- A cycle of 64 samples a channel fits in a record. -/
theorem hardwareBody_wave {c : CaptureUnit} {i : Int} {r : RingCycle} (h : (r.samples.toList.all fun l => l.length == 64) = true) :
    hardwareBody (waveOf c i r) = true := by
  have hsum : (r.samples.toList.map List.length).sum = 256 := by
    simp only [Four.toList, List.all_cons, List.all_nil, Bool.and_true, Bool.and_eq_true, beq_iff_eq] at h
    obtain ⟨h0, h1, h2, h3⟩ := h
    simp only [Four.toList, List.map_cons, List.map_nil, h0, h1, h2, h3, List.sum_cons, List.sum_nil, Nat.reduceAdd]
  have hbody : bodyLen (waveOf c i r) = 524 := by
    unfold waveOf bodyLen
    dsimp only
    rw [hsum]
  unfold hardwareBody bodySlots
  rw [hbody]
  rfl

theorem exec_append_wave {i : Int} {r : RingCycle} (hr : s.survey.state = .running) (hc : s.cap.capturing = true)
    (h : (r.samples.toList.all fun l => l.length == 64) = true) :
    exec (.append (waveOf s.cap i r) r.test) s = .next (appendWave i r s) := by
  have hb := hardwareBody_wave (c := s.cap) (i := i) h
  exact congrArg Host.Outcome.next ((if_pos ⟨hr, hb⟩).trans (if_pos ⟨hc, rfl⟩))

theorem mayAppend_iff (s : State) : mayAppend s = true ↔ isRunning s ∧ s.cap.capturing = true ∧ s.cap.refused = false := by
  unfold mayAppend
  rw [Bool.and_eq_true, Bool.and_eq_true, Bool.not_eq_true', running_iff]
  tauto

theorem wavesAppended_appendPre {l : List (Int × RingCycle)} (h : ∀ q ∈ l, (q.2.samples.toList.all fun l => l.length == 64) = true) :
    wavesAppended l s (appendPre l s) := by
  induction l generalizing s with
  | nil => rfl
  | cons q rest ih =>
    obtain ⟨hq, hrest⟩ := List.forall_mem_cons.1 h
    unfold wavesAppended appendPre
    by_cases hm : mayAppend s = true
    · obtain ⟨hrun, hcap, href⟩ := (mayAppend_iff s).1 hm
      rw [if_pos ⟨hrun, hcap, href⟩, if_pos hm]
      exact ⟨_, exec_append_wave hrun.1 hcap hq, ih hrest⟩
    · rw [if_neg fun e => hm ((mayAppend_iff s).2 e), if_neg hm]

theorem preCycles_eq (p : Nat) (ring : List RingCycle) : preCycles p ring =
    (ring.drop (ring.length - p)).zipIdx.map fun q => ((q.2 : Int) - (ring.drop (ring.length - p)).length, q.1) := by
  unfold preCycles
  dsimp only
  generalize hl : ring.drop (ring.length - p) = l
  simp only [bind_pure_comp, List.map_eq_map]
  rw [List.zipIdx_eq_zip_range', List.map_zip_eq_zipWith, List.range_eq_range', List.zipWith_comm, List.zipWith_map_right]
  rfl

/-! ### Triggers (R100, R102) -/

theorem exec_trigger {era : Nat} {before after : List Trigger} (h : s.flight.triggers = before ++ ⟨x, era⟩ :: after)
    (hb : ∀ m ∈ before, m.ctx ≠ x) : exec (.trigger x) s = .next (takeTrigger x
      { s with flight := { s.flight with triggers := before ++ after } }) := by
  have htake := takeFirst_append (p := fun m : Trigger => m.ctx == x) (m := ⟨x, era⟩) (after := after)
    (fun y hy => beq_eq_false_iff_ne.2 (hb y hy)) (beq_self_eq_true x)
  simp only [exec, execTrigger, h, htake]

theorem linkedTo_eq (c : CaptureUnit) (x : DetCtx) : linkedTo c x = match x with | .low => c.linkedLow | .high => c.linkedHigh := by
  cases x <;> rfl

/-- Settles O42. -/
theorem triggersStartOrShareACapture : Obligations.TriggersStartOrShareACapture := by
  intro x era before after s hs h hb linked told
  have hexec := exec_trigger h hb
  refine ⟨fun hc hl => ?_, fun hc hl => ?_, fun hc hstop => ?_, fun hc hr ht => ?_⟩
  · refine hexec.trans (congrArg Host.Outcome.next ((if_pos hc).trans (if_pos ?_)))
    exact (linkedTo_eq s.cap x).trans hl
  · refine hexec.trans (congrArg Host.Outcome.next ((if_pos hc).trans ((if_neg ?_).trans ?_)))
    · exact Bool.eq_false_iff.1 ((linkedTo_eq s.cap x).trans hl)
    · cases x <;> rfl
  · refine hexec.trans (congrArg Host.Outcome.next ((if_neg (Bool.eq_false_iff.1 hc)).trans (if_neg ?_)))
    show ¬ (s.running && !s.cap.stopTaken) = true
    rw [Bool.and_eq_true, Bool.not_eq_true', running_iff]
    rintro ⟨hrun, hnot⟩
    exact hstop.elim (fun h => h hrun) fun h => absurd (h.symm.trans hnot) (by decide)
  · intro n cycles
    refine ⟨_, hexec.trans (congrArg Host.Outcome.next ((if_neg (Bool.eq_false_iff.1 hc)).trans (if_pos ?_))), ?_⟩
    · show (s.running && !s.cap.stopTaken) = true
      rw [ht, (running_iff s).2 hr]
      rfl
    · unfold startCapture
      dsimp only
      rw [preCycles_eq]
      refine wavesAppended_appendPre fun q hq => ?_
      obtain ⟨-, -, hring, -⟩ := hs
      obtain ⟨z, hz, rfl⟩ := List.mem_map.1 hq
      exact hring _ (List.mem_of_mem_drop (List.fst_mem_of_mem_zipIdx hz))

end Sys2Proof.Machine

/-! PROOF (O41). Sample sets at the ring, and the cycles that a capture takes (R98, R101, R104). -/

namespace Sys2Proof.Machine

open Sys2Proof

variable {s t u : State} {x : SampleSet} {rest : List SourceMsg}

theorem exec_ringSampleSet (h : s.flight.capIn = .set x :: rest) : exec .ringSampleSet s =
    .next (ringSet x { s with flight := { s.flight with capIn := rest } }) := by
  simp only [exec, execRingSampleSet, h]

theorem exec_ringCycleComplete (h : s.flight.capIn = .set x :: rest) : exec .ringCycleComplete s =
    if completesCycle s.cap.cur then exec .ringSampleSet s else .next s := by
  rw [exec_ringSampleSet h]
  simp only [exec, execRingCycleComplete, h]
  exact apply_ite ..

/-- The cycle in progress after a sample set (R98). -/
def cycleAfter (x : SampleSet) (k : CurCycle) : CurCycle where
  count := k.count + 1
  samples := ⟨if k.count % 4 = 0 then k.samples.c0 ++ [x.samples.c0] else k.samples.c0,
    if k.count % 4 = 0 then k.samples.c1 ++ [x.samples.c1] else k.samples.c1,
    if k.count % 4 = 0 then k.samples.c2 ++ [x.samples.c2] else k.samples.c2,
    if k.count % 4 = 0 then k.samples.c3 ++ [x.samples.c3] else k.samples.c3⟩
  clipped := k.clipped || [x.samples.c0, x.samples.c1, x.samples.c2, x.samples.c3].any fun v => v.natAbs == 32767
  held := k.held || x.held
  test := k.test || x.test

theorem addToCycle_eq (x : SampleSet) (k : CurCycle) : addToCycle x k = cycleAfter x k := by
  unfold addToCycle cycleAfter
  by_cases h : k.count % 4 = 0
  · simp only [if_pos h]
    rfl
  · simp only [if_neg h]
    rfl

theorem pushCycle_eq {r : RingCycle} {l : List RingCycle} (h : l.length ≤ 8) : pushCycle r l = (l ++ [r]).drop (l.length + 1 - 8) := by
  unfold pushCycle
  by_cases h8 : 8 ≤ l.length
  · rw [if_pos h8, List.drop_append_of_le_length (by omega)]
    congr 2
  · rw [if_neg h8, show l.length + 1 - 8 = 0 by omega, List.drop_zero]

theorem captureCycle_unable {n : Nat} {r : RingCycle} (h : mayAppend s = false) : captureCycle n r s = s := by
  unfold captureCycle
  split
  · rw [h]
    rfl
  · rfl

theorem captureCycle_outside {n c0 : Nat} {r : RingCycle} (h0 : s.cap.cycle0 = some c0) (h : n < c0 ∨ c0 + s.cap.q ≤ n) :
    captureCycle n r s = s := by
  unfold captureCycle
  simp only [h0]
  refine if_neg fun e => ?_
  rw [Bool.and_eq_true, Bool.and_eq_true, decide_eq_true_eq, decide_eq_true_eq] at e
  omega

/-- A cycle of the post-trigger ones is appended; the answer to the last completes the capture (R101). -/
theorem captureCycle_inside {n c0 : Nat} {r : RingCycle} (h0 : s.cap.cycle0 = some c0) (hm : mayAppend s = true) (hn : c0 ≤ n)
    (hq : n < c0 + s.cap.q) : captureCycle n r s =
      let u := appendWave ((n : Int) - c0) r s
      let u1 := { u with cap := { u.cap with postDone := u.cap.postDone + 1 } }
      if u.cap.refused then u else if n + 1 = c0 + s.cap.q then captureEnded false u1 else u1 := by
  unfold captureCycle
  simp only [h0]
  rw [hm, decide_eq_true hn, decide_eq_true (show n - c0 < s.cap.q by omega), if_pos (by decide), Int.ofNat_sub hn]
  refine if_congr Iff.rfl rfl (if_congr ?_ rfl rfl)
  omega

/-- The cycle that a sample set completes. -/
def ringCycleOf (k : CurCycle) (m : Nat) : RingCycle := ⟨k.samples, k.clipped, k.held, k.test, m⟩

/-- The state after a sample set that completes a cycle, before a capture takes the cycle. -/
def cycleRung (x : SampleSet) (rest : List SourceMsg) (s : State) : State := { s with
  cap := { s.cap with
    ring := (s.cap.ring ++ [ringCycleOf (cycleAfter x s.cap.cur) s.survey.clock]).drop (s.cap.ring.length + 1 - 8)
    cur := ⟨0, .all [], false, false, false⟩, done := s.cap.done + 1 }
  flight := { s.flight with capIn := rest } }

theorem exec_ringSampleSet_complete (h : s.flight.capIn = .set x :: rest) (hk : 255 ≤ s.cap.cur.count) (hlen : s.cap.ring.length ≤ 8) :
    exec .ringSampleSet s =
      .next (captureCycle s.cap.done (ringCycleOf (cycleAfter x s.cap.cur) s.survey.clock) (cycleRung x rest s)) := by
  rw [exec_ringSampleSet h]
  refine congrArg Host.Outcome.next ((if_pos (decide_eq_true hk)).trans ?_)
  dsimp only
  rw [addToCycle_eq]
  unfold cycleRung
  rw [← pushCycle_eq hlen]
  rfl

theorem length_cycleAfter {k : CurCycle} (hk : k.count = 255)
    (h : (k.samples.toList.all fun l => l.length == (k.count + 3) / 4) = true) (x : SampleSet) :
    ((cycleAfter x k).samples.toList.all fun l => l.length == 64) = true := by
  rw [hk] at h
  unfold cycleAfter
  dsimp only
  simp only [hk, if_neg (show ¬ 255 % 4 = 0 by decide)]
  exact h

/-- Settles O41. -/
theorem ringCyclesFeedTheCapture : Obligations.RingCyclesFeedTheCapture := by
  refine ⟨fun x rest s h hs => ?_, fun s => ⟨fun hc href => congrArg Host.Outcome.next (if_pos ?_),
    fun hn => congrArg Host.Outcome.next (if_neg ?_)⟩⟩
  · intro k kept full samples
    obtain ⟨hlen, hcount, -, hsamples⟩ := hs
    have hset := exec_ringSampleSet h
    have hcomplete := exec_ringCycleComplete h
    refine ⟨fun hk => ?_, fun hk => ?_⟩
    · have hnot : ¬ completesCycle s.cap.cur = true := fun e => Nat.not_le.2 hk (of_decide_eq_true e)
      refine ⟨hset.trans (congrArg Host.Outcome.next ((if_neg hnot).trans ?_)), hcomplete.trans (if_neg hnot)⟩
      dsimp only
      rw [addToCycle_eq]
      rfl
    · intro r s1
      have hwave := length_cycleAfter hk hsamples x
      have hexec : exec .ringSampleSet s = .next (captureCycle s.cap.done r s1) := exec_ringSampleSet_complete h (Nat.le_of_eq hk.symm) hlen
      refine ⟨hcomplete.trans (if_pos (decide_eq_true (Nat.le_of_eq hk.symm))), fun hn => ?_, fun c0 h0 hc href hr => ⟨fun hout => ?_,
        fun hle hlt => ?_⟩⟩
      · have hm : mayAppend s1 = false := by
          refine Bool.eq_false_iff.2 fun e => ?_
          obtain ⟨hrun, hcap, href⟩ := (mayAppend_iff s1).1 e
          obtain hn | hn | hn := hn
          · exact absurd (hcap.symm.trans hn) (by decide)
          · exact absurd (hn.symm.trans href) (by decide)
          · exact hn hrun
        rw [hexec, captureCycle_unable hm]
      · rw [hexec, captureCycle_outside (s := s1) h0 hout]
      · have hm : mayAppend s1 = true := (mayAppend_iff s1).2 ⟨hr, hc, href⟩
        rw [captureCycle_inside (s := s1) h0 hm hle hlt] at hexec
        exact ⟨_, exec_append_wave (s := s1) hr.1 hc hwave, hexec⟩
  · rw [hc, href]; rfl
  · rw [Bool.and_eq_true]
    exact fun ⟨hc, href⟩ => hn.elim (fun e => absurd (hc.symm.trans e) (by decide)) fun e => absurd (href.symm.trans e) (by decide)

end Sys2Proof.Machine

/-! PROOF (O52). The lines of a report's header and of EVENT and INTERVAL records, as their tables give them (R161 to R166). -/

namespace Sys2Proof.Machine

open Sys2Proof

/-! ### Renderings (R161, R162) -/

theorem ascii_append (a b : String) : ascii (a ++ b) = ascii a ++ ascii b := by simp [ascii]

theorem spaced_cons (a b : List Byte) (l : List (List Byte)) : spaced (a :: b :: l) = a ++ ascii " " ++ spaced (b :: l) := by
  rw [spaced, List.append_assoc]
  · rfl
  · exact fun h => List.cons_ne_nil _ _ h

theorem spaced_one (a : List Byte) : spaced [a] = a := rfl

theorem joined_cons (sep : String) (a b : List Byte) (l : List (List Byte)) :
    joined sep (a :: b :: l) = a ++ ascii sep ++ joined sep (b :: l) := by
  simp [joined]

theorem joined_one (sep : String) (a : List Byte) : joined sep [a] = a := by simp [joined]

theorem spaced_eq_joined (l : List (List Byte)) : spaced l = joined " " l := by
  induction l with
  | nil => rfl
  | cons a l ih =>
    cases l with
    | nil => rw [spaced_one, joined_one]
    | cons b l => rw [spaced_cons, joined_cons, ih]

theorem commas_eq_joined (l : List (List Byte)) : commas l = joined "," l := by
  induction l with
  | nil => rfl
  | cons a l ih =>
    cases l with
    | nil => rw [joined_one]; rfl
    | cons b l =>
      rw [joined_cons, ← ih, commas]
      exact fun h => List.cons_ne_nil _ _ h

/-- Fields after the first, each behind a space. -/
theorem spaced_flatMap (a : List Byte) (l : List (List Byte)) : spaced (a :: l) = a ++ l.flatMap fun b => ascii " " ++ b := by
  induction l generalizing a with
  | nil => rw [spaced_one, List.flatMap_nil, List.append_nil]
  | cons b l ih => rw [spaced_cons, ih, List.flatMap_cons, List.append_assoc, List.append_assoc]

theorem channelText_eq (c : Nat) : channelName c = channelText c := by
  match c with
  | 0 | 1 | 2 | 3 | 4 | 5 | 6 => rfl
  | n + 7 => rfl

theorem channelSet_eq (m : BitVec 8) : channelSet m = channelsText m := by
  unfold channelSet channelsText
  rw [commas_eq_joined, show channelName = channelText from funext channelText_eq]
  rfl

theorem text_indent (b : List Byte) : LineSpec.text (indent b) = below b := rfl

theorem percentSign_eq (v : Nat) : percentSign v = inPercent v ++ ascii "%" := rfl

theorem percent_eq (v : Nat) : percent v = inPercent v := rfl

theorem padLeft_eq (w : Nat) (b : List Byte) : padLeft w space b = rightAligned w b := rfl

/-! ### Header (R163) -/

theorem headerLines_eq (s : State) (j : Job) (ms : Nat) : headerLines s j ms = headerSpec s j ms := by
  unfold headerLines headerSpec formatName
  simp only [spaced_cons, spaced_one, List.append_assoc]
  cases j.full <;> rfl

/-! ### Flags (R164) -/

/-- A record's further lines as the composer takes them. -/
def indented (l : List (List Byte)) : List LineSpec := l.map fun b => LineSpec.text (indent b)

theorem indented_append (l m : List (List Byte)) : indented (l ++ m) = indented l ++ indented m := List.map_append

theorem indented_cons (b : List Byte) (l : List (List Byte)) : indented (b :: l) = below b :: indented l := rfl

theorem indented_nil : indented [] = [] := rfl

theorem flagsLine_chosen (l : List (Bool × String)) : indented (flagsLine (chosen l)) = flagsSpec (l.map Prod.swap) := by
  unfold flagsLine flagsSpec chosen
  rw [List.filter_map]
  show indented (if (l.filter Prod.fst).map (fun x => ascii x.2) = [] then [] else _) = _
  rw [show (Prod.snd ∘ Prod.swap : Bool × String → Bool) = Prod.fst from rfl]
  cases l.filter Prod.fst with
  | nil => rfl
  | cons x xs =>
    rw [List.map_cons, if_neg (List.cons_ne_nil _ _), spaced_cons, spaced_eq_joined]
    have hmap : (x.swap :: xs.map Prod.swap).map (fun x => ascii x.1) = ascii x.2 :: xs.map fun x => ascii x.2 := by
      rw [List.map_cons, List.map_map]
      rfl
    show [below (ascii "FLAGS" ++ ascii " " ++ joined " " (ascii x.2 :: xs.map fun x => ascii x.2))] =
      [below (ascii "FLAGS " ++ joined " " ((x.swap :: xs.map Prod.swap).map fun x => ascii x.1))]
    rw [hmap]
    rfl

/-! ### EVENT records (R165) -/

theorem extremeLines_eq (e : EventBody) : indented (extremeLines e) = ((List.range 4).filter e.involved.get).map fun c =>
    below (channelText c ++ ascii (match e.cls with | .swell => " MAX " | _ => " MIN ")
      ++ (inPercent ((e.extremes.get c).getD 0) ++ ascii "%")) := by
  unfold extremeLines indented
  rw [← List.filterMap_eq_map, ← List.filterMap_eq_map, ← List.filterMap_eq_filter, List.filterMap_filterMap, List.filterMap_filterMap]
  congr 1
  funext c
  cases h : e.involved.get c with
  | false => simp [Option.guard, h]
  | true =>
    have hline : indent (spaced [channelName c, if e.cls = .swell then ascii "MAX" else ascii "MIN",
        percentSign ((e.extremes.get c).getD 0)]) = ascii "    " ++ (channelText c ++ ascii (match e.cls with | .swell => " MAX " | _ => " MIN ")
          ++ (inPercent ((e.extremes.get c).getD 0) ++ ascii "%")) := by
      simp only [spaced_cons, spaced_one, channelText_eq, percentSign_eq, List.append_assoc]
      cases e.cls <;> rfl
    simp only [Option.guard, h, if_true, Option.bind_some, Function.comp, hline]
    rfl

theorem eventText_eq (full : Bool) (freq : Nat) (e : EventBody) :
    ((eventText full freq e).1, indented (eventText full freq e).2) = eventSpec full freq e := by
  have hflags : indented (flagsLine (eventCodes e.flags)) = flagsSpec [("CL", e.flags.clipped), ("CP", e.flags.capped), ("CU", e.flags.cut),
      ("LL", e.flags.linkLost), ("PC", e.flags.probeChange), ("CO", e.flags.calOverdue), ("TS", e.flags.test), ("NW", e.flags.noWave),
      ("WS", e.flags.waveShared), ("WP", e.flags.wavePartial)] := flagsLine_chosen _
  have hfirst : spaced [className e.cls, percentSign e.extreme, channelName e.worst] =
      ascii (match e.cls with | .dip => "DIP " | .intr => "INTR " | .swell => "SWELL ") ++ (inPercent e.extreme ++ ascii "%") ++ ascii " "
        ++ channelText e.worst := by
    simp only [spaced_cons, spaced_one, channelText_eq, percentSign_eq, List.append_assoc]
    cases e.cls <;> rfl
  have hduration : spaced [ascii "DUR", durationText e.duration freq, ascii "MERGES", decimal e.merges] =
      ascii "DUR " ++ decimal ((e.duration * 1000 + freq) / (2 * freq)) ++ ascii " MS MERGES " ++ decimal e.merges := by
    simp only [spaced_cons, spaced_one, durationText, List.append_assoc]
    rfl
  have hthreshold : thresholdLine e = match e.cls with
      | .swell => ascii "TS " ++ (inPercent e.frozen.limit ++ ascii "%") ++ ascii " H " ++ (inPercent e.frozen.hyst ++ ascii "%")
      | _ => ascii "TD " ++ (inPercent e.frozen.limit ++ ascii "%") ++ ascii " TI " ++ (inPercent e.frozen.intr ++ ascii "%")
        ++ ascii " H " ++ (inPercent e.frozen.hyst ++ ascii "%") := by
    unfold thresholdLine
    cases e.cls <;> simp only [spaced_cons, spaced_one, percentSign_eq, List.append_assoc] <;> rfl
  have hcycles : spaced [ascii "START HC", decimal e.startHc, ascii "END HC", decimal e.endHc] =
      ascii "START HC " ++ decimal e.startHc ++ ascii " END HC " ++ decimal e.endHc := by
    simp only [spaced_cons, spaced_one, List.append_assoc]
    rfl
  have hwave : waveLine e = match e.wave with
      | some (first, stored) => ascii "WAVEFORM " ++ decimal stored ++ ascii " CYCLES FROM #" ++ decimal first
      | none => ascii "WAVEFORM NONE" := by
    unfold waveLine
    cases e.wave with
    | none => rfl
    | some w =>
      simp only [spaced_cons, spaced_one, seqText, List.append_assoc]
      rfl
  unfold eventText eventSpec
  dsimp only
  rw [hfirst, hduration, hthreshold, hcycles, hwave, indented_append, indented_append, hflags]
  cases full with
  | false => rfl
  | true =>
    rw [if_pos rfl, if_pos rfl, indented_append, indented_append, extremeLines_eq]
    rfl

end Sys2Proof.Machine

/-! PROOF (O52). The lines of INTERVAL, SETTING and MARK records and of the footer (R166, R168 to R170). -/

namespace Sys2Proof.Machine

open Sys2Proof

/-! ### INTERVAL records (R166) -/

/-- The magnitude line of orders from o + 1 on, where there are any. -/
def ordersLine (c o : Nat) (first : String) (m : List Nat) : List LineSpec :=
  match ((m.take 15).drop o).take 5 with
  | [] => []
  | part => [below (channelText c ++ ascii (" H" ++ first) ++ part.flatMap fun v => rightAligned 6 (decimal v))]

theorem ordersLine_eq (c i : Nat) (first : String) (m : List Nat) (h : ascii "H" ++ decimalPad 2 (5 * i + 1) = ascii ("H" ++ first)) :
    indented (if ((m.take 15).drop (5 * i)).take 5 = [] then none else
      some (spaced [channelName c, ascii "H" ++ decimalPad 2 (5 * i + 1)]
        ++ (((m.take 15).drop (5 * i)).take 5).flatMap fun x => padLeft 6 space (decimal x))).toList = ordersLine c (5 * i) first m := by
  unfold ordersLine
  cases ((m.take 15).drop (5 * i)).take 5 with
  | nil => rfl
  | cons v vs =>
    rw [if_neg (List.cons_ne_nil _ _), h, spaced_cons, spaced_one, channelText_eq, ascii_append, ascii_append]
    simp only [List.append_assoc]
    rfl

theorem magnitudeLines_eq (c : Nat) (m : List Nat) :
    indented (magnitudeLines c m) = [(0, "01"), (5, "06"), (10, "11")].flatMap fun x => ordersLine c x.1 x.2 m := by
  have hflat : ∀ (f : Nat → Option (List Byte)) (l : List Nat), indented (l.filterMap f) = l.flatMap fun i => indented (f i).toList := by
    intro f l
    induction l with
    | nil => rfl
    | cons i l ih =>
      rw [List.filterMap_cons, List.flatMap_cons, ← ih]
      cases f i <;> rfl
  unfold magnitudeLines
  rw [hflat]
  simp only [List.range, List.range.loop, List.flatMap_cons, List.flatMap_nil]
  rw [ordersLine_eq c 0 "01" m rfl, ordersLine_eq c 1 "06" m rfl, ordersLine_eq c 2 "11" m rfl]

/-- A channel's THD as it prints. -/
def thdText (o : Option Nat) : List Byte := match o with | some t => inPercent t ++ ascii "%" | none => ascii "-"

/-- The two lines that begin what follows an INTERVAL's first line. -/
def intervalHead (b : IntervalBody) : List (List Byte) :=
  [spaced [ascii "N", decimal b.length, ascii "AGG", decimal b.aggregated, ascii "EXC", decimal b.excluded, ascii "MISS", decimal b.missing],
    spaced (ascii "THD" :: (List.range 4).flatMap fun c => [channelName c, thdText (b.thd.get c)])]

/-- The lines that a full report adds to an INTERVAL. -/
def intervalTail (b : IntervalBody) : List (List Byte) :=
  [spaced [ascii "OCC", ascii "1:" ++ decimal b.occupancy.one, ascii "2:" ++ decimal b.occupancy.two,
      ascii "3+:" ++ decimal b.occupancy.threePlus]]
    ++ (if b.unpowered = 0 then [] else [spaced [ascii "UNPOWERED", channelSet b.unpowered]])
    ++ (List.range 8).flatMap fun c => magnitudeLines c ((b.magnitudes.get c).getD [])

theorem intervalText_snd (full : Bool) (b : IntervalBody) : (intervalText full b).2 = intervalHead b ++ flagsLine (intervalCodes b.flags)
    ++ [spaced [ascii "EXCEEDANCES", decimal b.exceedTotal]]
    ++ (b.exceed.map fun e => spaced [channelName e.channel, ascii "H" ++ decimal e.order, decimal e.count])
    ++ if full then intervalTail b else [] := rfl

theorem indented_intervalHead (b : IntervalBody) : indented (intervalHead b) =
    [below (ascii "N " ++ decimal b.length ++ ascii " AGG " ++ decimal b.aggregated ++ ascii " EXC " ++ decimal b.excluded
      ++ ascii " MISS " ++ decimal b.missing),
    below (ascii "THD" ++ (List.range 4).flatMap fun c => ascii " " ++ channelText c ++ ascii " " ++ thdText (b.thd.get c))] := by
  have hthd : ((List.range 4).flatMap fun c => [channelName c, thdText (b.thd.get c)]).flatMap (fun f => ascii " " ++ f) =
      (List.range 4).flatMap fun c => ascii " " ++ channelText c ++ ascii " " ++ thdText (b.thd.get c) := by
    rw [List.flatMap_assoc]
    refine List.flatMap_congr fun c _ => ?_
    rw [List.flatMap_cons, List.flatMap_cons, List.flatMap_nil, List.append_nil, channelText_eq, List.append_assoc, List.append_assoc,
      List.append_assoc]
  unfold intervalHead
  rw [indented_cons, indented_cons, indented_nil, spaced_flatMap (ascii "THD"), hthd]
  simp only [spaced_cons, spaced_one, List.append_assoc]
  rfl

theorem indented_intervalTail (b : IntervalBody) : indented (intervalTail b) =
    [below (ascii "OCC 1:" ++ decimal b.occupancy.one ++ ascii " 2:" ++ decimal b.occupancy.two ++ ascii " 3+:"
      ++ decimal b.occupancy.threePlus)]
    ++ (if b.unpowered = 0 then [] else [below (ascii "UNPOWERED " ++ channelsText b.unpowered)])
    ++ (List.range 8).flatMap fun c => [(0, "01"), (5, "06"), (10, "11")].flatMap fun x =>
      ordersLine c x.1 x.2 ((b.magnitudes.get c).getD []) := by
  have hmagnitudes : indented ((List.range 8).flatMap fun c => magnitudeLines c ((b.magnitudes.get c).getD [])) =
      (List.range 8).flatMap fun c => [(0, "01"), (5, "06"), (10, "11")].flatMap fun x =>
        ordersLine c x.1 x.2 ((b.magnitudes.get c).getD []) := by
    rw [indented, List.map_flatMap]
    exact List.flatMap_congr fun c _ => magnitudeLines_eq c _
  have hunpowered : indented (if b.unpowered = 0 then [] else [spaced [ascii "UNPOWERED", channelSet b.unpowered]]) =
      if b.unpowered = 0 then [] else [below (ascii "UNPOWERED " ++ channelsText b.unpowered)] := by
    rw [channelSet_eq]
    split <;> rfl
  unfold intervalTail
  rw [indented_append, indented_append, hmagnitudes, hunpowered, indented_cons, indented_nil]
  simp only [spaced_cons, spaced_one, List.append_assoc]
  rfl

theorem intervalText_eq (full : Bool) (b : IntervalBody) :
    ((intervalText full b).1, indented (intervalText full b).2) = intervalSpec full b := by
  have hflags : indented (flagsLine (intervalCodes b.flags)) = flagsSpec [("FG", b.flags.flagged), ("PA", b.flags.partialClose),
      ("SP", b.flags.split), ("CO", b.flags.calOverdue), ("TS", b.flags.test), ("MO", b.flags.more)] := flagsLine_chosen _
  have hexceed : indented (b.exceed.map fun e => spaced [channelName e.channel, ascii "H" ++ decimal e.order, decimal e.count]) =
      b.exceed.map fun e => below (channelText e.channel ++ ascii " H" ++ decimal e.order ++ ascii " " ++ decimal e.count) := by
    rw [indented, List.map_map]
    refine List.map_congr_left fun e _ => ?_
    show below (spaced [channelName e.channel, ascii "H" ++ decimal e.order, decimal e.count]) = _
    simp only [spaced_cons, spaced_one, channelText_eq, List.append_assoc]
    rfl
  rw [intervalText_snd]
  simp only [indented_append, hflags, hexceed, indented_intervalHead]
  cases full with
  | false => rfl
  | true =>
    rw [if_pos rfl, indented_intervalTail]
    rfl

end Sys2Proof.Machine

/-! PROOF (O52). The lines of SETTING and MARK records and of the footer (R168 to R170). -/

namespace Sys2Proof.Machine

open Sys2Proof

/-! ### SETTING records (R168) -/

theorem itemName_eq (i : Item) : ascii (itemName i) = itemText i := by cases i <;> rfl

theorem named_eq (ws : List Word) (x y : String) : named ws x y = ascii (if ws.headD 0 = 0 then x else y) :=
  (apply_ite ascii _ _ _).symm

theorem toNat_eq_zero_iff (n : Word) : n.toNat = 0 ↔ n = 0 := by
  rw [← BitVec.toNat_inj]
  rfl

theorem probeKindName_eq (k : ProbeKind) : probeKindName k = probeKindText k := by cases k <;> rfl

theorem orHyphen_eq (n : Word) : (if n.toNat = 0 then ascii "-" else decimal n.toNat) = if n = 0 then ascii "-" else decimal n.toNat :=
  if_congr (toNat_eq_zero_iff n) rfl rfl

theorem probeText_eq (v : List Word) : probeText v = probeKindText ((probeKindOfCode ((v.headD 0).toNat / 256)).getD .none) ++ ascii " "
    ++ (if v.getD 1 0 = 0 then ascii "-" else decimal (v.getD 1 0).toNat)
    ++ ascii (if (v.headD 0).getLsbD 0 then " DET" else " -") ++ ascii (if (v.headD 0).getLsbD 1 then " HI " else " LO ")
    ++ if v.getD 2 0 = 0 then ascii "-" else decimal (v.getD 2 0).toNat := by
  have hhead : v.getD 0 0 = v.headD 0 := by cases v <;> rfl
  unfold probeText
  dsimp only
  rw [orHyphen_eq, orHyphen_eq, hhead, probeKindName_eq]
  simp only [spaced_cons, spaced_one, List.append_assoc]
  cases (v.headD 0).getLsbD 0 <;> cases (v.headD 0).getLsbD 1 <;> rfl

theorem valueText_eq (b : SettingBody) (v : List Word) : valueText b.item b.qualifier v = settingValueText b v := by
  unfold valueText settingValueText
  cases b.item with
  | bandEdges => exact spaced_eq_joined _
  | recordMask => exact channelSet_eq _
  | probe => exact probeText_eq v
  | limit =>
    simp only [spaced_cons, spaced_one, firstNat, percentSign_eq, List.append_assoc]
  | journalPolicy => exact named_eq ..
  | flagPolicy => exact named_eq ..
  | supply => exact named_eq ..
  | parity => exact named_eq ..
  | baud =>
    have hhead : v.getD 0 0 = v.headD 0 := by cases v <;> rfl
    dsimp only
    rw [join32, hhead, Nat.mul_comm]
  | _ => rfl

theorem settingText_eq (o : Origin) (b : SettingBody) : (settingText o b).1 = ascii "SET " ++ itemText b.item
      ++ (if b.item = .probe then ascii " " ++ channelText b.qualifier else []) ∧
    indented (settingText o b).2 =
      [below (ascii (if o = .portB then "BY PORT B" else "BY PORT A") ++ ascii (if b.clamped then " CLAMPED" else "")),
       below (ascii "FROM " ++ settingValueText b b.old), below (ascii "TO " ++ settingValueText b b.new)] := by
  refine ⟨?_, ?_⟩
  · show spaced ([ascii "SET", ascii (itemName b.item)] ++ if b.item = .probe then [channelName b.qualifier] else []) = _
    rw [itemName_eq]
    split
    · rw [List.cons_append, List.cons_append, List.nil_append, channelText_eq]
      simp only [spaced_cons, spaced_one, List.append_assoc]
      rfl
    · rw [List.append_nil, List.append_nil]
      rfl
  · show [below (spaced ([ascii "BY", portName o] ++ if b.clamped then [ascii "CLAMPED"] else [])),
      below (spaced [ascii "FROM", valueText b.item b.qualifier b.old]), below (spaced [ascii "TO", valueText b.item b.qualifier b.new])] = _
    rw [valueText_eq, valueText_eq]
    have hby : spaced ([ascii "BY", portName o] ++ if b.clamped then [ascii "CLAMPED"] else []) =
        ascii (if o = .portB then "BY PORT B" else "BY PORT A") ++ ascii (if b.clamped then " CLAMPED" else "") := by
      cases b.clamped <;> cases o <;> rfl
    rw [hby]
    rfl

/-! ### MARK records (R169) -/

theorem probeMarkLine_eq (c : Nat) (k : ProbeKind) (byEntry : Bool) : probeMarkLine c k byEntry =
    channelText c ++ ascii " " ++ probeKindText k ++ ascii (if byEntry then " ENTRY" else " SENSE") := by
  unfold probeMarkLine
  rw [channelText_eq, probeKindName_eq]
  simp only [spaced_cons, spaced_one, List.append_assoc]
  cases byEntry <;> rfl

theorem markText_fst (m : MarkBody) : (markText m).1 = ascii ("MARK " ++ (markSpec m).1) := by
  cases m with
  | surveyStop why => cases why <;> rfl
  | _ => rfl

theorem markText_snd (m : MarkBody) : (markText m).2 = (markSpec m).2 := by
  cases m with
  | surveyStart site _ _ freq present faulted enable =>
    unfold markText markSpec
    simp only [spaced_cons, spaced_one, channelSet_eq, List.append_assoc]
    cases faulted <;> cases enable <;> rfl
  | surveyStop why =>
    cases why with
    | request p => cases p <;> rfl
    | seqLimit => rfl
  | timeStep od om nd nm =>
    unfold markText markSpec
    simp only [spaced_cons, spaced_one, List.append_assoc]
    rw [show ascii "FROM " = ascii "FROM" ++ ascii " " from rfl, show ascii "TO " = ascii "TO" ++ ascii " " from rfl, List.append_assoc,
      List.append_assoc]
  | loss e w i m =>
    unfold markText markSpec
    simp only [spaced_cons, spaced_one, List.append_assoc]
    rfl
  | linkUp filler total =>
    unfold markText markSpec
    simp only [spaced_cons, spaced_one, List.append_assoc]
    cases filler <;> rfl
  | linkDown reason total instants =>
    unfold markText markSpec
    simp only [spaced_cons, spaced_one, List.append_assoc]
    cases reason <;> rfl
  | frontendOff fromLocked => cases fromLocked <;> rfl
  | selftestOn a b ka kb n _ =>
    unfold markText markSpec
    simp only [spaced_cons, spaced_one, List.append_assoc]
    rfl
  | selftestOff reason n frames =>
    unfold markText markSpec
    simp only [spaced_cons, spaced_one, List.append_assoc]
    cases reason <;> rfl
  | probeIn c k e _ => exact congrArg (fun l => [l]) (probeMarkLine_eq c k e)
  | probeOut c k e _ => exact congrArg (fun l => [l]) (probeMarkLine_eq c k e)
  | probeFault on already m =>
    unfold markText markSpec
    dsimp only
    rw [channelSet_eq]
    cases on <;> cases already <;> rfl
  | supplyRestored p on e => cases p <;> cases on <;> cases e <;> rfl

/-! ### Footer (R170) -/

theorem flatMap_if_nil {α β : Type} (p : α → Bool) (g : α → List β) (l : List α) :
    (l.flatMap fun a => if p a then [] else g a) = (l.filter fun a => !p a).flatMap g := by
  induction l with
  | nil => rfl
  | cons a l ih =>
    rw [List.flatMap_cons, ih, List.filter_cons]
    cases p a <;> rfl

theorem flatMap_eq_nil_of_cons {α β : Type} {g : α → List β} (h : ∀ a, g a ≠ []) (l : List α) : l.flatMap g = [] ↔ l = [] := by
  rw [List.flatMap_eq_nil_iff]
  refine ⟨fun hall => ?_, fun e => e ▸ fun a ha => absurd ha List.not_mem_nil⟩
  cases l with
  | nil => rfl
  | cons a l => exact absurd (hall a List.mem_cons_self) (h a)

/-- The two residency lines of a channel that has counts. -/
def channelResidency (h : HalfCycleUnit) (c : Nat) : List (List Byte) :=
  [spaced [channelName c, ascii "0-3"] ++ ((h.bandCounts.get c).take 4).flatMap fun n => shareText n (h.bandCounts.get c).sum,
    ascii "   4-7" ++ ((h.bandCounts.get c).drop 4).flatMap fun n => shareText n (h.bandCounts.get c).sum]

theorem residencyLines_eq (h : HalfCycleUnit) : ((List.range 4).flatMap fun c => residencyLines c (h.bandCounts.get c)) =
    ((List.range 4).filter fun c => (h.bandCounts.get c).any fun k => k != 0).flatMap (channelResidency h) := by
  have hany : ∀ c, (!(h.bandCounts.get c).all fun n => n == 0) = (h.bandCounts.get c).any fun k => k != 0 := fun c => by
    rw [List.not_all_eq_any_not]
    rfl
  have e := flatMap_if_nil (fun c => (h.bandCounts.get c).all fun n => n == 0) (channelResidency h) (List.range 4)
  simp only [hany] at e
  exact e

theorem footerLines_eq (h : HalfCycleUnit) (n : Nat) : footerLines h n = footerSpec h n := by
  unfold footerLines footerSpec
  dsimp only
  rw [residencyLines_eq]
  generalize (List.range 4).filter _ = counted
  have hnil := flatMap_eq_nil_of_cons (g := channelResidency h) (fun c => List.cons_ne_nil _ _) counted
  have hline : (counted.flatMap (channelResidency h)).map LineSpec.text = counted.flatMap fun c =>
      [.text (channelText c ++ ascii " 0-3"
        ++ ((h.bandCounts.get c).take 4).flatMap fun k => rightAligned 7 (inPercent (k * 1000 / (h.bandCounts.get c).sum))),
       .text (ascii "   4-7"
        ++ ((h.bandCounts.get c).drop 4).flatMap fun k => rightAligned 7 (inPercent (k * 1000 / (h.bandCounts.get c).sum)))] := by
    rw [List.map_flatMap]
    refine List.flatMap_congr fun c _ => ?_
    unfold channelResidency
    simp only [spaced_cons, spaced_one, channelText_eq, List.append_assoc]
    rfl
  rw [hline, if_congr hnil rfl rfl]
  rfl

end Sys2Proof.Machine

/-! PROOF (O52). The lines of NOTE records, the wrapped text among them, and the lines of every record (R164, R167). -/

namespace Sys2Proof.Machine

open Sys2Proof

/-! ### The last place in a range (R167) -/

theorem last_in_range {p : Nat → Bool} (n : Nat) : match ((List.range n).filter p).getLast? with
    | some i => i < n ∧ p i = true ∧ ∀ k, i < k → k < n → p k = false
    | none => ∀ k < n, p k = false := by
  induction n with
  | zero => exact fun k hk => absurd hk (Nat.not_lt_zero k)
  | succ n ih =>
    rw [List.range_succ, List.filter_append]
    by_cases hp : p n = true
    · rw [List.filter_cons_of_pos hp, List.filter_nil, List.getLast?_concat]
      exact ⟨Nat.lt_succ_self n, hp, fun k hk hn => absurd hn (by omega)⟩
    · rw [List.filter_cons_of_neg hp, List.filter_nil, List.append_nil]
      have hp := Bool.eq_false_iff.2 hp
      revert ih
      cases ((List.range n).filter p).getLast? with
      | none => exact fun ih k hk => (Nat.lt_succ_iff_lt_or_eq.1 hk).elim (ih k) fun e => e ▸ hp
      | some i =>
        exact fun ⟨hi, hpi, hall⟩ => ⟨Nat.lt_succ_of_lt hi, hpi, fun k hik hk =>
          (Nat.lt_succ_iff_lt_or_eq.1 hk).elim (hall k hik) fun e => e ▸ hp⟩

theorem space_at {b : List Byte} {k : Nat} (hk : k < b.length) :
    (decide (k ≠ 0) && b.getD k 0 == space) = true ↔ 0 < k ∧ b[k]? = some 0x20 := by
  rw [Bool.and_eq_true, decide_eq_true_iff, beq_iff_eq, List.getD_eq_getElem?_getD, List.getElem?_eq_getElem hk, Option.getD_some,
    Option.some_inj, Nat.pos_iff_ne_zero]
  rfl

theorem breakAt_some {b : List Byte} {i : Nat} (h : breakAt b = some i) : 0 < i ∧ i < b.length ∧ b[i]? = some 0x20 ∧
    ∀ k, i < k → k < b.length → b[k]? ≠ some 0x20 := by
  have hlast := last_in_range (p := fun i => decide (i ≠ 0) && b.getD i 0 == space) b.length
  rw [show ((List.range b.length).filter fun i => decide (i ≠ 0) && b.getD i 0 == space).getLast? = some i from h] at hlast
  obtain ⟨hi, hp, hall⟩ := hlast
  obtain ⟨hpos, hsp⟩ := (space_at hi).1 hp
  exact ⟨hpos, hi, hsp, fun k hik hk e => Bool.eq_false_iff.1 (hall k hik hk) ((space_at hk).2 ⟨Nat.lt_trans hpos hik, e⟩)⟩

theorem breakAt_none {b : List Byte} (h : breakAt b = none) : ∀ k, 0 < k → k < b.length → b[k]? ≠ some 0x20 := by
  have hlast := last_in_range (p := fun i => decide (i ≠ 0) && b.getD i 0 == space) b.length
  rw [show ((List.range b.length).filter fun i => decide (i ≠ 0) && b.getD i 0 == space).getLast? = none from h] at hlast
  exact fun k hpos hk e => Bool.eq_false_iff.1 (hlast k hk) ((space_at hk).2 ⟨hpos, e⟩)

theorem getElem?_take_lt {t : List Byte} {w k : Nat} (h : k < w) : (t.take w)[k]? = t[k]? := List.getElem?_take_of_lt h

/-! ### The text of a note (R167) -/

theorem wrapped_wrapText {fuel w : Nat} {t : List Byte} (hw : 0 < w) (hf : t.length < fuel) : Wrapped w t (wrapText fuel w t) := by
  induction fuel generalizing w t with
  | zero => exact absurd hf (Nat.not_lt_zero _)
  | succ fuel ih =>
    unfold wrapText
    by_cases hlen : t.length ≤ w
    · rw [if_pos hlen]
      exact .fits w t hlen
    · rw [if_neg hlen]
      have hlt := Nat.lt_of_not_le hlen
      have htake : (t.take w).length = w := List.length_take_of_le (Nat.le_of_lt hlt)
      cases hb : breakAt (t.take w) with
      | some i =>
        obtain ⟨hpos, hi, hsp, hall⟩ := breakAt_some hb
        rw [htake] at hi hall
        rw [getElem?_take_lt hi] at hsp
        refine .atSpace w i t _ hlt hpos hi hsp (fun k hik hk => ?_) (ih (by decide) ?_)
        · rw [← getElem?_take_lt hk]
          exact hall k hik hk
        · rw [List.length_drop]
          omega
      | none =>
        have hall := breakAt_none hb
        rw [htake] at hall
        refine .cut w t _ hlt (fun k hpos hk => ?_) (ih (by decide) ?_)
        · rw [← getElem?_take_lt hk]
          exact hall k hpos hk
        · rw [List.length_drop]
          omega

/-- The lines a note's text is wrapped into. -/
def wrappedText (t : List Byte) : List (List Byte) := if t = [] then [] else wrapText (t.length + 1) 48 t

theorem wrappedText_spec (t : List Byte) : if t = [] then wrappedText t = [] else Wrapped 48 t (wrappedText t) := by
  unfold wrappedText
  by_cases h : t = []
  · rw [if_pos h, if_pos h]
  · rw [if_neg h, if_neg h]
    exact wrapped_wrapText (by decide) (Nat.lt_succ_self _)

theorem noteTextLines_eq (t : List Byte) : (noteTextLines t).map LineSpec.text =
    ((wrappedText t).take 1).map LineSpec.text ++ ((wrappedText t).drop 1).map below := by
  unfold noteTextLines wrappedText
  by_cases h : t = []
  · rw [if_pos h, if_pos h]
    rfl
  · rw [if_neg h, if_neg h]
    cases wrapText (t.length + 1) 48 t with
    | nil => rfl
    | cons l rest =>
      show LineSpec.text l :: (rest.map indent).map LineSpec.text = _
      rw [List.map_map]
      rfl

theorem refLine_eq (name : String) (n tail : Nat) : LineSpec.text (indent (refLine (ascii name) n tail)) =
    below (ascii name ++ ascii " #" ++ decimal n ++ if n < tail then ascii " NO LONGER HELD" else []) := by
  unfold refLine
  rw [text_indent]
  by_cases h : n < tail
  · rw [if_pos h, if_pos h, List.cons_append, List.cons_append, List.nil_append]
    simp only [spaced_cons, spaced_one, seqText, List.append_assoc]
    rfl
  · rw [if_neg h, if_neg h, List.append_nil, List.append_nil]
    simp only [spaced_cons, spaced_one, seqText, List.append_assoc]
    rfl

theorem noteLines_spec (r : Record) (n : NoteBody) (tail : Nat) :
    noteSpec r n tail ((noteLines r.superseded tail n).map LineSpec.text) := by
  refine ⟨wrappedText n.text, wrappedText_spec n.text, ?_⟩
  unfold noteLines
  rw [List.map_append, List.map_append, List.map_append, List.map_append, noteTextLines_eq]
  have hcites : ((n.cites.map fun c => indent (refLine (ascii "CITES") c.seq tail)).map LineSpec.text) = n.cites.map fun c =>
      below (ascii "CITES" ++ ascii " #" ++ decimal c.seq ++ if c.seq < tail then ascii " NO LONGER HELD" else []) := by
    rw [List.map_map]
    exact List.map_congr_left fun c _ => refLine_eq "CITES" c.seq tail
  refine congrArg₂ (· ++ ·) (congrArg₂ (· ++ ·) (congrArg₂ (· ++ ·) (congrArg₂ (· ++ ·) rfl ?_) ?_) hcites) ?_
  · cases n.truncated <;> rfl
  · cases n.supersedes with
    | none => rfl
    | some target => exact congrArg (fun l => [l]) (refLine_eq "REPLACES" target.1 tail)
  · cases r.superseded <;> rfl

/-! ### Records (R164 to R169) -/

theorem recordLines_spec (r : Record) (full : Bool) (freq tail : Nat) : recordSpec r full freq tail (recordLines r full freq tail) := by
  unfold recordSpec recordLines lineMs
  cases r.body with
  | event e =>
    dsimp only
    rw [← eventText_eq]
    rfl
  | wave w => rfl
  | interval b =>
    dsimp only
    rw [← intervalText_eq]
    rfl
  | note n =>
    have hfields : spaced [ascii "NOTE", categoryName n.category, ascii "A" ++ decimal n.author] = ascii (match n.category with
        | .site => "NOTE SITE A" | .load => "NOTE LOAD A" | .weather => "NOTE WEATHER A" | .probe => "NOTE PROBE A" | .other => "NOTE OTHER A")
        ++ decimal n.author := by
      simp only [spaced_cons, spaced_one, List.append_assoc]
      cases n.category <;> rfl
    exact ⟨_, noteLines_spec r n tail, congrArg (fun b => LineSpec.dated r.seq n.observed b :: _) hfields⟩
  | setting b =>
    obtain ⟨hfirst, hrest⟩ := settingText_eq r.origin b
    dsimp only
    rw [← hfirst, ← hrest]
    rfl
  | mark m =>
    dsimp only
    rw [← markText_fst, ← markText_snd]
    rfl

end Sys2Proof.Machine

/-! PROOF (O52). Numbers in decimal, sequence numbers and times of day as they print (R162). -/

namespace Sys2Proof.Machine

open Sys2Proof

/-! ### Digits -/

/-- The number that digits stand for. -/
def digitsValue (b : List Byte) : Nat := b.foldl (fun v d => 10 * v + (d.toNat - 48)) 0

def isDigit (d : Byte) : Prop := 48 ≤ d.toNat ∧ d.toNat ≤ 57

theorem toNat_digit {d : Nat} (h : d < 10) : (byte (48 + d)).toNat = 48 + d := by
  rw [byte, BitVec.toNat_ofNat]
  omega

theorem isDigit_digit {d : Nat} (h : d < 10) : isDigit (byte (48 + d)) := by
  unfold isDigit
  rw [toNat_digit h]
  omega

theorem digitsFrom_succ (fuel n : Nat) :
    digitsFrom (fuel + 1) n = (if n < 10 then [] else digitsFrom fuel (n / 10)) ++ [byte (48 + n % 10)] := rfl

theorem isDigit_digitsFrom (fuel n : Nat) : ∀ d ∈ digitsFrom fuel n, isDigit d := by
  induction fuel generalizing n with
  | zero => exact fun d hd => absurd hd List.not_mem_nil
  | succ fuel ih =>
    intro d hd
    rw [digitsFrom_succ, List.mem_append, List.mem_singleton] at hd
    obtain hd | rfl := hd
    · split at hd
      · exact absurd hd List.not_mem_nil
      · exact ih _ d hd
    · exact isDigit_digit (Nat.mod_lt _ (by decide))

theorem digitsValue_concat (b : List Byte) {d : Nat} (h : d < 10) : digitsValue (b ++ [byte (48 + d)]) = 10 * digitsValue b + d := by
  unfold digitsValue
  rw [List.foldl_append, List.foldl_cons, List.foldl_nil, toNat_digit h, Nat.add_sub_cancel_left]

theorem digitsValue_digitsFrom {fuel n : Nat} (h : n < 10 ^ fuel) : digitsValue (digitsFrom fuel n) = n := by
  induction fuel generalizing n with
  | zero => exact (Nat.lt_one_iff.1 h).symm
  | succ fuel ih =>
    rw [digitsFrom_succ, digitsValue_concat _ (Nat.mod_lt _ (by decide))]
    split
    · show 10 * 0 + n % 10 = n
      omega
    · rw [ih (Nat.div_lt_of_lt_mul (by rwa [Nat.pow_succ'] at h)), Nat.div_add_mod]

/-- A number above 0 has no leading zero. -/
theorem head_digitsFrom {fuel n : Nat} (h : n < 10 ^ fuel) (hn : 0 < n) : (digitsFrom fuel n).head? ≠ some 48 := by
  induction fuel generalizing n with
  | zero => exact absurd (Nat.lt_one_iff.1 h) (Nat.ne_of_gt hn)
  | succ fuel ih =>
    rw [digitsFrom_succ]
    by_cases hlt : n < 10
    · rw [if_pos hlt, List.nil_append, List.head?_cons]
      intro e
      have hd := congrArg BitVec.toNat (Option.some.inj e)
      rw [toNat_digit (Nat.mod_lt _ (by decide)), Nat.mod_eq_of_lt hlt] at hd
      exact absurd (show 48 + n = 48 from hd) (by omega)
    · have hrest := ih (n := n / 10) (Nat.div_lt_of_lt_mul (by rwa [Nat.pow_succ'] at h)) (by omega)
      rw [if_neg hlt]
      cases hdig : digitsFrom fuel (n / 10) with
      | nil =>
        have hv := digitsValue_digitsFrom (fuel := fuel) (n := n / 10) (Nat.div_lt_of_lt_mul (by rwa [Nat.pow_succ'] at h))
        rw [hdig] at hv
        exact absurd (show 0 = n / 10 from hv) (by omega)
      | cons a l =>
        rw [hdig] at hrest
        exact hrest

theorem decimalOf_decimal {n : Nat} (h : n < 10 ^ 20) : decimalOf 1 n (decimal n) := by
  refine ⟨isDigit_digitsFrom 20 n, digitsValue_digitsFrom h, ?_, fun hhead => ?_⟩
  · show 1 ≤ (digitsFrom 20 n).length
    rw [digitsFrom_succ, List.length_append]
    exact Nat.le_add_left _ _
  · obtain rfl | hpos := Nat.eq_zero_or_pos n
    · rfl
    · exact absurd hhead (head_digitsFrom h hpos)

theorem digitsValue_zeros (k : Nat) (b : List Byte) : digitsValue (List.replicate k 48 ++ b) = digitsValue b := by
  induction k with
  | zero => rfl
  | succ k ih => exact ih

theorem decimalOf_padLeft {w n : Nat} {b : List Byte} (hw : 1 ≤ w) (h : decimalOf 1 n b) : decimalOf w n (padLeft w 48 b) := by
  obtain ⟨hdigits, hvalue, hlen, hhead⟩ := h
  unfold padLeft
  refine ⟨fun d hd => ?_, (digitsValue_zeros _ _).trans hvalue, ?_, fun e => ?_⟩
  · obtain hd | hd := List.mem_append.1 hd
    · rw [List.eq_of_mem_replicate hd]
      decide
    · exact hdigits d hd
  · rw [List.length_append, List.length_replicate]
    omega
  · rw [List.length_append, List.length_replicate]
    by_cases hb : b.length < w
    · omega
    · rw [Nat.sub_eq_zero_of_le (Nat.le_of_not_lt hb), List.replicate_zero, List.nil_append] at e
      have := hhead e
      omega

theorem decimalOf_decimalPad {w n : Nat} (hw : 1 ≤ w) (h : n < 10 ^ 20) : decimalOf w n (decimalPad w n) :=
  decimalOf_padLeft hw (decimalOf_decimal h)

/-! ### Times of day and sequence numbers -/

theorem timeSpec_timeText {n : Nat} (h : n < 10 ^ 20) : timeSpec n (timeText n) := by
  have small : ∀ {w k : Nat}, 1 ≤ w → k ≤ n → decimalOf w k (decimalPad w k) := fun hw hk => decimalOf_decimalPad hw (Nat.lt_of_le_of_lt hk h)
  refine ⟨n / 3600000, n / 60000 % 60, n / 1000 % 60, n % 1000, _, _, _, _, by omega, Nat.mod_lt _ (by decide), Nat.mod_lt _ (by decide),
    Nat.mod_lt _ (by decide), small (by decide) (Nat.div_le_self _ _), small (by decide) ?_, small (by decide) ?_,
    small (by decide) (Nat.mod_le _ _), rfl⟩
  · exact (Nat.mod_le _ _).trans (Nat.div_le_self _ _)
  · exact (Nat.mod_le _ _).trans (Nat.div_le_self _ _)

theorem seqSpec_seqText {n : Nat} (h : n < 10 ^ 20) : seqSpec n (seqText n) := ⟨_, decimalOf_decimal h, rfl⟩

end Sys2Proof.Machine

/-! PROOF (O52). Dates as they print: the calendar of a day number, by eras of 400 years counted from 1 March (R162). -/

namespace Sys2Proof.Machine

open Sys2Proof

/-! ### Years of an era -/

/-- The first day of year y of an era, counted from 1 March. -/
def yearStart (y : Nat) : Nat := 365 * y + y / 4 - y / 100 + y / 400

/-- The days of an era with one taken out for each leap day before. -/
def plainDays (doe : Nat) : Nat := doe - doe / 1460 + doe / 36524 - doe / 146096

/-- The year of an era in which a day lies. -/
def yearOfEra (doe : Nat) : Nat := plainDays doe / 365

theorem plainDays_mono {a b : Nat} (h : a ≤ b) : plainDays a ≤ plainDays b := by
  refine monotone_nat_of_le_succ (fun d => ?_) h
  unfold plainDays
  omega

theorem yearOfEra_mono {a b : Nat} (h : a ≤ b) : yearOfEra a ≤ yearOfEra b := Nat.div_le_div_right (plainDays_mono h)

theorem yearOfEra_ends : ∀ c < 4, ∀ q < 25, ∀ r < 4, yearOfEra (yearStart (100 * c + (4 * q + r))) = 100 * c + (4 * q + r) ∧
    yearOfEra (yearStart (100 * c + (4 * q + r) + 1) - 1) = 100 * c + (4 * q + r) := by decide

theorem yearOfEra_start {y : Nat} (h : y < 400) : yearOfEra (yearStart y) = y ∧ yearOfEra (yearStart (y + 1) - 1) = y := by
  have e := yearOfEra_ends (y / 100) (by omega) (y % 100 / 4) (by omega) (y % 4) (by omega)
  rwa [show 100 * (y / 100) + (4 * (y % 100 / 4) + y % 4) = y by omega] at e

theorem yearStart_mono {a b : Nat} (h : a ≤ b) : yearStart a ≤ yearStart b := by
  refine monotone_nat_of_le_succ (fun y => ?_) h
  unfold yearStart
  omega

/-- A day of an era lies in its year. -/
theorem yearOfEra_bounds {doe : Nat} (h : doe < 146097) : yearOfEra doe < 400 ∧ yearStart (yearOfEra doe) ≤ doe ∧
    doe < yearStart (yearOfEra doe + 1) := by
  have hlt : yearOfEra doe < 400 := by
    have := yearOfEra_mono (show doe ≤ 146096 by omega)
    have hlast : yearOfEra 146096 = 399 := by decide
    omega
  refine ⟨hlt, ?_, ?_⟩
  · by_contra hc
    obtain hzero | hpos := Nat.eq_zero_or_pos (yearOfEra doe)
    · rw [hzero] at hc
      exact hc (Nat.zero_le _)
    · have hprev := (yearOfEra_start (y := yearOfEra doe - 1) (by omega)).2
      rw [Nat.sub_add_cancel hpos] at hprev
      have := yearOfEra_mono (show doe ≤ yearStart (yearOfEra doe) - 1 by omega)
      omega
  · by_contra hc
    by_cases hnext : yearOfEra doe + 1 < 400
    · have := yearOfEra_mono (Nat.le_of_not_lt hc)
      rw [(yearOfEra_start hnext).1] at this
      omega
    · rw [show yearOfEra doe + 1 = 400 by omega] at hc
      exact hc (show doe < 146097 from h)

theorem yearStart_era (y era : Nat) : yearStart (y + 400 * era) = yearStart y + 146097 * era := by
  unfold yearStart
  omega

theorem leapYear_iff (y : Nat) : leapYear y = true ↔ 4 ∣ y ∧ (¬ 100 ∣ y ∨ 400 ∣ y) := by
  simp [leapYear, Nat.dvd_iff_mod_eq_zero]

/-- The leap days of the Gregorian calendar: every fourth year has one, but not every hundredth, but every four hundredth. -/
theorem leap_balance (y : Nat) : (if leapYear y then 1 else 0) + (if 100 ∣ y then 1 else 0) =
    (if 4 ∣ y then 1 else 0) + if 400 ∣ y then 1 else 0 := by
  have h400 : 400 ∣ y → 100 ∣ y := (dvd_trans (by decide) ·)
  have h100 : 100 ∣ y → 4 ∣ y := (dvd_trans (by decide) ·)
  rw [if_congr (leapYear_iff y) rfl rfl]
  by_cases c : 400 ∣ y
  · simp [c, h400 c, h100 (h400 c)]
  · by_cases b : 100 ∣ y
    · simp [c, b, h100 b]
    · by_cases a : 4 ∣ y <;> simp [c, b, a]

/-- A year has a day more when its last February is a leap year's. -/
theorem yearStart_succ (y : Nat) : yearStart (y + 1) = yearStart y + (365 + if leapYear (y + 1) then 1 else 0) := by
  have hbalance := leap_balance (y + 1)
  unfold yearStart
  have hone : (if 100 ∣ y + 1 then 1 else 0) ≤ 1 := by split <;> decide
  rw [Nat.succ_div, Nat.succ_div, Nat.succ_div]
  omega

/-! ### Months of a year -/

theorem daysInMonth_eq (y : Nat) : daysInMonth y = fun m =>
    [31, if leapYear y then 29 else 28, 31, 30, 31, 30, 31, 31, 30, 31, 30, 31].getD (m - 1) 0 := rfl

/-- The days before month k + 3 of a year. -/
theorem sum_months (y : Nat) {k : Nat} (hk : k < 10) : ((List.range' 1 (k + 2)).map (daysInMonth y)).sum =
    (153 * k + 2) / 5 + 59 + if leapYear y then 1 else 0 := by
  rw [daysInMonth_eq]
  generalize leapYear y = b
  cases b <;> interval_cases k <;> rfl

/-- The days of month k + 3 of a year. -/
theorem daysInMonth_late (y : Nat) {k : Nat} (hk : k < 10) : daysInMonth y (k + 3) = (153 * (k + 1) + 2) / 5 - (153 * k + 2) / 5 := by
  interval_cases k <;> rfl

/-- The days of the years before a year from 2000 on, as the number of a date counts them, and of its January and February. -/
theorem days_before_march (n : Nat) : 365 * n + (n + 3) / 4 - (n + 99) / 100 + (n + 399) / 400 +
    (59 + if leapYear (n + 2000) then 1 else 0) + 730425 = yearStart (n + 2000) := by
  have hbalance := leap_balance (n + 2000)
  have h4 : (n + 3) / 4 + (if 4 ∣ n + 2000 then 1 else 0) = n / 4 + 1 := by split <;> omega
  have h100 : (n + 99) / 100 + (if 100 ∣ n + 2000 then 1 else 0) = n / 100 + 1 := by split <;> omega
  have h400 : (n + 399) / 400 + (if 400 ∣ n + 2000 then 1 else 0) = n / 400 + 1 := by split <;> omega
  have hstart : yearStart (n + 2000) = 365 * n + 730485 + n / 4 - n / 100 + n / 400 := by
    unfold yearStart
    rw [show (n + 2000) / 4 = n / 4 + 500 by omega, show (n + 2000) / 100 = n / 100 + 20 by omega,
      show (n + 2000) / 400 = n / 400 + 5 by omega]
    have : n / 100 ≤ n := Nat.div_le_self _ _
    omega
  rw [hstart]
  omega

theorem days_before_january (n : Nat) : 365 * n + (n + 3) / 4 - (n + 99) / 100 + (n + 399) / 400 + 730425 =
    yearStart (n + 1999) + 306 := by
  unfold yearStart
  omega

/-- The month of a year that begins in March, and its days before. -/
theorem month_bounds {doy : Nat} (h : doy < 366) : (5 * doy + 2) / 153 < 12 ∧ (153 * ((5 * doy + 2) / 153) + 2) / 5 ≤ doy ∧
    doy < (153 * ((5 * doy + 2) / 153 + 1) + 2) / 5 := by omega

/-- A date is a date of the calendar, and has a day's number. -/
def isDate (y m d day : Nat) : Prop :=
  2000 ≤ y ∧ 1 ≤ m ∧ m ≤ 12 ∧ 1 ≤ d ∧ d ≤ daysInMonth y m ∧ dayNumber y m d = day

/-- A day from March to December. -/
theorem isDate_late {G doy day k : Nat} (hday : day + 730425 = yearStart G + doy) (hk : k < 10) (hle : (153 * k + 2) / 5 ≤ doy)
    (hlt : doy < (153 * (k + 1) + 2) / 5) : isDate G (k + 3) (doy - (153 * k + 2) / 5 + 1) day := by
  have hG : 2000 ≤ G := by
    by_contra hc
    have hstart := yearStart_mono (show G ≤ 1999 by omega)
    rw [show yearStart 1999 = 730119 from rfl] at hstart
    omega
  obtain ⟨n, rfl⟩ := Nat.exists_eq_add_of_le' hG
  refine ⟨hG, by omega, by omega, by omega, ?_, ?_⟩
  · rw [daysInMonth_late _ hk]
    omega
  · have hdays := days_before_march n
    unfold dayNumber
    dsimp only
    rw [Nat.add_sub_cancel, show k + 3 - 1 = k + 2 from rfl, sum_months _ hk]
    omega

/-- A day of January or February. -/
theorem isDate_early {G doy day : Nat} (hday : day + 730425 = yearStart G + doy)
    (hdoy : doy < 365 + if leapYear (G + 1) then 1 else 0) (hle : 306 ≤ doy) :
    (doy < 337 → isDate (G + 1) 1 (doy - 306 + 1) day) ∧ (337 ≤ doy → isDate (G + 1) 2 (doy - 337 + 1) day) := by
  have hG : 1999 ≤ G := by
    by_contra hc
    have hstart := yearStart_mono (show G + 1 ≤ 1999 by omega)
    rw [yearStart_succ, show yearStart 1999 = 730119 from rfl] at hstart
    omega
  obtain ⟨n, rfl⟩ := Nat.exists_eq_add_of_le' hG
  have hdays := days_before_january n
  refine ⟨fun hlt => ⟨by omega, by decide, by decide, by omega, ?_, ?_⟩, fun hge => ⟨by omega, by decide, by decide, by omega, ?_, ?_⟩⟩
  · rw [daysInMonth_eq]
    show doy - 306 + 1 ≤ 31
    omega
  · unfold dayNumber
    dsimp only
    rw [show n + 1999 + 1 - 2000 = n by omega, show ((List.range' 1 (1 - 1)).map (daysInMonth (n + 1999 + 1))).sum = 0 from rfl]
    omega
  · rw [daysInMonth_eq]
    show doy - 337 + 1 ≤ if leapYear (n + 1999 + 1) then 29 else 28
    split at hdoy
    · rename_i hleap
      rw [if_pos hleap]
      omega
    · rename_i hleap
      rw [if_neg hleap]
      omega
  · unfold dayNumber
    dsimp only
    rw [show n + 1999 + 1 - 2000 = n by omega, show ((List.range' 1 (2 - 1)).map (daysInMonth (n + 1999 + 1))).sum = 31 from rfl]
    omega

/-- The calendar of a day number (R162). -/
theorem calendar_spec (day : Nat) : isDate (calendar day).1 (calendar day).2.1 (calendar day).2.2 day := by
  have hdoe : (day + 730425) % 146097 < 146097 := Nat.mod_lt _ (by decide)
  have hera := Nat.div_add_mod (day + 730425) 146097
  obtain ⟨hyoe, hstart, hnext⟩ := yearOfEra_bounds hdoe
  unfold calendar
  dsimp only
  generalize (day + 730425) / 146097 = era at *
  generalize (day + 730425) % 146097 = doe at *
  rw [show (doe - doe / 1460 + doe / 36524 - doe / 146096) / 365 = yearOfEra doe from rfl]
  generalize yearOfEra doe = yoe at *
  have hplain : 365 * yoe + yoe / 4 - yoe / 100 = yearStart yoe := by
    unfold yearStart
    omega
  rw [hplain]
  obtain ⟨doy, rfl⟩ := Nat.exists_eq_add_of_le' hstart
  rw [Nat.add_sub_cancel]
  have hday : day + 730425 = yearStart (yoe + 400 * era) + doy := by
    rw [yearStart_era]
    omega
  have hdoy : doy < 365 + if leapYear (yoe + 400 * era + 1) then 1 else 0 := by
    have hG := yearStart_succ (yoe + 400 * era)
    rw [show yoe + 400 * era + 1 = yoe + 1 + 400 * era by omega, yearStart_era, yearStart_era] at hG
    rw [show yoe + 400 * era + 1 = yoe + 1 + 400 * era by omega]
    omega
  have h366 : doy < 366 := by split at hdoy <;> omega
  obtain ⟨hmp, hle, hlt⟩ := month_bounds h366
  rw [Nat.mul_comm era 400]
  generalize (5 * doy + 2) / 153 = mp at *
  by_cases hlate : mp < 10
  · rw [if_pos hlate, if_neg (show ¬ mp + 3 ≤ 2 by omega)]
    rw [Nat.add_zero]
    exact isDate_late hday hlate hle hlt
  · obtain ⟨hjanuary, hfebruary⟩ := isDate_early hday hdoy (by omega)
    rw [if_neg hlate, if_pos (show mp - 9 ≤ 2 by omega)]
    obtain rfl | rfl : mp = 10 ∨ mp = 11 := by omega
    · rw [show 10 - 9 = 1 from rfl, show (153 * 10 + 2) / 5 = 306 from rfl]
      exact hjanuary (by omega)
    · rw [show 11 - 9 = 2 from rfl, show (153 * 11 + 2) / 5 = 337 from rfl]
      exact hfebruary (by omega)

theorem daysInMonth_le (y : Nat) {m : Nat} (h : m ≤ 12) : daysInMonth y m ≤ 31 := by
  rw [daysInMonth_eq]
  cases leapYear y <;> interval_cases m <;> decide

/-- A year has at least 365 days. -/
theorem year_le_dayNumber (y m d : Nat) : 365 * (y - 2000) ≤ dayNumber y m d := by
  unfold dayNumber
  dsimp only
  omega

/-- A day's date as it prints. -/
theorem dateSpec_dateText {n : Nat} (h : n < 10 ^ 20) : dateSpec n (dateText n) := by
  obtain ⟨hy, hm, hm12, hd, hdays, hnumber⟩ := calendar_spec n
  have hsmall := hdays.trans (daysInMonth_le _ hm12)
  have hyear : (calendar n).1 < 10 ^ 20 := by
    have hle := year_le_dayNumber (calendar n).1 (calendar n).2.1 (calendar n).2.2
    rw [hnumber] at hle
    omega
  refine ⟨_, _, _, _, _, _, hy, hm, hm12, hd, hdays, hnumber, decimalOf_decimalPad (by decide) hyear,
    decimalOf_decimalPad (by decide) (Nat.lt_of_le_of_lt hm12 (by decide)), decimalOf_decimalPad (by decide) (Nat.lt_of_le_of_lt hsmall (by decide)), rfl⟩

end Sys2Proof.Machine

/-! PROOF (O52). ROOM: the composer hands on the next byte, and composes a line when its buffer is empty (R158, R160 to R162, R181). -/

namespace Sys2Proof.Machine

open Sys2Proof

variable {s : State}

theorem hasRoom_iff (s : State) : hasRoom s = true ↔ s.line.state = .sending ∧ s.line.fifo.length < 64 ∧ s.comp.asked = false := by
  unfold hasRoom
  rw [Bool.and_eq_true, Bool.and_eq_true, beq_iff_eq, decide_eq_true_iff, Bool.not_eq_true', and_assoc]
  rfl

theorem exec_room_full (h : ¬ hasRoom s = true) : exec .room s = .next s := congrArg Host.Outcome.next (if_neg h)

theorem exec_room_byte (h : hasRoom s = true) {b : Byte} {rest : List Byte} (hb : s.comp.buffer = b :: rest) :
    exec .room s = .next (handByte s) := by
  refine congrArg Host.Outcome.next ((if_pos h).trans (congrArg handByte (if_neg ?_)))
  rw [hb]
  exact List.cons_ne_nil _ _

theorem exec_room_empty (h : hasRoom s = true) (hb : s.comp.buffer = []) : exec .room s = .next (handByte (composeLine s)) :=
  congrArg Host.Outcome.next ((if_pos h).trans (congrArg handByte (if_pos hb)))

/-- A composed line changes neither the line nor the start waited for, and its first byte is handed on. -/
theorem exec_room_composed {t : State} (h : hasRoom s = true) (hb : s.comp.buffer = []) (ht : composeLine s = t)
    (hline : t.line = s.line) (hasked : t.comp.asked = s.comp.asked) (hne : t.comp.buffer ≠ []) : exec .room s = exec .room t := by
  obtain ⟨b, rest, hbuf⟩ := List.exists_cons_of_ne_nil hne
  have hroom : hasRoom t = true := by
    rw [hasRoom_iff, hline, hasked]
    exact (hasRoom_iff s).1 h
  rw [exec_room_empty h hb, exec_room_byte hroom hbuf, ht]

/-- The state after a line of the composer. -/
def lineComposed (line : List Byte) (todo : List LineSpec) (date : Option Nat) (mark : Job → Job) (s : State) : State :=
  { s with comp := { s.comp with
      buffer := line, todo := todo, lastDate := date
      queue := match s.comp.queue with | [] => [] | j :: more => mark j :: more } }

theorem exec_room_line {line : List Byte} {todo : List LineSpec} {date : Option Nat} {mark : Job → Job} (h : hasRoom s = true)
    (hb : s.comp.buffer = []) (hc : composeLine s = lineComposed line todo date mark s) (hne : line ≠ []) :
    exec .room s = exec .room (lineComposed line todo date mark s) := exec_room_composed h hb hc rfl rfl hne

theorem printedLine_ne_nil (b : List Byte) : printedLine b ≠ [] := by simp [printedLine]

theorem lineComposed_id (line : List Byte) (todo : List LineSpec) (date : Option Nat) (s : State) :
    lineComposed line todo date id s = s.setComp { s.comp with buffer := line, todo := todo, lastDate := date } := by
  unfold lineComposed
  have hqueue : (match s.comp.queue with | [] => [] | j :: more => id j :: more) = s.comp.queue := by
    cases s.comp.queue <;> rfl
  rw [hqueue]
  rfl

theorem setComp_composed (line : List Byte) (todo : List LineSpec) (f : Job → Job) (s : State) :
    modHead f (s.setComp { s.comp with buffer := line, todo := todo }) = lineComposed line todo s.comp.lastDate f s := by
  unfold modHead lineComposed
  cases hq : s.comp.queue with
  | nil => simp only [State.setComp, hq]
  | cons j more => simp only [State.setComp, hq]

/-- The line that the next piece of a part gives, where the piece names its text itself. -/
theorem composeLine_text {b : List Byte} {rest : List LineSpec} (h : s.comp.todo = .text b :: rest) :
    composeLine s = lineComposed (printedLine b) rest s.comp.lastDate id s := by
  rw [lineComposed_id]
  unfold composeLine
  simp only [h]
  rfl

theorem composeLine_command {b : List Byte} {rest : List LineSpec} (h : s.comp.todo = .command b :: rest) :
    composeLine s = lineComposed b rest s.comp.lastDate id s := by
  rw [lineComposed_id]
  unfold composeLine
  simp only [h]

theorem composeLine_lastLine {b : List Byte} {rest : List LineSpec} (h : s.comp.todo = .lastLine b :: rest) :
    composeLine s = lineComposed (printedLine b) rest s.comp.lastDate (fun j => { j with completed := j.current }) s := by
  rw [← setComp_composed]
  unfold composeLine
  simp only [h]
  rfl

theorem composeLine_closingLine {b : List Byte} {rest : List LineSpec} (h : s.comp.todo = .closingLine b :: rest) :
    composeLine s = lineComposed (printedLine b) rest s.comp.lastDate (fun j => { j with position := .closing }) s := by
  rw [← setComp_composed]
  unfold composeLine
  simp only [h]
  rfl

section
variable {ms day t : Nat} {rest : List LineSpec}

theorem lineTime_of_wallTime (hw : wallTime s.survey.steps ms = some (day, t)) : lineTime ms s = (day, t) := by
  unfold lineTime
  rw [hw]
  rfl

theorem composeLine_fromLine (hw : wallTime s.survey.steps ms = some (day, t)) (h : s.comp.todo = .fromLine ms :: rest) :
    composeLine s = lineComposed (printedLine (spaced [ascii "FROM", dateText day, timeText t])) rest (some day) id s := by
  rw [lineComposed_id]
  unfold composeLine
  simp only [h, lineTime_of_wallTime hw]
  rfl

theorem composeLine_sameDate {n : Nat} {fields : List Byte} (hw : wallTime s.survey.steps ms = some (day, t))
    (h : s.comp.todo = .dated n ms fields :: rest) (hd : s.comp.lastDate = some day) :
    composeLine s = lineComposed (printedLine (spaced [seqText n, timeText t, fields])) rest (some day) id s := by
  rw [lineComposed_id]
  unfold composeLine
  simp only [h, lineTime_of_wallTime hw, if_pos hd]
  rw [← hd]
  rfl

/-- Another date has its date line composed first (R162). -/
theorem composeLine_newDate {n : Nat} {fields : List Byte} (hw : wallTime s.survey.steps ms = some (day, t))
    (h : s.comp.todo = .dated n ms fields :: rest) (hd : s.comp.lastDate ≠ some day) : composeLine s =
      lineComposed (printedLine (spaced [ascii "DATE", dateText day])) (.dated n ms fields :: rest) (some day) id s := by
  rw [lineComposed_id]
  unfold composeLine
  simp only [h, lineTime_of_wallTime hw, if_neg hd]
  rfl

end

/-- Settles O52. -/
theorem roomTakesTheNextByte : Obligations.RoomTakesTheNextByte := by
  refine ⟨⟨headerLines_eq, recordLines_spec, footerLines_eq, fun n hn => ⟨decimalOf_decimal hn, dateSpec_dateText hn, timeSpec_timeText hn,
    seqSpec_seqText hn⟩⟩, fun s => ?_⟩
  intro room after
  refine ⟨fun h => exec_room_full fun e => h ((hasRoom_iff s).1 e), fun h b rest hb => ?_, fun h hb => ?_⟩
  · rw [exec_room_byte ((hasRoom_iff s).2 h) hb]
    unfold handByte
    rw [hb]
    dsimp only
    rw [pump_eq]
  · have hroom := (hasRoom_iff s).2 h
    refine ⟨fun htodo => ?_, fun spec rest htodo => ⟨?_, ?_, ?_, ?_, fun ms day t hw => ⟨?_, fun n fields hspec => ⟨?_, ?_⟩⟩⟩⟩
    · have hsame : composeLine s = s := by
        unfold composeLine
        simp only [htodo]
      rw [exec_room_empty hroom hb, hsame]
      unfold handByte
      rw [hb]
    · rintro b rfl
      exact exec_room_line hroom hb (composeLine_text htodo) (printedLine_ne_nil _)
    · rintro b rfl hne
      exact exec_room_line hroom hb (composeLine_command htodo) hne
    · rintro b rfl
      exact exec_room_line hroom hb (composeLine_lastLine htodo) (printedLine_ne_nil _)
    · rintro b rfl
      exact exec_room_line hroom hb (composeLine_closingLine htodo) (printedLine_ne_nil _)
    · rintro rfl
      exact exec_room_line hroom hb (composeLine_fromLine hw htodo) (printedLine_ne_nil _)
    · subst hspec
      exact fun hd => exec_room_line hroom hb (composeLine_sameDate hw htodo hd) (printedLine_ne_nil _)
    · subst hspec
      exact fun hd => exec_room_line hroom hb (composeLine_newDate hw htodo hd) (printedLine_ne_nil _)

end Sys2Proof.Machine
